-- ==== Sys2Proof/Word.lean ====
section
/-! DEFINITION. The plain types every other file uses: bytes, slots of record memory, and the numbers the manual
counts with. Bit vectors are used only where the manual lays a value out in bits (00_scope.md, Conventions; R194). -/

namespace Sys2Proof

/-- One byte of a link frame or of record memory (R194, R195, R198). -/
abbrev Byte := BitVec 8

/-- The number of a slot of record memory: 0 to 1,048,575 (R102), twenty bits in a record (R198). -/
abbrev Slot := BitVec 20

/-- A picture frame number, 0 to 16,777,215. Frames are counted and compared, never wrapped (R31). -/
abbrev Frame := Nat

/-- A level or an offset in level steps (R3, R6). -/
abbrev Level := Int

/-- One of the 208 controls (R9). -/
abbrev ControlId := Fin 208

/-- One of the 16 group masters; master m is control m (R9). -/
abbrev MasterId := Fin 16

/-- One of the 12 stems (R14). -/
abbrev StemId := Fin 12

/-- One of the eight seats. Seat number n (1 to 8) is index n - 1 (R39). -/
abbrev SeatId := Fin 8

/-- One of the surface ports S0 to S3 (R153). -/
abbrev SurfaceId := Fin 4

/-- One of the three coefficient banks (R142). -/
abbrev BankId := Fin 3

end Sys2Proof
end

