-- ==== Sys2Proof/Syntax.lean ====
section
/-! DEFINITION. The commands of the block: one constructor for each row of spec/opcode_table.json. A row is one of the
part's steps, whole and indivisible (95_what_each_step_holds.md). A row that is the take of a message carries no field of
the message: the message stands at the head of the port's inbound queue (R161, R178). -/

namespace Sys2Proof

/-- The motion flag of a frame mark (R23). -/
inductive Motion where
  | stopped
  | moving
  deriving DecidableEq, Repr

/-- What a link's line coding carries: data bytes and two control symbols no data byte can imitate (R195). -/
inductive LineSymbol where
  | startOfFrame
  | endOfFrame
  | data (b : Byte)
  deriving DecidableEq, Repr

/-- A port with hold lines: a surface port or the editor port (R153, R175). -/
inductive PortId where
  | surface (p : SurfaceId)
  | editor
  deriving DecidableEq, Repr

/-- The commands, in the order of the table. -/
inductive Instr where
  /-- R1: the reset input. -/
  | powerOnReset
  /-- R23: a mark on the synchronizer line, with the result of its line check. -/
  | frameMark (lineOk : Bool) (frame : BitVec 24) (motion : Motion)
  /-- R27: the frame timer expires. -/
  | frameTimerExpiry
  /-- R64: the pass evaluates its next control. -/
  | controlEvaluation
  /-- R77, R78: the evaluation that waits, or whose wait has ended, goes on. -/
  | evaluationResume
  /-- R98: the oldest closed segment waiting for a slot does its closing work. -/
  | deferredClosingWork
  /-- R126: the arbiter grants an access. -/
  | memoryGrant
  /-- R91: an append queue write completes. -/
  | appendWriteComplete
  /-- R98, R100: a closing write completes. -/
  | closingWriteComplete
  /-- R109: a chain-return write completes. -/
  | chainReturnWriteComplete
  /-- R108: a refill read completes. -/
  | refillReadComplete
  /-- R131: a cursor fetch completes. -/
  | fetchComplete
  /-- R134: a relocate walk starts. -/
  | walkStart
  /-- R135: a relocate walk read completes. -/
  | walkReadComplete
  /-- R114: the head segment's splice starts. -/
  | spliceStart
  /-- R115: a splice walk read completes. -/
  | spliceWalkReadComplete
  /-- R117: a splice write completes. -/
  | spliceWriteComplete
  /-- R111: a FORMAT write completes. -/
  | formatWriteComplete
  /-- R121: a list load write completes. -/
  | loadWriteComplete
  /-- R122: the replacement step of a list load. -/
  | loadReplacement
  /-- R183: a LIST RECORD that waits gets its slot. -/
  | loadRecordSlot
  /-- R124: the event of a CLEAR LIST that waits. -/
  | clearListEvent
  /-- R187: the list read requests its next record. -/
  | listReadRequest
  /-- R187: a list read's record arrives. -/
  | listReadComplete
  /-- R148: the engine opens a block. -/
  | blockStart
  /-- R149: the engine closes a block. -/
  | blockEnd
  /-- R150: the engine reads an entry. -/
  | engineRead (index : BitVec 8)
  /-- R154 to R156, R195: line symbols up to the end of a frame arrive at a surface port. -/
  | surfaceFrameReceived (p : SurfaceId) (symbols : List LineSymbol)
  /-- R158: a surface port's silence timer expires. -/
  | silenceExpiry (p : SurfaceId)
  /-- R170, R179: the far end raises or drops its hold line. -/
  | farHoldChange (port : PortId) (raised : Bool)
  /-- R169: a surface port's frame has been sent. -/
  | surfaceFrameSent (p : SurfaceId)
  /-- R45: the TOUCH at the head of a port's inbound queue is taken. -/
  | touch (p : SurfaceId)
  /-- R49: the MOVE at the head is taken. -/
  | move (p : SurfaceId)
  /-- R50: the RELEASE at the head is taken. -/
  | release (p : SurfaceId)
  /-- R51: the BANK at the head is taken. -/
  | bank (p : SurfaceId)
  /-- R52: the MODE at the head is taken. -/
  | mode (p : SurfaceId)
  /-- R53: the QUERY at the head is taken. -/
  | query (p : SurfaceId)
  /-- R163: the HELLO at the head is taken. -/
  | hello (p : SurfaceId)
  /-- R176, R195: line symbols up to the end of a frame arrive at the editor port. -/
  | editorFrameReceived (symbols : List LineSymbol)
  /-- R177: the editor port's silence timer expires. -/
  | editorSilenceExpiry
  /-- R179: the editor port's frame has been sent. -/
  | editorFrameSent
  /-- R180: the SET CONTROL at the head of the editor port's inbound queue is taken. -/
  | setControl
  /-- R180: the SET STEM at the head is taken. -/
  | setStem
  /-- R181: the SET SEAT at the head is taken. -/
  | setSeat
  /-- R22: the SET HUB at the head is taken. -/
  | setHub
  /-- R182: the LIST BEGIN at the head is taken. -/
  | listBegin
  /-- R183: the LIST RECORD at the head is taken. -/
  | listRecord
  /-- R184: the LIST END at the head is taken. -/
  | listEnd
  /-- R186: the READ LIST at the head is taken. -/
  | readList
  /-- R188: the CLEAR LIST at the head is taken. -/
  | clearList
  /-- R189: the STATUS at the head is taken. -/
  | status
  /-- R190: the CLEAR FLAGS at the head is taken. -/
  | clearFlags
  /-- R192: the MIX RESET at the head is taken. -/
  | mixReset
  /-- R193: the LINK RESET at the head is taken. -/
  | linkReset
  deriving DecidableEq, Repr

end Sys2Proof
end

