-- ==== Sys2Proof/Config.lean ====
section
/-! DEFINITION. The constants the manual fixes, and the free values: what the manual leaves open although the part goes
on. A free value is an opaque constant applied to a counter of State, so no proof can see what it is. -/

namespace Sys2Proof.Config

/-- OFF, the level of silence (R3). -/
abbrev off : Level := -4608

/-- The highest level (R3). -/
abbrev maxLevel : Level := 384

/-- The lowest audible level (R3). -/
abbrev minAudible : Level := -4607

/-- The last picture frame (R21, R31). -/
abbrev maxFrame : Frame := 16777215

/-- The number of slots of record memory (R102). -/
abbrev slotCount : Nat := 1048576

/-- The pool low-water mark (R88, R94). -/
abbrev poolLowWater : Nat := 4096

/-- The capacity of the append queue (R84). -/
abbrev appendCapacity : Nat := 64

/-- The capacity of the free slot queue (R105). -/
abbrev freeQueueCapacity : Nat := 64

/-- The capacity of a port's inbound queue (R153, R175). -/
abbrev inboundCapacity : Nat := 32

/-- The places of a port's reply queue (R153, R175). -/
abbrev replyCapacity : Nat := 16

/-- Time is counted in units of 1/1200 s, so that P, 1.5 P and 100 ms are whole numbers (R22, R155). DESIGN CHOICE, log 2. -/
abbrev unitsPerSecond : Nat := 1200

/-- The silence time of a link, 100 ms (R155). -/
abbrev silenceUnits : Nat := 120

/-- FREE VALUE, DESIGN CHOICE, log 7: when the transport leaves STOPPED with a list read in flight and a load or a clear
in flight too, the manual does not say whose ABORTED is posted first (R185, R187, R188). True: the list read's. -/
opaque readAbortsFirst : Nat → Bool

/-- FREE VALUE, DESIGN CHOICE, log 8: the frame field of the record that a chain-return write puts into the chain's last
slot; the manual gives only its next slot (R109). -/
opaque returnFrame : Nat → BitVec 24

/-- FREE VALUE, DESIGN CHOICE, log 8: whether the record of a chain-return write is of kind GAP (R109). -/
opaque returnIsGap : Nat → Bool

/-- FREE VALUE, DESIGN CHOICE, log 8: the level field of the record of a chain-return write (R109). -/
opaque returnLevel : Nat → BitVec 16

end Sys2Proof.Config
end

