-- ==== Sys2Proof/Machine/State.lean ====
section
/-! DEFINITION. The state of the part as plain data, block by block as 00_scope.md lists them, its value after power-on
reset, and the reasons a step could stop. What the manual names once is held once: the append queue is the append writes of
`MemoryPort.requests`, the relocate set is the cursors that are RELOCATING. -/

namespace Sys2Proof.Machine

/-! ## Transport Tracker (R21, R22) -/

/-- The transport states (R21). -/
inductive Transport where
  | stopped
  | chase
  | play
  | freewheel
  deriving DecidableEq, Repr

/-- The Transport Tracker's state (R21); the hub settings but the stale timeout (R22). -/
structure Tracker where
  transport : Transport
  currentFrame : Frame
  runCount : Nat
  freewheelCount : Nat
  /-- The time of the frame timer's next expiry, in units of 1/1200 s (R27). -/
  frameTimer : Nat
  pendingFrame : Option Frame
  lockLost : Bool
  passOverrun : Bool
  rate : Nat
  acquireCount : Nat
  freewheelLimit : Nat
  deriving DecidableEq, Repr

/-! ## Touch Arbiter (R39, R42, R43, R55) -/

/-- A seat record (R39). -/
structure Seat where
  link : Option SurfaceId
  rank : Nat
  bankBase : Nat
  heldTouches : Nat
  deriving DecidableEq, Repr

/-- A touch record (R42). -/
structure Touch where
  holder : SeatId
  lastMove : Frame
  reference : Level
  deriving DecidableEq, Repr

/-- The Touch Arbiter's state. -/
structure Arbiter where
  seats : Vector Seat 8
  touches : Vector (Option Touch) 208
  live : Vector Level 208
  staleTimeout : Nat
  deriving DecidableEq, Repr

/-! ## Pass Engine (R10, R14, R60) -/

/-- The automation modes (R10). -/
inductive Mode where
  | off
  | read
  | touch
  | latch
  | trim
  deriving DecidableEq, Repr

/-- The configuration of a control (R10). -/
structure ControlConfig where
  mode : Mode
  stem : Option StemId
  groupA : Option MasterId
  groupB : Option MasterId
  glideFrames : Nat
  deriving DecidableEq, Repr

/-- A running glide: start level R, start offset, glide count G and step n (R60, R72). -/
structure Glide where
  startLevel : Level
  startOffset : Int
  count : Nat
  step : Nat
  deriving DecidableEq, Repr

/-- The evaluation record of a control (R60). -/
structure EvalRecord where
  presented : Level
  effective : Level
  storedUsed : Option Level
  trimOffset : Int
  glide : Option Glide
  latch : Bool
  latePunch : Bool
  previousMode : Mode
  previousHeld : Bool
  evaluatedFrame : Option Frame
  deriving DecidableEq, Repr

/-- What an evaluation waits for (R60, R77). -/
inductive WaitCause where
  | appendRoom
  | freeSlot
  deriving DecidableEq, Repr

/-- Where an evaluation that has begun and not ended goes on: at a punch-in attempt (R88), at an append (R90), or after
the Segment Writer step (R78). -/
inductive EvalTodo where
  | punchIn
  | append
  | finish
  deriving DecidableEq, Repr

/-- The inputs an evaluation read when it began and what it chose from them (R64, R76, R77). -/
structure Evaluation where
  control : ControlId
  frame : Frame
  config : ControlConfig
  /-- The evaluation mode (R67). -/
  mode : Mode
  held : Bool
  transport : Transport
  transition : Bool
  glideEnded : Bool
  presented : Level
  /-- The control's evaluated frame was none when the evaluation began (R80). -/
  firstEvaluation : Bool
  todo : EvalTodo
  deriving DecidableEq, Repr

/-- The pass state (R60), with the evaluation that waits or was released from its wait (R77, R78). -/
structure PassRun where
  inFlight : Bool
  frame : Option Frame
  position : Option ControlId
  wait : Option WaitCause
  underWay : Option Evaluation
  deriving DecidableEq, Repr

/-- The Pass Engine's state. -/
structure PassEngine where
  config : Vector ControlConfig 208
  safe : Vector Bool 12
  records : Vector EvalRecord 208
  run : PassRun
  deriving DecidableEq, Repr

/-! ## Segment Writer (R84, R85) -/

/-- The newest record of a segment, on chip until its successor is known (R85). -/
structure HeldTail where
  slot : Slot
  frame : Frame
  level : Level
  deriving DecidableEq, Repr

/-- A segment record (R85). -/
structure Segment where
  control : ControlId
  inFrame : Frame
  outFrame : Frame
  count : Nat
  first : Slot
  reserve : Slot
  tail : HeldTail
  lastLevel : Level
  deriving DecidableEq, Repr

/-- The closing work of a closed segment (R98): waiting for a slot for its final record at a frame, closing write posted,
or complete. -/
inductive ClosingWork where
  | waitingSlot (finalFrame : Frame)
  | writing
  | complete
  deriving DecidableEq, Repr

/-- An entry of the splice queue (R112). -/
structure ClosedSegment where
  segment : Segment
  closing : ClosingWork
  deriving DecidableEq, Repr

/-- The Segment Writer's state; its append queue is held in `MemoryPort.requests`. -/
structure SegmentWriter where
  segments : Vector (Option Segment) 208
  closeAllBar : Bool
  deriving DecidableEq, Repr

/-! ## List Store Controller (R102, R103, R105, R110, R113, R120) -/

/-- The kind of a record (R102). -/
inductive RecordKind where
  | level
  | gap
  deriving DecidableEq, Repr

/-- The contents of a record (R102). -/
structure Record where
  frame : Frame
  kind : RecordKind
  level : Level
  last : Bool
  next : Slot
  deriving DecidableEq, Repr

/-- A record with the slot it stands in. -/
structure SlotRecord where
  slot : Slot
  record : Record
  deriving DecidableEq, Repr

/-- A list descriptor (R103). -/
structure Descriptor where
  head : Slot
  tail : Slot
  count : Nat
  deriving DecidableEq, Repr

/-- The refill in flight (R105, R108). -/
inductive Refill where
  | none
  | requested
  | reading (slot : Slot) (stands : Bool)
  deriving DecidableEq, Repr

/-- The store state (R110); while FORMATTING, the slot FORMAT writes next (R111). -/
inductive StoreState where
  | formatting (next : Slot)
  | ready
  deriving DecidableEq, Repr

/-- The run of old records a splice removes: first slot, last slot, length (R113, R115). -/
structure RemovedRun where
  first : Slot
  last : Slot
  length : Nat
  deriving DecidableEq, Repr

/-- What the splice walk has found: P with its contents, the removed run, N's slot and frame, and the old stored value at
out + 1 as far as it is known (R113, R115). -/
structure SpliceAnswer where
  p : Option SlotRecord
  run : Option RemovedRun
  n : Option SlotRecord
  oldValue : Option Level
  deriving DecidableEq, Repr

/-- The splice states (R113). -/
inductive SpliceState where
  | idle
  | waiting
  | walking (soFar : SpliceAnswer)
  | writing (answer : SpliceAnswer)
  deriving DecidableEq, Repr

/-- A list load in flight (R120). Before the first record the last frame has no value in the manual (log 27). -/
structure Load where
  control : ControlId
  expected : Nat
  received : Nat
  first : Option Slot
  tail : Option SlotRecord
  lastFrame : Frame
  endTaken : Bool
  deriving DecidableEq, Repr

/-- The List Store Controller's state, record memory and memory port apart. -/
structure ListStore where
  descriptors : Vector Descriptor 208
  freeHead : Slot
  memoryCount : Nat
  freeQueue : List Slot
  refill : Refill
  poolLow : Bool
  storeState : StoreState
  spliceQueue : List ClosedSegment
  splice : SpliceState
  load : Option Load
  deriving DecidableEq, Repr

/-! ## Record memory and its port (R126, R127) -/

/-- Record memory: (address, byte) pairs, addresses strictly rising, none equal to what an unlisted address reads as. -/
abbrev Memory := List Host.Cell

/-- Who returns a chain, which gives the priority of the return write (R109). -/
inductive ReturnKind where
  | discard
  | splice
  | list
  deriving DecidableEq, Repr

/-- The requests of the memory port (R126). The owner of an append or closing write is the control of its segment, or
none when the segment was discarded (R100). A read that is no longer live completes and its result is dropped. -/
inductive MemRequest where
  | append (owner : Option ControlId) (write : SlotRecord)
  | closing (owner : Option ControlId) (write : SlotRecord)
  | chainReturn (kind : ReturnKind) (write : SlotRecord)
  | fetch (control : ControlId) (slot : Slot)
  | refill (slot : Slot)
  | spliceRead (slot : Slot)
  | spliceWrite (write : SlotRecord)
  | walkRead (slot : Slot) (live : Bool)
  | loadWrite (write : SlotRecord)
  | listRead (slot : Slot) (live : Bool)
  | format (slot : Slot)
  deriving DecidableEq, Repr

/-- The memory port: the requests not yet granted, in posting order (the refill and FORMAT requests follow from the store's
own fields), and the access in progress (R126). -/
structure MemoryPort where
  requests : List MemRequest
  access : Option MemRequest
  deriving DecidableEq, Repr

/-! ## Cursor Unit (R128, R134) -/

/-- The cursor states (R128, R129). -/
inductive CursorState where
  | ready
  | fetching
  | relocating
  | parked
  deriving DecidableEq, Repr

/-- A cursor's current record (R128). -/
structure CurrentRecord where
  slot : Slot
  frame : Frame
  kind : RecordKind
  level : Level
  deriving DecidableEq, Repr

/-- A cursor's lookahead (R128). -/
inductive Lookahead where
  | endOfList
  | record (r : SlotRecord)
  | awaited (slot : Slot)
  deriving DecidableEq, Repr

/-- A cursor (R128). -/
structure Cursor where
  state : CursorState
  current : Option CurrentRecord
  lookahead : Lookahead
  target : Option Frame
  deriving DecidableEq, Repr

/-- The walk in flight: the control walked and the candidate current record (R135). -/
structure Walk where
  control : ControlId
  candidate : Option CurrentRecord
  deriving DecidableEq, Repr

/-- The Cursor Unit's state. -/
structure CursorUnit where
  table : Vector Cursor 208
  walk : Option Walk
  deriving DecidableEq, Repr

/-! ## Engine Port (R142, R143, R199) -/

/-- A bank entry (R142). -/
structure Entry where
  stem : Option StemId
  coefficient : Nat
  deriving DecidableEq, Repr

/-- The Engine Port's state. A bank with none of the three roles is free (R143). -/
structure EnginePort where
  banks : Vector (Vector Entry 192) 3
  published : Option BankId
  reading : Option BankId
  building : Option BankId
  /-- The word on the data output (R199). -/
  dataOut : BitVec 32
  /-- How many frame-published indications have been given (R147). -/
  framePublished : Nat
  deriving DecidableEq, Repr

/-! ## Messages (R172, R173, R193) -/

/-- The refusal reasons (R194). -/
inductive RefusalReason where
  | notMapped
  | full
  | badValue
  | noControl
  | notHolder
  | touchHeld
  | notReady
  | rolling
  | busy
  | noLoad
  | count
  deriving DecidableEq, Repr

/-- The abort reasons (R194). -/
inductive AbortReason where
  | order
  | pool
  | count
  | rolling
  | reset
  deriving DecidableEq, Repr

/-- The notice reasons (R194). -/
inductive NoticeReason where
  | latePunch
  | poolLow
  | truncated
  deriving DecidableEq, Repr

/-- What a STATUS reply reports (R189, R197). -/
structure StatusReport where
  transport : Transport
  currentFrame : Frame
  ready : Bool
  totalFree : Nat
  spliceLength : Nat
  relocateSize : Nat
  links : Byte
  flags : Byte
  deriving DecidableEq, Repr

/-- What a STATE reply reports (R53). -/
structure ControlState where
  control : ControlId
  mode : Mode
  presented : Level
  holder : Option SeatId
  segmentOpen : Bool
  cursor : CursorState
  deriving DecidableEq, Repr

/-- The outbound messages of the surface ports and of the editor port (R173, R197). -/
inductive OutMessage where
  | grant (control : ControlId)
  | lost (control : ControlId) (holder : SeatId)
  | released (control : ControlId)
  | state (report : ControlState)
  | refused (reason : RefusalReason) (kind : Byte) (control : Option Byte)
  | taken (control : ControlId) (holder : SeatId)
  | stale (control : ControlId)
  | notice (control : ControlId) (reason : NoticeReason)
  | transport (state : Transport) (frame : Frame)
  | follow (control : ControlId) (level : Level)
  | done (kind : Byte)
  | aborted (kind : Byte) (reason : AbortReason)
  | record (frame : Frame) (kind : RecordKind) (level : Level)
  | endOfRead (count : Nat)
  | status (report : StatusReport)
  | flags (set : Byte)
  deriving DecidableEq, Repr

/-- The bodies of the seat messages a surface port admits to its inbound queue (R172). -/
inductive SeatBody where
  | hello
  | touch (fader : Nat)
  | move (fader : Nat) (level : Int)
  | release (fader : Nat)
  | bank (base : Nat)
  | mode (fader : Nat) (code : Byte)
  | query (fader : Nat)
  deriving DecidableEq, Repr

/-- An admitted seat message with the seat number of its frame. -/
structure SeatMessage where
  seat : Nat
  body : SeatBody
  deriving DecidableEq, Repr

/-- The fields of SET CONTROL as received (R197). -/
structure SetControlFields where
  control : Byte
  presence : Byte
  mode : Byte
  stem : Byte
  groupA : Byte
  groupB : Byte
  glide : Byte
  deriving DecidableEq, Repr

/-- The fields of LIST RECORD as received (R197). -/
structure LoadRecord where
  frame : Frame
  kind : Byte
  level : Int
  deriving DecidableEq, Repr

/-- The editor commands an editor port admits, with their fields as received (R193, R197). -/
inductive EditorCommand where
  | setControl (fields : SetControlFields)
  | setStem (stem safe : Byte)
  | setSeat (seat link rank : Byte)
  | setHub (rate acquire limit : Byte) (stale : Nat)
  | listBegin (control : Byte) (count : Nat)
  | listRecord (record : LoadRecord)
  | listEnd
  | readList (control : Byte) (fromFrame toFrame : Frame)
  | clearList (control : Byte)
  | status
  | clearFlags (set : Byte)
  | mixReset
  | linkReset (port : Byte)
  deriving DecidableEq, Repr

/-! ## Ports (R153, R175) -/

/-- The link states (R153, R175). -/
inductive LinkState where
  | down
  | up
  deriving DecidableEq, Repr

/-- Where the entry of the frame being transmitted stands (R169, R171, R179); `none` when its port went DOWN meanwhile
(R158). -/
inductive TxSource where
  | reply
  | notice (control : ControlId)
  | transport
  | follow (control : ControlId) (level : Level)
  | flags
  | gone
  deriving DecidableEq, Repr

/-- The frame a transmit arbiter is sending: its bytes, CRC included (R195), and its entry. -/
structure Transmission where
  source : TxSource
  bytes : List Byte
  deriving DecidableEq, Repr

/-- A transport notice (R38, R166); `onLink` while the frame made from it is being sent. -/
structure TransportNotice where
  state : Transport
  frame : Frame
  onLink : Bool
  deriving DecidableEq, Repr

/-- A notice a port owes a seat about a touch (R165). -/
inductive SeatNotice where
  | taken (holder : SeatId)
  | stale
  | latePunch
  | poolLow
  | truncated
  deriving DecidableEq, Repr

/-- An entry of a notice set (R165); `onLink` while the frame made from it is being sent. -/
structure NoticeEntry where
  notice : SeatNotice
  seat : SeatId
  onLink : Bool
  deriving DecidableEq, Repr

/-- An entry of a follow set (R167); `onLink` while the FOLLOW made from it is being sent. -/
structure FollowEntry where
  level : Level
  onLink : Bool
  deriving DecidableEq, Repr

/-- A reply with the seat number it is addressed to (R164). -/
structure SeatReply where
  seat : Nat
  message : OutMessage
  deriving DecidableEq, Repr

/-- A surface port (R153). -/
structure SurfacePort where
  link : LinkState
  silenceTimer : Option Nat
  inbound : List SeatMessage
  holdOut : Bool
  farHold : Bool
  replies : List SeatReply
  notices : Vector (Option NoticeEntry) 208
  transportNotice : Option TransportNotice
  follow : Vector (Option FollowEntry) 208
  followPosition : Option ControlId
  lastSent : Vector (Option Level) 208
  linkDown : Bool
  /-- The bytes of the frame being received, since its start-of-frame symbol (R195). -/
  receiving : Option (List Byte)
  sending : Option Transmission
  deriving DecidableEq, Repr

/-- Who holds a reserved place of the editor port's reply queue (R175). -/
inductive PlaceOwner where
  | load
  | clear
  | read
  | record
  deriving DecidableEq, Repr

/-- A place of the editor port's reply queue (R175). -/
inductive ReplyPlace where
  | held (message : OutMessage)
  | reserved (owner : PlaceOwner)
  deriving DecidableEq, Repr

/-- A list read in flight (R186). -/
structure ListRead where
  control : ControlId
  fromFrame : Frame
  toFrame : Frame
  /-- The next slot to read; none before the first read, which takes the descriptor's head slot. -/
  next : Option Slot
  count : Nat
  atPort : Bool
  deriving DecidableEq, Repr

/-- The editor port (R175). -/
structure EditorPort where
  link : LinkState
  silenceTimer : Option Nat
  inbound : List EditorCommand
  holdOut : Bool
  farHold : Bool
  replies : List ReplyPlace
  /-- none: empty; some onLink: pending, and whether its FLAGS frame is being sent (R179, R191). -/
  flagNotice : Option Bool
  transportNotice : Option TransportNotice
  read : Option ListRead
  clear : Option ControlId
  /-- The LIST RECORD that waits for a slot and stalls the port (R178, R183). -/
  waitingRecord : Option LoadRecord
  receiving : Option (List Byte)
  sending : Option Transmission
  deriving DecidableEq, Repr

/-! ## The whole part -/

/-- The state of the part. `pending`, `now` and `freeDraws` are the model's own (logs 1, 2, 7, 8). -/
structure State where
  pending : List Instr
  now : Nat
  tracker : Tracker
  arbiter : Arbiter
  pass : PassEngine
  writer : SegmentWriter
  store : ListStore
  memory : Memory
  port : MemoryPort
  cursors : CursorUnit
  engine : EnginePort
  surface : Vector SurfacePort 4
  editor : EditorPort
  freeDraws : Nat
  deriving DecidableEq, Repr

/-- The manual names nothing that stops the part: every message is answered, refused by a reply or discarded (R154 to
R156, R176), the engine port refuses no request (chapter 8) and holding is never an error (R66). No meaning faults. -/
inductive Fault where
  deriving DecidableEq, Repr

/-- The only refusal is the host's, for a command without a meaning; no arm of exec uses it. -/
inductive Refusal where
  /-- Raised by an arm of exec for a command that has no meaning yet; safe: the model stops. -/
  | notModelled (mnemonic : String)
  deriving DecidableEq, Repr

/-! ## Power-on reset (R1, R2) -/

/-- The tracker after power-on reset (R21): the frame timer expires one period P of rate 24 after leaving reset (R27). -/
def Tracker.reset : Tracker where
  transport := .stopped
  currentFrame := 0
  runCount := 0
  freewheelCount := 0
  frameTimer := 50
  pendingFrame := none
  lockLost := false
  passOverrun := false
  rate := 24
  acquireCount := 3
  freewheelLimit := 10

/-- A seat after power-on reset (R39). -/
def Seat.reset : Seat := { link := none, rank := 0, bankBase := 0, heldTouches := 0 }

/-- The arbiter after power-on reset (R42, R43, R55). -/
def Arbiter.reset : Arbiter where
  seats := Vector.replicate 8 Seat.reset
  touches := Vector.replicate 208 none
  live := Vector.replicate 208 Config.off
  staleTimeout := 0

/-- A control's configuration after power-on reset (R10). -/
def ControlConfig.reset : ControlConfig :=
  { mode := .off, stem := none, groupA := none, groupB := none, glideFrames := 8 }

/-- An evaluation record after power-on reset (R60). -/
def EvalRecord.reset : EvalRecord where
  presented := Config.off
  effective := Config.off
  storedUsed := none
  trimOffset := 0
  glide := none
  latch := false
  latePunch := false
  previousMode := .off
  previousHeld := false
  evaluatedFrame := none

/-- The pass state with no pass in flight (R60). -/
def PassRun.idle : PassRun :=
  { inFlight := false, frame := none, position := none, wait := none, underWay := none }

/-- The Pass Engine after power-on reset (R10, R14, R60). -/
def PassEngine.reset : PassEngine where
  config := Vector.replicate 208 ControlConfig.reset
  safe := Vector.replicate 12 false
  records := Vector.replicate 208 EvalRecord.reset
  run := PassRun.idle

/-- The Segment Writer after power-on reset (R84). -/
def SegmentWriter.reset : SegmentWriter :=
  { segments := Vector.replicate 208 none, closeAllBar := false }

/-- The empty list (R103). -/
def Descriptor.empty : Descriptor := { head := 0, tail := 0, count := 0 }

/-- The List Store Controller after power-on reset: FORMAT starts at slot 0 (R103, R105, R110, R111, R112, R120). -/
def ListStore.reset : ListStore where
  descriptors := Vector.replicate 208 Descriptor.empty
  freeHead := 0
  memoryCount := 0
  freeQueue := []
  refill := .none
  poolLow := false
  storeState := .formatting 0
  spliceQueue := []
  splice := .idle
  load := none

/-- A cursor after power-on reset (R128). -/
def Cursor.reset : Cursor := { state := .ready, current := none, lookahead := .endOfList, target := none }

/-- The Cursor Unit after power-on reset (R128, R134). -/
def CursorUnit.reset : CursorUnit := { table := Vector.replicate 208 Cursor.reset, walk := none }

/-- The entry every bank holds after power-on reset (R142). -/
def Entry.reset : Entry := { stem := none, coefficient := 0 }

/-- The Engine Port after power-on reset (R142, R143, R199). -/
def EnginePort.reset : EnginePort where
  banks := Vector.replicate 3 (Vector.replicate 192 Entry.reset)
  published := some 0
  reading := none
  building := none
  dataOut := 0x0F000000#32
  framePublished := 0

/-- A surface port after power-on reset (R153, R160); the far hold is an input line, dropped here (DESIGN CHOICE, log 6); no
frame is being received or sent, for which the manual gives no reset value (DESIGN CHOICE, log 25). -/
def SurfacePort.reset : SurfacePort where
  link := .down
  silenceTimer := none
  inbound := []
  holdOut := false
  farHold := false
  replies := []
  notices := Vector.replicate 208 none
  transportNotice := none
  follow := Vector.replicate 208 none
  followPosition := none
  lastSent := Vector.replicate 208 none
  linkDown := false
  receiving := none
  sending := none

/-- The editor port after power-on reset (R175); the far hold, and the frames being received and sent, as for a surface port
(DESIGN CHOICE, logs 6 and 25). -/
def EditorPort.reset : EditorPort where
  link := .down
  silenceTimer := none
  inbound := []
  holdOut := false
  farHold := false
  replies := []
  flagNotice := none
  transportNotice := none
  read := none
  clear := none
  waitingRecord := none
  receiving := none
  sending := none

/-- The part right after power-on reset (R1). -/
def State.reset : State where
  pending := []
  now := 0
  tracker := Tracker.reset
  arbiter := Arbiter.reset
  pass := PassEngine.reset
  writer := SegmentWriter.reset
  store := ListStore.reset
  memory := []
  port := { requests := [], access := none }
  cursors := CursorUnit.reset
  engine := EnginePort.reset
  surface := Vector.replicate 4 SurfacePort.reset
  editor := EditorPort.reset
  freeDraws := 0

end Sys2Proof.Machine
end

