-- ==== Sys2Proof/Machine/Ops.lean ====
section
/-! DEFINITION. Reading and writing the items of state: one accessor and one updater for each table, and the questions
several blocks ask of the state (who sees a control, whether a path is SAFE, how full the pool is). -/

namespace Sys2Proof.Machine

/-- Reads entry i of a table. -/
def tget {α : Type} {n : Nat} (v : Vector α n) (i : Fin n) : α := v[i.val]

/-- Writes entry i of a table. -/
def tset {α : Type} {n : Nat} (v : Vector α n) (i : Fin n) (x : α) : Vector α n := v.set i.val x i.isLt

/-- The table whose entry i is f i. -/
def tbuild {α : Type} {n : Nat} (f : Fin n → α) : Vector α n := Vector.ofFn f

namespace State

/-! ### Touch Arbiter -/

/-- The seat record of a seat (R39). -/
def seatOf (s : State) (i : SeatId) : Seat := tget s.arbiter.seats i

/-- Replaces a seat record. -/
def setSeat (s : State) (i : SeatId) (x : Seat) : State :=
  { s with arbiter := { s.arbiter with seats := tset s.arbiter.seats i x } }

/-- The touch table entry of a control (R42). -/
def touchOf (s : State) (c : ControlId) : Option Touch := tget s.arbiter.touches c

/-- Replaces a touch table entry. -/
def setTouch (s : State) (c : ControlId) (x : Option Touch) : State :=
  { s with arbiter := { s.arbiter with touches := tset s.arbiter.touches c x } }

/-- The live level of a control (R43). -/
def liveOf (s : State) (c : ControlId) : Level := tget s.arbiter.live c

/-- Sets a live level. -/
def setLive (s : State) (c : ControlId) (l : Level) : State :=
  { s with arbiter := { s.arbiter with live := tset s.arbiter.live c l } }

/-! ### Pass Engine -/

/-- The configuration of a control (R10). -/
def configOf (s : State) (c : ControlId) : ControlConfig := tget s.pass.config c

/-- Replaces a control's configuration. -/
def setConfig (s : State) (c : ControlId) (x : ControlConfig) : State :=
  { s with pass := { s.pass with config := tset s.pass.config c x } }

/-- The evaluation record of a control (R60). -/
def recordOf (s : State) (c : ControlId) : EvalRecord := tget s.pass.records c

/-- Replaces an evaluation record. -/
def setRecord (s : State) (c : ControlId) (x : EvalRecord) : State :=
  { s with pass := { s.pass with records := tset s.pass.records c x } }

/-- Replaces the pass state (R60). -/
def setRun (s : State) (x : PassRun) : State := { s with pass := { s.pass with run := x } }

/-! ### Segment Writer -/

/-- The open segment of a control, if any (R84). -/
def segmentOf (s : State) (c : ControlId) : Option Segment := tget s.writer.segments c

/-- Replaces a segment table entry. -/
def setSegment (s : State) (c : ControlId) (x : Option Segment) : State :=
  { s with writer := { s.writer with segments := tset s.writer.segments c x } }

/-! ### List Store Controller and its port -/

/-- The list descriptor of a control (R103). -/
def listOf (s : State) (c : ControlId) : Descriptor := tget s.store.descriptors c

/-- Replaces a list descriptor. -/
def setList (s : State) (c : ControlId) (x : Descriptor) : State :=
  { s with store := { s.store with descriptors := tset s.store.descriptors c x } }

/-- Replaces the splice queue. -/
def setSpliceQueue (s : State) (q : List ClosedSegment) : State := { s with store := { s.store with spliceQueue := q } }

/-- Replaces the load state (R120). -/
def setLoad (s : State) (x : Option Load) : State := { s with store := { s.store with load := x } }

/-- Posts a request at the memory port, behind every request posted before it (R126, R127). -/
def postRequest (s : State) (r : MemRequest) : State := { s with port := { s.port with requests := s.port.requests ++ [r] } }

/-- Ends the access in progress (R126). -/
def endAccess (s : State) : State := { s with port := { s.port with access := none } }

/-! ### Cursor Unit -/

/-- The cursor of a control (R128). -/
def cursorOf (s : State) (c : ControlId) : Cursor := tget s.cursors.table c

/-- Replaces a cursor. -/
def setCursor (s : State) (c : ControlId) (x : Cursor) : State :=
  { s with cursors := { s.cursors with table := tset s.cursors.table c x } }

/-- Replaces the walk in flight (R134). -/
def setWalk (s : State) (x : Option Walk) : State := { s with cursors := { s.cursors with walk := x } }

/-! ### Engine Port -/

/-- Entry p of a bank (R142). -/
def entryOf (s : State) (b : BankId) (p : Fin 192) : Entry := tget (tget s.engine.banks b) p

/-- Writes entry p of a bank. -/
def setEntry (s : State) (b : BankId) (p : Fin 192) (e : Entry) : State :=
  { s with engine := { s.engine with banks := tset s.engine.banks b (tset (tget s.engine.banks b) p e) } }

/-! ### Ports -/

/-- The surface port p (R153). -/
def surfaceOf (s : State) (p : SurfaceId) : SurfacePort := tget s.surface p

/-- Replaces a surface port. -/
def setSurface (s : State) (p : SurfaceId) (x : SurfacePort) : State := { s with surface := tset s.surface p x }

/-! ### Questions asked of the whole state -/

/-- Whether a seat shows a control: the control lies in the seat's addressed range (R40). -/
def seatShows (x : Seat) (c : ControlId) : Bool := x.bankBase ≤ c.val && c.val ≤ x.bankBase + 31

/-- Whether a control is visible on a surface port: some seat mapped to the port shows it (R40). -/
def visible (s : State) (p : SurfaceId) (c : ControlId) : Bool :=
  (List.finRange 8).any (fun i => (s.seatOf i).link == some p && seatShows (s.seatOf i) c)

/-- Whether a control is a path whose stem, as configured now, is SAFE (R14). A master's stem is NONE. -/
def isSafe (s : State) (c : ControlId) : Bool :=
  16 ≤ c.val && (match (s.configOf c).stem with
    | some i => tget s.pass.safe i
    | none => false)

/-- The total free count (R105). -/
def totalFree (s : State) : Nat := s.store.freeQueue.length + s.store.memoryCount

/-- Whether the store is READY (R110). -/
def storeReady (s : State) : Bool := s.store.storeState == .ready

/-- Whether a splice of a control is queued or in progress (R99). -/
def spliceQueued (s : State) (c : ControlId) : Bool := s.store.spliceQueue.any (fun e => e.segment.control == c)

/-- How many closed segments wait for a slot for their closing work (R98). -/
def closingWaiters (s : State) : Nat :=
  s.store.spliceQueue.countP (fun e => match e.closing with
    | .waitingSlot _ => true
    | _ => false)

/-- The slots of the free slot queue a pass evaluation may take: none while a closed segment waits for one (R98, R107). -/
def slotsForPass (s : State) : Nat := if s.closingWaiters = 0 then s.store.freeQueue.length else 0

/-- The slots of the free slot queue a load record may take: it comes last, so none while a closed segment or the pass
waits for one (R107; DEDUCED, log 13). -/
def slotsForLoad (s : State) : Nat := if s.pass.run.wait = some .freeSlot then 0 else s.slotsForPass

/-- Every request of the memory port that has not completed: the access in progress and those not granted (R126). -/
def outstanding (s : State) : List MemRequest := s.port.access.toList ++ s.port.requests

/-- The append queue: the append writes not completed, oldest first (R84, R91). -/
def appendQueue (s : State) : List MemRequest :=
  s.outstanding.filter (fun r => match r with
    | .append _ _ => true
    | _ => false)

/-- Whether a cursor fetch of a control is in flight, from its request to its completion (R131). -/
def fetchInFlight (s : State) (c : ControlId) : Bool :=
  s.outstanding.any (fun r => match r with
    | .fetch d _ => d == c
    | _ => false)

/-- Whether the walk in flight is of a control (R134, R137). -/
def walkInFlight (s : State) (c : ControlId) : Bool :=
  match s.cursors.walk with
  | some w => w.control == c
  | none => false

/-- Whether a splice of a control is WALKING or WRITING (R113, R114). -/
def spliceRunning (s : State) (c : ControlId) : Bool :=
  match s.store.splice, s.store.spliceQueue with
  | .walking _, e :: _ => e.segment.control == c
  | .writing _, e :: _ => e.segment.control == c
  | _, _ => false

/-- The relocate set size: the cursors that are RELOCATING (R134). -/
def relocateSize (s : State) : Nat :=
  (List.finRange 208).countP (fun c => (s.cursorOf c).state == .relocating)

/-- The lowest-numbered control of the relocate set (R134). -/
def lowestRelocating (s : State) : Option ControlId :=
  (List.finRange 208).find? (fun c => (s.cursorOf c).state == .relocating)

end State

/-- Whether a transport state is rolling (02, section 2.1). -/
def Transport.rolling : Transport → Bool
  | .play | .freewheel => true
  | .stopped | .chase => false

end Sys2Proof.Machine
end

