-- ==== Sys2Proof/Machine/Formats.lean ====
section
/-! DEFINITION. The byte layouts of chapter 11: link frames and their CRC, message payloads, the record slot and the
engine word (R194 to R199). -/

namespace Sys2Proof.Machine

/-! ## Fields (R194) -/

/-- One byte of a number. -/
def byteOf (n : Nat) : Byte := BitVec.ofNat 8 n

/-- Two bytes, high byte first (R194). -/
def bytes2 (n : Nat) : List Byte := [byteOf (n / 256), byteOf n]

/-- Three bytes, high byte first (R194). -/
def bytes3 (n : Nat) : List Byte := [byteOf (n / 65536), byteOf (n / 256), byteOf n]

/-- A level as 16-bit two's complement, high byte first (R194). -/
def levelBytes (l : Level) : List Byte := bytes2 (BitVec.ofInt 16 l).toNat

/-- The number two bytes spell. -/
def number2 (hi lo : Byte) : Nat := hi.toNat * 256 + lo.toNat

/-- The number three bytes spell. -/
def number3 (hi mid lo : Byte) : Nat := hi.toNat * 65536 + mid.toNat * 256 + lo.toNat

/-- The level two bytes spell, before any clamping (R194). -/
def signed2 (hi lo : Byte) : Int := (BitVec.ofNat 16 (number2 hi lo)).toInt

/-- Mode codes (R194). -/
def modeCode : Mode → Byte
  | .off => 0
  | .read => 1
  | .touch => 2
  | .latch => 3
  | .trim => 4

/-- Transport state codes (R194). -/
def transportCode : Transport → Byte
  | .stopped => 0
  | .chase => 1
  | .play => 2
  | .freewheel => 3

/-- Cursor state codes (R194). -/
def cursorCode : CursorState → Byte
  | .ready => 0
  | .fetching => 1
  | .relocating => 2
  | .parked => 3

/-- Record kind codes (R194). -/
def kindCode : RecordKind → Byte
  | .level => 0
  | .gap => 1

/-- Refusal reason codes (R194). -/
def refusalCode : RefusalReason → Byte
  | .notMapped => 1
  | .full => 2
  | .badValue => 3
  | .noControl => 4
  | .notHolder => 5
  | .touchHeld => 6
  | .notReady => 7
  | .rolling => 8
  | .busy => 9
  | .noLoad => 10
  | .count => 11

/-- Abort reason codes (R194). -/
def abortCode : AbortReason → Byte
  | .order => 1
  | .pool => 2
  | .count => 3
  | .rolling => 4
  | .reset => 5

/-- Notice reason codes (R194). -/
def noticeCode : NoticeReason → Byte
  | .latePunch => 1
  | .poolLow => 2
  | .truncated => 3

/-- A control number as a byte (R194). -/
def controlByte (c : ControlId) : Byte := byteOf c.val

/-- A seat as a byte of a payload: its number 1 to 8 (R194). -/
def seatByte (i : SeatId) : Byte := byteOf (i.val + 1)

/-- A Boolean as a byte. -/
def flagByte (b : Bool) : Byte := if b then 1 else 0

/-! ## Message kinds (R196, R197) -/

/-- The kind codes of the inbound surface messages (R196). -/
def kindHello : Byte := 0x01#8
/-- IDLE (R196). -/
def kindIdle : Byte := 0x02#8
/-- TOUCH (R196). -/
def kindTouch : Byte := 0x03#8
/-- MOVE (R196). -/
def kindMove : Byte := 0x04#8
/-- RELEASE (R196). -/
def kindRelease : Byte := 0x05#8
/-- BANK (R196). -/
def kindBank : Byte := 0x06#8
/-- MODE (R196). -/
def kindMode : Byte := 0x07#8
/-- QUERY (R196). -/
def kindQuery : Byte := 0x08#8
/-- SET CONTROL (R197). -/
def kindSetControl : Byte := 0x41#8
/-- SET STEM (R197). -/
def kindSetStem : Byte := 0x42#8
/-- SET SEAT (R197). -/
def kindSetSeat : Byte := 0x43#8
/-- SET HUB (R197). -/
def kindSetHub : Byte := 0x44#8
/-- LIST BEGIN (R197). -/
def kindListBegin : Byte := 0x45#8
/-- LIST RECORD (R197). -/
def kindListRecord : Byte := 0x46#8
/-- LIST END (R197). -/
def kindListEnd : Byte := 0x47#8
/-- READ LIST (R197). -/
def kindReadList : Byte := 0x48#8
/-- CLEAR LIST (R197). -/
def kindClearList : Byte := 0x49#8
/-- STATUS (R197). -/
def kindStatus : Byte := 0x4A#8
/-- CLEAR FLAGS (R197). -/
def kindClearFlags : Byte := 0x4B#8
/-- MIX RESET (R197). -/
def kindMixReset : Byte := 0x4C#8
/-- LINK RESET (R197). -/
def kindLinkReset : Byte := 0x4D#8

/-- The payload length of an inbound kind of a surface port, or none where the kind is not one of the eight (R154, R196). -/
def surfaceLength (kind : Byte) : Option Nat :=
  if kind = kindHello ∨ kind = kindIdle then some 0
  else if kind = kindTouch ∨ kind = kindRelease ∨ kind = kindQuery then some 1
  else if kind = kindBank ∨ kind = kindMode then some 2
  else if kind = kindMove then some 3
  else none

/-- The payload length of IDLE or of an editor command, or none where the kind is none of them (R176, R197). -/
def editorLength (kind : Byte) : Option Nat :=
  if kind = kindIdle ∨ kind = kindListEnd ∨ kind = kindStatus ∨ kind = kindMixReset then some 0
  else if kind = kindClearList ∨ kind = kindClearFlags ∨ kind = kindLinkReset then some 1
  else if kind = kindSetStem then some 2
  else if kind = kindSetSeat ∨ kind = kindListBegin then some 3
  else if kind = kindSetHub then some 5
  else if kind = kindListRecord then some 6
  else if kind = kindSetControl ∨ kind = kindReadList then some 7
  else none

/-! ## Link frames (R195) -/

/-- One bit of the CRC of R195: polynomial x^16 + x^12 + x^5 + 1, most significant bit first. -/
def crcShift (crc : BitVec 16) : BitVec 16 :=
  if crc.msb then (crc <<< 1) ^^^ 0x1021#16 else crc <<< 1

/-- One byte of the CRC of R195. -/
def crcByte (crc : BitVec 16) (b : Byte) : BitVec 16 :=
  Nat.iterate crcShift 8 (crc ^^^ ((b.setWidth 16) <<< 8))

/-- The CRC-16 of R195: from 0xFFFF, neither reflected nor inverted. -/
def crc16 (bs : List Byte) : BitVec 16 := bs.foldl crcByte 0xFFFF#16

/-- The data bytes of the frame for a seat number, kind and payload, CRC included (R195). -/
def frameBytes (seat : Nat) (kind : Byte) (payload : List Byte) : List Byte :=
  let body := [byteOf (seat % 16), kind, byteOf payload.length] ++ payload
  body ++ bytes2 (crc16 body).toNat

/-- What a frame that passes the link checks carries. -/
structure LinkFrame where
  seat : Nat
  kind : Byte
  payload : List Byte
  deriving DecidableEq, Repr

/-- The link checks on the data bytes between two control symbols (R154, R195): at least five bytes, the CRC, the length
field, and the length of the kinds the port knows. Bits 7 to 4 of the seat byte are ignored. -/
def parseFrame (lengthOf : Byte → Option Nat) (bs : List Byte) : Option LinkFrame :=
  match bs with
  | seat :: kind :: len :: rest =>
    let n := rest.length - 2
    let payload := rest.take n
    if 2 ≤ rest.length
        ∧ rest.drop n = bytes2 (crc16 (seat :: kind :: len :: payload)).toNat
        ∧ len.toNat = n
        ∧ (lengthOf kind = none ∨ lengthOf kind = some n) then
      some { seat := seat.toNat % 16, kind := kind, payload := payload }
    else none
  | _ => none

/-- A fader message's fader, and so on: the seat message a valid frame of an admitted kind carries (R172, R196). -/
def seatBody (kind : Byte) (payload : List Byte) : Option SeatBody :=
  match payload with
  | [] => if kind = kindHello then some .hello else none
  | [f] =>
    if kind = kindTouch then some (.touch f.toNat)
    else if kind = kindRelease then some (.release f.toNat)
    else if kind = kindQuery then some (.query f.toNat)
    else none
  | [a, b] =>
    if kind = kindBank then some (.bank (number2 a b))
    else if kind = kindMode then some (.mode a.toNat b)
    else none
  | [f, hi, lo] => if kind = kindMove then some (.move f.toNat (signed2 hi lo)) else none
  | _ => none

/-- The kind code of an admitted seat message (R196). -/
def SeatBody.kind : SeatBody → Byte
  | .hello => kindHello
  | .touch _ => kindTouch
  | .move _ _ => kindMove
  | .release _ => kindRelease
  | .bank _ => kindBank
  | .mode _ _ => kindMode
  | .query _ => kindQuery

/-- The editor command a valid frame of an admitted kind carries (R193, R197). -/
def editorCommand (kind : Byte) (payload : List Byte) : Option EditorCommand :=
  match payload with
  | [] =>
    if kind = kindListEnd then some .listEnd
    else if kind = kindStatus then some .status
    else if kind = kindMixReset then some .mixReset
    else none
  | [a] =>
    if kind = kindClearList then some (.clearList a)
    else if kind = kindClearFlags then some (.clearFlags a)
    else if kind = kindLinkReset then some (.linkReset a)
    else none
  | [a, b] => if kind = kindSetStem then some (.setStem a b) else none
  | [a, b, c] =>
    if kind = kindSetSeat then some (.setSeat a b c)
    else if kind = kindListBegin then some (.listBegin a (number2 b c))
    else none
  | [a, b, c, d, e] => if kind = kindSetHub then some (.setHub a b c (number2 d e)) else none
  | [a, b, c, d, e, f] =>
    if kind = kindListRecord then
      some (.listRecord { frame := number3 a b c, kind := d, level := signed2 e f })
    else none
  | [a, b, c, d, e, f, g] =>
    if kind = kindSetControl then
      some (.setControl { control := a, presence := b, mode := c, stem := d, groupA := e, groupB := f, glide := g })
    else if kind = kindReadList then some (.readList a (number3 b c d) (number3 e f g))
    else none
  | _ => none

/-! ## Outbound messages (R196, R197) -/

/-- The kind code of an outbound message (R196, R197). -/
def OutMessage.kind : OutMessage → Byte
  | .grant _ => 0x21#8
  | .lost _ _ => 0x22#8
  | .released _ => 0x23#8
  | .state _ => 0x24#8
  | .refused _ _ _ => 0x25#8
  | .taken _ _ => 0x26#8
  | .stale _ => 0x27#8
  | .notice _ _ => 0x28#8
  | .transport _ _ => 0x29#8
  | .follow _ _ => 0x2A#8
  | .done _ => 0x61#8
  | .aborted _ _ => 0x62#8
  | .record _ _ _ => 0x63#8
  | .endOfRead _ => 0x64#8
  | .status _ => 0x65#8
  | .flags _ => 0x66#8

/-- The payload of an outbound message (R196, R197). -/
def OutMessage.payload : OutMessage → List Byte
  | .grant c => [controlByte c]
  | .lost c h => [controlByte c, seatByte h]
  | .released c => [controlByte c]
  | .state r =>
    [controlByte r.control, modeCode r.mode] ++ levelBytes r.presented ++
      [(r.holder.map seatByte).getD 0, flagByte r.segmentOpen, cursorCode r.cursor]
  | .refused reason kind control => [refusalCode reason, kind, control.getD 255#8]
  | .taken c h => [controlByte c, seatByte h]
  | .stale c => [controlByte c]
  | .notice c reason => [controlByte c, noticeCode reason]
  | .transport st frame => [transportCode st] ++ bytes3 frame
  | .follow c l => [controlByte c] ++ levelBytes l
  | .done kind => [kind]
  | .aborted kind reason => [kind, abortCode reason]
  | .record frame kind level => bytes3 frame ++ [kindCode kind] ++ levelBytes level
  | .endOfRead n => bytes3 n
  | .status r =>
    [transportCode r.transport] ++ bytes3 r.currentFrame ++ [flagByte r.ready] ++ bytes3 r.totalFree ++
      [byteOf r.spliceLength, byteOf r.relocateSize, r.links, r.flags]
  | .flags set => [set]

/-- The bytes of an outbound message addressed to a seat number (R173, R195, R197). -/
def OutMessage.bytes (m : OutMessage) (seat : Nat) : List Byte := frameBytes seat m.kind m.payload

/-- The message made from an entry of a notice set (R173). -/
def SeatNotice.message (c : ControlId) : SeatNotice → OutMessage
  | .taken h => .taken c h
  | .stale => .stale c
  | .latePunch => .notice c .latePunch
  | .poolLow => .notice c .poolLow
  | .truncated => .notice c .truncated

/-! ## The record slot (R198) -/

/-- Byte 3 of a slot: bit 0 kind, bit 1 LAST (R198). -/
def recordFlags (r : Record) : Byte :=
  (if r.kind = .gap then 1#8 else 0#8) ||| (if r.last then 2#8 else 0#8)

/-- The sixteen bytes of a record (R198): level 0 for GAP, next slot 0 when LAST is set. -/
def recordBytes (r : Record) : List Byte :=
  bytes3 r.frame ++ [recordFlags r] ++ (if r.kind = .gap then [0#8, 0#8] else levelBytes r.level) ++
    (if r.last then [0#8, 0#8, 0#8] else bytes3 r.next.toNat) ++ List.replicate 7 0#8

/-- The record a read takes from the sixteen bytes of a slot (R198); the bits written 0 are ignored. -/
def recordOfBytes (b : Fin 16 → Byte) : Record where
  frame := number3 (b 0) (b 1) (b 2)
  kind := if (b 3).getLsbD 0 then .gap else .level
  last := (b 3).getLsbD 1
  level := signed2 (b 4) (b 5)
  next := BitVec.ofNat 20 (number3 (b 6) (b 7) (b 8))

/-- The record FORMAT writes into a slot (R111). -/
def formatRecord (slot : Slot) : Record where
  frame := 0
  kind := .level
  level := 0
  last := slot == BitVec.allOnes 20
  next := if slot == BitVec.allOnes 20 then 0 else slot + 1

/-! ## The engine word (R199) -/

/-- The 32-bit word of an entry: coefficient in bits 23 to 0, stem (15 for NONE) in bits 27 to 24 (R199). -/
def engineWord (e : Entry) : BitVec 32 :=
  BitVec.ofNat 32 ((match e.stem with
    | some i => i.val
    | none => 15) * 16777216 + e.coefficient % 16777216)

end Sys2Proof.Machine
end

