-- ==== Sys2Proof/Machine/RecordMemory.lean ====
section
/-! DEFINITION. Record memory as bytes (R102, R198): a list of (address, byte) pairs with rising addresses that lists no
byte equal to what an unlisted address reads as, and the accesses of one whole slot the controller makes (R126). -/

namespace Sys2Proof.Machine.Memory

/-- What an unlisted address reads as: the byte FORMAT writes there (R111). Nothing is read before FORMAT has written it
(R102). DESIGN CHOICE, log 4. -/
def unlisted (a : Nat) : Byte := (recordBytes (formatRecord (BitVec.ofNat 20 (a / 16)))).getD (a % 16) 0

/-- The byte at an address. -/
def read (m : Memory) (a : Nat) : Byte :=
  match m with
  | [] => unlisted a
  | (k, b) :: rest => if k = a then b else if a < k then unlisted a else read rest a

/-- Writes the byte at an address, keeping the canonical form. -/
def write (m : Memory) (a : Nat) (b : Byte) : Memory :=
  match m with
  | [] => if b = unlisted a then [] else [(a, b)]
  | (k, x) :: rest =>
    if k = a then (if b = unlisted a then rest else (a, b) :: rest)
    else if a < k then (if b = unlisted a then (k, x) :: rest else (a, b) :: (k, x) :: rest)
    else (k, x) :: write rest a b

/-- Writes bytes at rising addresses from a. -/
def writeBytes (m : Memory) (a : Nat) : List Byte → Memory
  | [] => m
  | b :: bs => writeBytes (write m a b) (a + 1) bs

/-- The address of byte 0 of a slot (R102, R198). -/
def slotAddress (slot : Slot) : Nat := 16 * slot.toNat

/-- Writes a whole slot (R198). -/
def writeSlot (m : Memory) (slot : Slot) (r : Record) : Memory := writeBytes m (slotAddress slot) (recordBytes r)

/-- Reads a whole slot (R198). -/
def readSlot (m : Memory) (slot : Slot) : Record := recordOfBytes (fun i => read m (slotAddress slot + i.val))

/-- The canonical form: addresses strictly rising and in record memory, no entry equal to what its address reads as
unlisted. -/
def wf (m : Memory) : Bool :=
  decide (m.Pairwise (fun x y => x.1 < y.1)) && m.all (fun x => decide (x.1 < 16777216) && decide (x.2 ≠ unlisted x.1))

end Sys2Proof.Machine.Memory
end

