-- ==== Sys2Proof/Machine/Cursors.lean ====
section
/-! DEFINITION. The cursors' shared operations: advancing and answering, relocation requests, and ending a walk
(R130 to R138). -/

namespace Sys2Proof.Machine

/-- The current record made from a record of the list (R128). -/
def SlotRecord.current (r : SlotRecord) : CurrentRecord :=
  { slot := r.slot, frame := r.record.frame, kind := r.record.kind, level := r.record.level }

/-- The stored value a current record gives: its level if LEVEL, absent if GAP or none (R65, R132). -/
def storedOf : Option CurrentRecord → Option Level
  | some r => if r.kind = .level then some r.level else none
  | none => none

/-- The cursor of an empty list (R128, R133). -/
def Cursor.atEmptyList : Cursor := Cursor.reset

/-- What a cursor becomes at a relocation request, by whether its list is empty (R133, R137, R138). -/
def Cursor.relocated (x : Cursor) (listEmpty : Bool) : Cursor :=
  if listEmpty then Cursor.atEmptyList else { x with state := .relocating, target := none }

/-- A relocate walk read whose result is dropped when it completes (R136). -/
def MemRequest.dropWalk : MemRequest → MemRequest
  | .walkRead slot _ => .walkRead slot false
  | r => r

/-- A list read whose result is dropped when it completes (R177, R187). -/
def MemRequest.dropList : MemRequest → MemRequest
  | .listRead slot _ => .listRead slot false
  | r => r

namespace State

/-- Applies a change to every request of the memory port that has not completed. -/
def mapRequests (s : State) (f : MemRequest → MemRequest) : State :=
  { s with port := { requests := s.port.requests.map f, access := s.port.access.map f } }

/-- Whether a control's list is empty (R103). -/
def listEmpty (s : State) (c : ControlId) : Bool := (s.listOf c).count == 0

/-- The advance of a control's cursor to a pass frame (R130). -/
def advanceCursor (s : State) (c : ControlId) (t : Frame) : State :=
  let x := s.cursorOf c
  match x.state, x.lookahead with
  | .ready, .record r =>
    if r.record.frame ≤ t then
      if r.record.last then s.setCursor c { x with current := some r.current, lookahead := .endOfList }
      else
        (s.setCursor c { x with
          state := .fetching, current := some r.current, lookahead := .awaited r.record.next }).postRequest
          (.fetch c r.record.next)
    else s
  | _, _ => s

/-- The stored value an evaluation uses, after the advance (R65, R66, R132). -/
def storedValue (s : State) (c : ControlId) : Option Level :=
  match (s.cursorOf c).state with
  | .relocating => (s.recordOf c).storedUsed
  | .ready | .fetching | .parked => storedOf (s.cursorOf c).current

/-- A relocate-one request (R133). -/
def relocateOne (s : State) (c : ControlId) : State := s.setCursor c ((s.cursorOf c).relocated (s.listEmpty c))

/-- A relocate-all request: every cursor not PARKED is relocated, and a walk in flight is abandoned (R133, R136). -/
def relocateAll (s : State) : State :=
  let dropped := s.mapRequests MemRequest.dropWalk
  { dropped with cursors :=
    { table := tbuild (fun c =>
        if (s.cursorOf c).state = .parked then s.cursorOf c else (s.cursorOf c).relocated (s.listEmpty c))
      walk := none } }

/-- Whether some relocate walk read has not completed (R136). -/
def walkReadOutstanding (s : State) : Bool :=
  s.outstanding.any (fun r => match r with
    | .walkRead _ _ => true
    | _ => false)

/-- Ends a walk with its answer (R135). -/
def endWalk (s : State) (c : ControlId) (candidate : Option CurrentRecord) (lookahead : Lookahead) : State :=
  (s.setWalk none).setCursor c { state := .ready, current := candidate, lookahead := lookahead, target := none }

end State

end Sys2Proof.Machine
end

