-- ==== Sys2Proof/Machine/Flags.lean ====
section
/-! DEFINITION. The seven sticky flags: how each rises, how the editor port hears of it, how they are cleared and reported
(R37, R94, R160, R190, R191, R194). -/

namespace Sys2Proof.Machine.State

/-- A sticky flag rises: the editor port's flag notice becomes pending if the port is UP (R191). A notice whose FLAGS frame
is being sent is renewed, so the rise is not lost (DEDUCED, log 10). -/
def flagRise (s : State) : State :=
  if s.editor.link = .up then { s with editor := { s.editor with flagNotice := some false } } else s

/-- Sets LOCK_LOST (R37). -/
def raiseLockLost (s : State) : State :=
  if s.tracker.lockLost then s else flagRise { s with tracker := { s.tracker with lockLost := true } }

/-- Sets PASS_OVERRUN (R37). -/
def raisePassOverrun (s : State) : State :=
  if s.tracker.passOverrun then s else flagRise { s with tracker := { s.tracker with passOverrun := true } }

/-- Sets POOL_LOW (R94). -/
def raisePoolLow (s : State) : State :=
  if s.store.poolLow then s else flagRise { s with store := { s.store with poolLow := true } }

/-- Sets LINK_DOWN[p] (R160). -/
def raiseLinkDown (s : State) (p : SurfaceId) : State :=
  if (s.surfaceOf p).linkDown then s else flagRise (s.setSurface p { s.surfaceOf p with linkDown := true })

/-- Whether any sticky flag is set (R177). -/
def anyFlag (s : State) : Bool :=
  s.tracker.lockLost || s.tracker.passOverrun || s.store.poolLow ||
    (List.finRange 4).any (fun p => (s.surfaceOf p).linkDown)

/-- A bit of a byte. -/
def bitByte (b : Bool) (i : Nat) : Byte := if b then byteOf (2 ^ i) else 0

/-- The flag set: bit 0 LOCK_LOST, bit 1 PASS_OVERRUN, bit 2 POOL_LOW, bits 3 to 6 LINK_DOWN[0] to [3] (R194). -/
def flagSet (s : State) : Byte :=
  bitByte s.tracker.lockLost 0 ||| bitByte s.tracker.passOverrun 1 ||| bitByte s.store.poolLow 2 |||
    bitByte (s.surfaceOf 0).linkDown 3 ||| bitByte (s.surfaceOf 1).linkDown 4 |||
    bitByte (s.surfaceOf 2).linkDown 5 ||| bitByte (s.surfaceOf 3).linkDown 6

/-- Clears the flags a set names; the others keep their values (R190). Bit 7 is ignored (R197). -/
def clearFlagSet (s : State) (set : Byte) : State :=
  { s with
    tracker := { s.tracker with
      lockLost := s.tracker.lockLost && !set.getLsbD 0
      passOverrun := s.tracker.passOverrun && !set.getLsbD 1 }
    store := { s.store with poolLow := s.store.poolLow && !set.getLsbD 2 }
    surface := tbuild (fun p => { s.surfaceOf p with
      linkDown := (s.surfaceOf p).linkDown && !set.getLsbD (3 + p.val) }) }

/-- The link states of a STATUS reply: bits 0 to 3 for S0 to S3, bit 4 for E, 1 for UP (R197). -/
def linkSet (s : State) : Byte :=
  bitByte ((s.surfaceOf 0).link == .up) 0 ||| bitByte ((s.surfaceOf 1).link == .up) 1 |||
    bitByte ((s.surfaceOf 2).link == .up) 2 ||| bitByte ((s.surfaceOf 3).link == .up) 3 |||
    bitByte (s.editor.link == .up) 4

end Sys2Proof.Machine.State
end

