-- ==== Sys2Proof/Machine/Levels.lean ====
section
/-! DEFINITION. The level domain and its arithmetic: clamping, the level sum and difference, the coefficient law, glide
steps (R3 to R8, R73, R74). Everything is computed exactly on integers and narrowed once, where the manual narrows it. -/

namespace Sys2Proof.Machine

/-- A received level brought into the level domain (R4). -/
def clampLevel (v : Int) : Level :=
  if v > Config.maxLevel then Config.maxLevel else if v ≤ Config.off then Config.off else v

/-- The clamp of a level sum's total: an audible level, never OFF (R5). -/
def clampTotal (v : Int) : Level :=
  if v > Config.maxLevel then Config.maxLevel else if v < Config.minAudible then Config.minAudible else v

/-- The level sum of level operands and an offset operand (R5). -/
def levelSum (levels : List Level) (offset : Int) : Level :=
  if levels.any (· == Config.off) then Config.off else clampTotal (levels.sum + offset)

/-- The level difference, OFF counted as −4608 on either side (R6). -/
def levelDifference (a b : Level) : Int := a - b

/-- The mantissa table T (R7). -/
def mantissaTable : List Nat :=
  [1048576, 1095000, 1143480, 1194106, 1246974, 1302182, 1359835, 1420040, 1482910,
   1548564, 1617125, 1688722, 1763488, 1841564, 1923097, 2008240, 2097152]

/-- T[i] (R7). -/
def mantissaEntry (i : Nat) : Nat := mantissaTable.getD i 0

/-- The mantissa of a fraction f of a doubling, 0 to 191: interpolation between entries 12 steps apart (R7, steps 3, 4). -/
def mantissa (f : Nat) : Nat :=
  mantissaEntry (f / 12) + (mantissaEntry (f / 12 + 1) - mantissaEntry (f / 12)) * (f % 12) / 12

/-- The coefficient of an effective level (R7). Division of integers by 192 here rounds toward minus infinity. -/
def coefficient (l : Level) : Nat :=
  if l = Config.off then 0
  else
    let k := l / 192
    let m := mantissa (l - 192 * k).toNat
    if 0 ≤ k then m * 2 ^ k.toNat else (m + 2 ^ ((-k).toNat - 1)) / 2 ^ (-k).toNat

/-- The number of steps a glide with count G has: max(G, 1) (R73). -/
def glideSteps (g : Glide) : Nat := max g.count 1

/-- x × (G − n) / G truncated toward zero, for the glide's present step (R73, R74). -/
def glideScale (g : Glide) (x : Int) : Int :=
  Int.tdiv (x * ((glideSteps g : Int) - (g.step : Int))) (glideSteps g)

/-- The level of a TOUCH glide at its present step toward A (R73). -/
def glideLevel (g : Glide) (a : Level) : Level := a + glideScale g (g.startLevel - a)

/-- Whether the glide is at its last step (R73). -/
def glideAtEnd (g : Glide) : Bool := glideSteps g ≤ g.step

/-- The glide after presenting its present step: the next step, or none at the end (R73). -/
def glideNext (g : Glide) : Option Glide := if glideAtEnd g then none else some { g with step := g.step + 1 }

/-- The masters of a path: the distinct masters its group fields name (R18). -/
def mastersOf (x : ControlConfig) : List MasterId :=
  match x.groupA, x.groupB with
  | none, none => []
  | some a, none => [a]
  | none, some b => [b]
  | some a, some b => if a = b then [a] else [a, b]

/-- The control that is master m (R9). -/
def masterControl (m : MasterId) : ControlId := ⟨m.val, by omega⟩

/-- The path index of a control, for a path (R9). -/
def pathIndex (c : ControlId) : Option (Fin 192) :=
  if h : 16 ≤ c.val then some ⟨c.val - 16, by omega⟩ else none

/-- The engine entry of a path: its stem as configured, and the coefficient of its effective level unless the stem is NONE
(R20). -/
def engineEntry (stem : Option StemId) (effective : Level) : Entry :=
  { stem := stem, coefficient := if stem.isNone then 0 else coefficient effective }

end Sys2Proof.Machine
end

