-- ==== Sys2Proof/Machine/Operands.lean ====
section
/-! DEFINITION. Operand forms: how the numbers of a message name seats, ports, controls, modes, stems and groups
(R9, R40, R194, R196, R197). -/

namespace Sys2Proof.Machine

/-- The seat a seat number names: 1 to 8 (R39); 0 and 9 to 15 name none. -/
def seatNumber (n : Nat) : Option SeatId :=
  if h : 1 ≤ n ∧ n ≤ 8 then some ⟨n - 1, by omega⟩ else none

/-- The seat number of a seat (R39). -/
def SeatId.number (i : SeatId) : Nat := i.val + 1

/-- The control a number names (R9). -/
def controlNumber (n : Nat) : Option ControlId := if h : n < 208 then some ⟨n, h⟩ else none

/-- The mode a mode code names (R194). -/
def modeOfCode (b : Byte) : Option Mode :=
  if b = 0 then some .off else if b = 1 then some .read else if b = 2 then some .touch
  else if b = 3 then some .latch else if b = 4 then some .trim else none

/-- The stem field a byte spells: outer none where illegal, inner none for NONE, 255 (R194). -/
def stemOfByte (b : Byte) : Option (Option StemId) :=
  if h : b.toNat < 12 then some (some ⟨b.toNat, h⟩) else if b = 255#8 then some none else none

/-- The group field a byte spells: outer none where illegal, inner none for NONE, 255 (R194). -/
def groupOfByte (b : Byte) : Option (Option MasterId) :=
  if h : b.toNat < 16 then some (some ⟨b.toNat, h⟩) else if b = 255#8 then some none else none

/-- The link field a byte of SET SEAT spells: 0 to 3 for S0 to S3, 255 for none (R197). -/
def linkOfByte (b : Byte) : Option (Option SurfaceId) :=
  if h : b.toNat < 4 then some (some ⟨b.toNat, h⟩) else if b = 255#8 then some none else none

/-- What a fader of a seat addresses, or why it addresses nothing (R40). -/
inductive FaderTarget where
  | control (c : ControlId)
  | badFader
  | noControl (number : Nat)
  deriving DecidableEq, Repr

/-- Maps a fader through a bank base (R40). -/
def mapFader (bankBase fader : Nat) : FaderTarget :=
  if 31 < fader then .badFader
  else match controlNumber (bankBase + fader) with
    | some c => .control c
    | none => .noControl (bankBase + fader)

/-- Whether a seat number names a seat mapped to a surface port; the seat if so (R44, R156). -/
def State.mappedSeat (s : State) (p : SurfaceId) (n : Nat) : Option SeatId :=
  match seatNumber n with
  | some i => if (s.seatOf i).link = some p then some i else none
  | none => none

end Sys2Proof.Machine
end

