-- ==== Sys2Proof/Machine/Links.lean ====
section
/-! DEFINITION. What the ports owe their far ends and how it is sent: posting replies, notices, transport notices and
follow entries, the transmit arbiters, visibility, and the ways into DOWN (R38, R157 to R159, R164 to R171, R177 to R179). -/

namespace Sys2Proof.Machine

/-! ## Surface ports -/

/-- Replaces a surface port by a function of it, if it is UP: a DOWN port's collections are empty (R169, R158). -/
def State.whenUp (s : State) (p : SurfaceId) (f : SurfacePort → SurfacePort) : State :=
  if (s.surfaceOf p).link = .up then s.setSurface p (f (s.surfaceOf p)) else s

/-- Posts a reply addressed to a seat number (R164). -/
def State.postReply (s : State) (p : SurfaceId) (seat : Nat) (m : OutMessage) : State :=
  s.whenUp p (fun x => { x with replies := x.replies ++ [{ seat := seat, message := m }] })

/-- Posts a notice for a control to the port a seat is mapped to, replacing an unsent one for the control (R44, R165). -/
def State.postNotice (s : State) (i : SeatId) (c : ControlId) (n : SeatNotice) : State :=
  match (s.seatOf i).link with
  | some p => s.whenUp p (fun x =>
      { x with notices := tset x.notices c (some { notice := n, seat := i, onLink := false }) })
  | none => s

/-- Posts a transport notice to one surface port (R38, R166). -/
def State.postTransportTo (s : State) (p : SurfaceId) : State :=
  s.whenUp p (fun x => { x with
    transportNotice := some { state := s.tracker.transport, frame := s.tracker.currentFrame, onLink := false } })

/-- Posts a transport notice to the editor port, if it is UP (R38). -/
def State.postTransportToEditor (s : State) : State :=
  if s.editor.link = .up then
    { s with editor := { s.editor with
      transportNotice := some { state := s.tracker.transport, frame := s.tracker.currentFrame, onLink := false } } }
  else s

/-- Posts a transport notice to every port that is UP (R38). -/
def State.postTransport (s : State) : State :=
  State.postTransportToEditor
    ((((s.postTransportTo 0).postTransportTo 1).postTransportTo 2).postTransportTo 3)

/-- The follow set with every visible control at its presented level; other entries are kept (R157, R163). -/
def State.filledFollow (s : State) (p : SurfaceId) : Vector (Option FollowEntry) 208 :=
  tbuild (fun c =>
    if s.visible p c then some { level := (s.recordOf c).presented, onLink := false }
    else tget (s.surfaceOf p).follow c)

/-- Fills a port's follow set with every visible control (R157, R163). -/
def State.fillFollow (s : State) (p : SurfaceId) : State :=
  s.setSurface p { s.surfaceOf p with follow := s.filledFollow p }

/-- Adjusts the follow set of an UP port to a change of visibility since an earlier state (R168). -/
def State.adjustVisibility (s before : State) (p : SurfaceId) : State :=
  s.whenUp p (fun x => { x with follow := tbuild (fun c =>
    if s.visible p c && !before.visible p c then
      some { level := (s.recordOf c).presented, onLink := false }
    else if before.visible p c && !s.visible p c then none
    else tget x.follow c) })

/-- Feeds one evaluated control to the follow set of one port (R80). -/
def State.feedFollowAt (s : State) (c : ControlId) (presented : Level) (first : Bool) (p : SurfaceId) : State :=
  if s.visible p c then
    s.whenUp p (fun x =>
      if (tget x.follow c).isSome || first || tget x.lastSent c != some presented then
        { x with follow := tset x.follow c (some { level := presented, onLink := false }) }
      else x)
  else s

/-- Feeds one evaluated control to the follow sets (R80). -/
def State.feedFollow (s : State) (c : ControlId) (presented : Level) (first : Bool) : State :=
  (((s.feedFollowAt c presented first 0).feedFollowAt c presented first 1).feedFollowAt c presented first 2).feedFollowAt
    c presented first 3

/-! ### The transmit arbiter of a surface port (R169 to R171) -/

/-- The follow entry to be sent: the lowest-numbered control above the follow position, or else the lowest (R171). -/
def SurfacePort.nextFollow (x : SurfacePort) : Option ControlId :=
  match x.followPosition with
  | none => (List.finRange 208).find? (fun c => (tget x.follow c).isSome)
  | some q =>
    match (List.finRange 208).find? (fun c => decide (q < c) && (tget x.follow c).isSome) with
    | some c => some c
    | none => (List.finRange 208).find? (fun c => (tget x.follow c).isSome)

/-- The control of the lowest-numbered notice (R169). -/
def SurfacePort.nextNotice (x : SurfacePort) : Option ControlId :=
  (List.finRange 208).find? (fun c => (tget x.notices c).isSome)

/-- The port with a frame begun on its link. -/
def SurfacePort.begin (x : SurfacePort) (source : TxSource) (m : OutMessage) (seat : Nat) : SurfacePort :=
  { x with sending := some { source := source, bytes := m.bytes seat } }

/-- The arbiter's choice: a reply, then a notice, then the transport notice, then a follow entry (R169). -/
def SurfacePort.choose (x : SurfacePort) : SurfacePort :=
  match x.replies with
  | r :: _ => x.begin .reply r.message r.seat
  | [] =>
    match x.nextNotice with
    | some c =>
      match tget x.notices c with
      | some e =>
        SurfacePort.begin { x with notices := tset x.notices c (some { e with onLink := true }) }
          (.notice c) (e.notice.message c) (SeatId.number e.seat)
      | none => x
    | none =>
      match x.transportNotice with
      | some t =>
        SurfacePort.begin { x with transportNotice := some { t with onLink := true } }
          .transport (.transport t.state t.frame) 0
      | none =>
        match x.nextFollow with
        | some c =>
          match tget x.follow c with
          | some e =>
            SurfacePort.begin { x with follow := tset x.follow c (some { e with onLink := true }) }
              (.follow c e.level) (.follow c e.level) 0
          | none => x
        | none => x

/-- The arbiter begins a frame when the port is UP, the link free and the far hold dropped (R169, R170). -/
def SurfacePort.transmit (x : SurfacePort) : SurfacePort :=
  if x.link = .up ∧ x.sending = none ∧ x.farHold = false then x.choose else x

/-- The arbiter of surface port p begins a frame if it can. -/
def State.transmitAt (s : State) (p : SurfaceId) : State := s.setSurface p (s.surfaceOf p).transmit

/-- The entry of a frame that has been sent leaves its collection, unless it was replaced meanwhile (R169, R171). -/
def SurfacePort.sent (x : SurfacePort) (t : Transmission) : SurfacePort :=
  let y := { x with sending := none }
  match t.source with
  | .reply => { y with replies := y.replies.tail }
  | .notice c =>
    match tget y.notices c with
    | some e => if e.onLink then { y with notices := tset y.notices c none } else y
    | none => y
  | .transport =>
    match y.transportNotice with
    | some n => if n.onLink then { y with transportNotice := none } else y
    | none => y
  | .follow c l =>
    let z := { y with followPosition := some c, lastSent := tset y.lastSent c (some l) }
    match tget z.follow c with
    | some e => if e.onLink then { z with follow := tset z.follow c none } else z
    | none => z
  | .flags => y
  | .gone => y

/-! ### Into DOWN (R158, R159) -/

/-- The frame under way when the port goes DOWN is finished, but its entry is gone (R158). DEDUCED, log 9. -/
def forgetEntry (t : Option Transmission) : Option Transmission := t.map (fun x => { x with source := .gone })

/-- The state a surface port takes when it goes DOWN or is reset (R158, R159, R174). -/
def SurfacePort.wentDown (x : SurfacePort) : SurfacePort :=
  { x with
    link := .down
    silenceTimer := none
    inbound := []
    holdOut := false
    replies := []
    notices := Vector.replicate 208 none
    transportNotice := none
    follow := Vector.replicate 208 none
    followPosition := none
    lastSent := Vector.replicate 208 none
    sending := forgetEntry x.sending }

/-- Removes the touch of a control; the holder's held-touches count falls by one (R42, R54). -/
def State.removeTouch (s : State) (c : ControlId) : State :=
  match s.touchOf c with
  | some r =>
    (s.setTouch c none).setSeat r.holder
      { s.seatOf r.holder with heldTouches := (s.seatOf r.holder).heldTouches - 1 }
  | none => s

/-- The isolation release of every touch held by the seats a test names; nothing is posted (R57). -/
def State.isolate (s : State) (seats : SeatId → Bool) : State :=
  { s with arbiter := { s.arbiter with
      touches := tbuild (fun c => match s.touchOf c with
        | some r => if seats r.holder then none else some r
        | none => none)
      seats := tbuild (fun i => if seats i then { s.seatOf i with heldTouches := 0 } else s.seatOf i) } }

/-- The isolation release of the seats mapped to a port (R57). -/
def State.isolatePort (s : State) (p : SurfaceId) : State := s.isolate (fun i => (s.seatOf i).link == some p)

/-- A surface port goes DOWN or is reset by LINK RESET: the same state but for LINK_DOWN[p] (R158, R159). -/
def State.surfaceDown (s : State) (p : SurfaceId) : State :=
  (s.setSurface p (s.surfaceOf p).wentDown).isolatePort p

/-- A surface port becomes UP: timer, transport notice, follow set, follow position (R157). -/
def State.surfaceUp (s : State) (p : SurfaceId) : State :=
  let s1 := s.setSurface p { s.surfaceOf p with
    link := .up, silenceTimer := some (s.now + Config.silenceUnits), followPosition := none }
  (s1.postTransportTo p).fillFollow p

/-! ## Editor port -/

/-- The room of the editor port's reply queue (R175, R178). -/
def EditorPort.room (x : EditorPort) : Nat := Config.replyCapacity - x.replies.length

/-- Whether the port is stalled: a LIST RECORD waits for a slot, or a CLEAR LIST for its event (R178). -/
def EditorPort.stalled (x : EditorPort) : Bool := x.waitingRecord.isSome || x.clear.isSome

/-- Replaces the editor port. -/
def State.setEditor (s : State) (x : EditorPort) : State := { s with editor := x }

/-- Posts a reply of the editor port into a free place (R178). -/
def State.postEditor (s : State) (m : OutMessage) : State :=
  s.setEditor { s.editor with replies := s.editor.replies ++ [.held m] }

/-- Reserves a place for an operation's outcome (R175, R178). -/
def State.reservePlace (s : State) (o : PlaceOwner) : State :=
  s.setEditor { s.editor with replies := s.editor.replies ++ [.reserved o] }

/-- Releases a reserved place (R187). -/
def State.releasePlace (s : State) (o : PlaceOwner) : State :=
  s.setEditor { s.editor with replies := s.editor.replies.erase (.reserved o) }

/-- Posts an outcome into its reserved place, which takes its position at the tail of the queue (R179). -/
def State.postReserved (s : State) (o : PlaceOwner) (m : OutMessage) : State := (s.releasePlace o).postEditor m

/-- Posts REFUSED at the take of an editor command; the control byte is given for the commands R197 names. -/
def State.refuseEditor (s : State) (reason : RefusalReason) (kind : Byte) (control : Option Byte) : State :=
  s.postEditor (.refused reason kind control)

/-- The first held reply of the queue; reserved places are passed over (R179). -/
def EditorPort.firstHeld (x : EditorPort) : Option OutMessage :=
  x.replies.findSome? (fun r => match r with
    | .held m => some m
    | .reserved _ => none)

/-- The queue without its first held reply. -/
def dropFirstHeld : List ReplyPlace → List ReplyPlace
  | [] => []
  | .held _ :: rest => rest
  | .reserved o :: rest => .reserved o :: dropFirstHeld rest

/-- The editor port with a frame begun on its link; every frame it sends carries seat 0 (R197). -/
def EditorPort.begin (x : EditorPort) (source : TxSource) (m : OutMessage) : EditorPort :=
  { x with sending := some { source := source, bytes := m.bytes 0 } }

/-- The editor arbiter's choice: the first held reply, then the flag notice, then the transport notice (R179). -/
def EditorPort.choose (x : EditorPort) (flags : Byte) : EditorPort :=
  match x.firstHeld with
  | some m => x.begin .reply m
  | none =>
    match x.flagNotice with
    | some _ => EditorPort.begin { x with flagNotice := some true } .flags (.flags flags)
    | none =>
      match x.transportNotice with
      | some t =>
        EditorPort.begin { x with transportNotice := some { t with onLink := true } }
          .transport (.transport t.state t.frame)
      | none => x

/-- The editor port's arbiter begins a frame if it can (R179). -/
def State.transmitEditor (s : State) : State :=
  if s.editor.link = .up ∧ s.editor.sending = none ∧ s.editor.farHold = false then
    s.setEditor (s.editor.choose s.flagSet)
  else s

/-- What leaves the editor port when a frame has been sent (R179); a notice renewed meanwhile stays (DEDUCED, log 10). -/
def EditorPort.sent (x : EditorPort) (t : Transmission) : EditorPort :=
  let y := { x with sending := none }
  match t.source with
  | .reply => { y with replies := dropFirstHeld y.replies }
  | .flags => if y.flagNotice = some true then { y with flagNotice := none } else y
  | .transport =>
    match y.transportNotice with
    | some n => if n.onLink then { y with transportNotice := none } else y
    | none => y
  | .notice _ => y
  | .follow _ _ => y
  | .gone => y

/-- The editor port becomes UP: timer, transport notice, and the flag notice if any flag is set (R177). -/
def State.editorUp (s : State) : State :=
  let s1 := s.setEditor { s.editor with
    link := .up
    silenceTimer := some (s.now + Config.silenceUnits)
    flagNotice := if s.anyFlag then some false else s.editor.flagNotice }
  s1.postTransportToEditor

/-- Every transmit arbiter begins a frame if it can: what an event that can post to any port ends with (R169, R179). -/
def State.transmitAll (s : State) : State :=
  State.transmitEditor ((((s.transmitAt 0).transmitAt 1).transmitAt 2).transmitAt 3)

end Sys2Proof.Machine
end

