-- ==== Sys2Proof/Machine/Pool.lean ====
section
/-! DEFINITION. The record pool: taking a slot, refill requests, and chain returns (R94, R105, R107 to R109). -/

namespace Sys2Proof.Machine.State

/-- Replaces the refill in flight. -/
def setRefill (s : State) (x : Refill) : State := { s with store := { s.store with refill := x } }

/-- Replaces the free slot queue. -/
def setFreeQueue (s : State) (q : List Slot) : State := { s with store := { s.store with freeQueue := q } }

/-- Requests a refill when its conditions hold (R108). -/
def requestRefill (s : State) : State :=
  if s.storeReady ∧ s.store.freeQueue.length < Config.freeQueueCapacity ∧ 0 < s.store.memoryCount
      ∧ s.store.refill = .none then
    s.setRefill .requested
  else s

/-- POOL_LOW rises when an allocation took the total free count from the low-water mark or more to below it (R94). -/
def notePoolLow (s : State) (freeBefore : Nat) : State :=
  if Config.poolLowWater ≤ freeBefore ∧ s.totalFree < Config.poolLowWater then s.raisePoolLow else s

/-- An allocation of one slot from the front of the free slot queue, with the refill it makes room for (R107, R108). -/
def takeSlot (s : State) : Option (Slot × State) :=
  match s.store.freeQueue with
  | [] => none
  | slot :: rest => some (slot, (requestRefill ((s.setFreeQueue rest).notePoolLow s.totalFree)))

/-- A refill read in flight does not stand once a chain has been returned (R109). -/
def Refill.overtaken : Refill → Refill
  | .reading slot _ => .reading slot false
  | r => r

/-- A chain return: the write of the chain's last slot with the free list head as its next slot is posted, the chain goes to
the front of the free list, and a refill is requested if it may be (R108, R109). -/
def chainReturn (s : State) (kind : ReturnKind) (first last : Slot) (length : Nat) (contents : Record) : State :=
  let write : SlotRecord := { slot := last, record := { contents with last := false, next := s.store.freeHead } }
  let posted := s.postRequest (.chainReturn kind write)
  requestRefill { posted with store := { posted.store with
    freeHead := first
    memoryCount := posted.store.memoryCount + length
    refill := Refill.overtaken posted.store.refill } }

/-- The fields of a chain-return write that the manual leaves open: FREE VALUES (log 8). -/
def returnContents (s : State) : Record where
  frame := (Config.returnFrame s.freeDraws).toNat
  kind := if Config.returnIsGap s.freeDraws then .gap else .level
  level := (Config.returnLevel s.freeDraws).toInt
  last := false
  next := 0

/-- A chain return whose write's frame, kind and level the manual leaves open (log 8). -/
def returnChain (s : State) (kind : ReturnKind) (first last : Slot) (length : Nat) : State :=
  chainReturn { s with freeDraws := s.freeDraws + 1 } kind first last length s.returnContents

end Sys2Proof.Machine.State
end

