-- ==== Sys2Proof/Machine/Loads.lean ====
section
/-! DEFINITION. List loads, list reads and list clears at the store and at the editor port: what their commands, their
events and their aborts share (R120 to R125, R183 to R188). -/

namespace Sys2Proof.Machine.State

/-! ## Loads -/

/-- Gives a load record its slot: the held tail is posted with the new slot as its next slot, and the record becomes the
held tail (R121). The level is clamped (R4), or 0 for GAP. LAST clear and next slot 0 in the held tail are a DESIGN CHOICE:
they have no value until its write, which sets both (log 27). -/
def linkLoadRecord (s : State) (l : Load) (slot : Slot) (r : LoadRecord) : State :=
  let record : Record :=
    if r.kind = 1#8 then { frame := r.frame, kind := .gap, level := 0, last := false, next := 0 }
    else { frame := r.frame, kind := .level, level := clampLevel r.level, last := false, next := 0 }
  let posted := match l.tail with
    | some t => s.postRequest (.loadWrite { slot := t.slot, record := { t.record with last := false, next := slot } })
    | none => s
  posted.setLoad (some { l with
    received := l.received + 1
    first := some (l.first.getD slot)
    tail := some { slot := slot, record := record }
    lastFrame := r.frame })

/-- Returns the chain of a load, first slot to held tail; the return write is the write of the held tail (R123). -/
def returnLoadChain (s : State) (l : Load) : State :=
  match l.first, l.tail with
  | some f, some t => s.chainReturn .list f t.slot l.received t.record
  | _, _ => s

/-- Posts ABORTED for a load into its reserved place, unless the editor port is going DOWN (R185). -/
def reportLoadAbort (s : State) : Option AbortReason → State
  | some r => s.postReserved .load (.aborted kindListBegin r)
  | none => s

/-- The abort of a load in flight, if there is one; a record that waits for a slot is dropped (R123, R183, R185). -/
def abortLoad (s : State) (reason : Option AbortReason) : State :=
  match s.store.load with
  | some l =>
    let idle := (s.returnLoadChain l).setLoad none
    (idle.setEditor { idle.editor with waitingRecord := none }).reportLoadAbort reason
  | none => s

/-- Whether some list load write has not completed (R122). -/
def loadWriteOutstanding (s : State) : Bool :=
  s.outstanding.any (fun r => match r with
    | .loadWrite _ => true
    | _ => false)

/-- Whether a cursor fetch or the relocate walk of a control is in flight (R114, R122, R124, R137). -/
def cursorBusy (s : State) (c : ControlId) : Bool := s.fetchInFlight c || s.walkInFlight c

/-- Whether a load in flight is ready for its replacement step (R122). -/
def replacementReady (s : State) (l : Load) : Bool :=
  l.endTaken && !s.loadWriteOutstanding && !s.cursorBusy l.control

/-- Returns the list of a control as one chain, if it is not empty (R122, R124). -/
def returnList (s : State) (d : Descriptor) : State :=
  if d.count = 0 then s else s.returnChain .list d.head d.tail d.count

/-- The replacement step at the store: the descriptor takes the new list, the old list returns, the cursor relocates (R122). -/
def replaceList (s : State) (l : Load) : State :=
  let new : Descriptor :=
    { head := l.first.getD 0, tail := (l.tail.map SlotRecord.slot).getD 0, count := l.received }
  (((s.setList l.control new).returnList (s.listOf l.control)).setLoad none).relocateOne l.control

/-! ## Clears -/

/-- The event of CLEAR LIST at the store (R124). -/
def clearStore (s : State) (c : ControlId) : State :=
  ((s.returnList (s.listOf c)).setList c Descriptor.empty).relocateOne c

/-- Abandons a waiting CLEAR LIST because the transport leaves STOPPED (R188). -/
def abandonClear (s : State) : State :=
  match s.editor.clear with
  | some _ => (s.setEditor { s.editor with clear := none }).postReserved .clear (.aborted kindClearList .rolling)
  | none => s

/-! ## Reads -/

/-- Whether a list read of a control is in flight (R114, R182). -/
def readOf (s : State) (c : ControlId) : Bool :=
  match s.editor.read with
  | some r => r.control == c
  | none => false

/-- Whether some list read has not completed at the memory port (R187). -/
def listReadOutstanding (s : State) : Bool :=
  s.outstanding.any (fun r => match r with
    | .listRead _ _ => true
    | _ => false)

/-- Replaces the list-read stream state (R186). -/
def setRead (s : State) (x : Option ListRead) : State := s.setEditor { s.editor with read := x }

/-- The end of a stream: END with the count goes into the read's reserved place (R187). -/
def endRead (s : State) (r : ListRead) : State := (s.setRead none).postReserved .read (.endOfRead r.count)

/-- The end of a list read because the transport leaves STOPPED (R187). -/
def abortRead (s : State) : State :=
  match s.editor.read with
  | some _ =>
    let ended := (s.mapRequests MemRequest.dropList).setRead none
    (ended.releasePlace .record).postReserved .read (.aborted kindReadList .rolling)
  | none => s

/-! ## The transport leaves STOPPED -/

/-- Aborts a load and abandons a clear (R185, R188); never both are in flight (R175). -/
def abortLoadAndClear (s : State) : State := (s.abortLoad (some .rolling)).abandonClear

/-- What the transport's leaving STOPPED ends (R34, R185, R187, R188). With a read and a load or clear in flight, whose
ABORTED is posted first is a FREE VALUE (log 7). -/
def leaveStopped (s : State) : State :=
  if s.editor.read.isSome ∧ (s.store.load.isSome ∨ s.editor.clear.isSome) then
    let drawn := { s with freeDraws := s.freeDraws + 1 }
    if Config.readAbortsFirst s.freeDraws then drawn.abortRead.abortLoadAndClear
    else drawn.abortLoadAndClear.abortRead
  else s.abortLoadAndClear.abortRead

end Sys2Proof.Machine.State
end

