-- ==== Sys2Proof/Machine/EditorLink.lean ====
section
/-! DEFINITION. The link of the editor port: reception, silence, going DOWN, and the end of a transmission (R175 to R179,
R195). -/

namespace Sys2Proof.Machine

/-- The port with one more command in its inbound queue; the hold out is raised at 24 (R162, R176). -/
def EditorPort.accept (x : EditorPort) (c : EditorCommand) : EditorPort :=
  { x with inbound := x.inbound ++ [c], holdOut := x.holdOut || decide (24 ≤ x.inbound.length + 1) }

/-- The state the editor port takes when it goes DOWN (R177). -/
def EditorPort.wentDown (x : EditorPort) : EditorPort :=
  { x with
    link := .down
    silenceTimer := none
    inbound := []
    holdOut := false
    replies := []
    flagNotice := none
    transportNotice := none
    read := none
    clear := none
    waitingRecord := none
    sending := forgetEntry x.sending }

namespace State

/-- A refusal at reception; without room in the reply queue it is dropped (R176). -/
def refuseEditorReception (s : State) (kind : Byte) (reason : RefusalReason) : State :=
  if 1 ≤ s.editor.room then s.refuseEditor reason kind none else s

/-- The examination of a valid frame by the UP editor port (R176). -/
def examineEditor (s : State) (f : LinkFrame) : State :=
  if f.kind = kindIdle then s
  else if f.seat ≠ 0 then s.refuseEditorReception f.kind .notMapped
  else match editorCommand f.kind f.payload with
    | none => s.refuseEditorReception f.kind .badValue
    | some c =>
      if s.editor.inbound.length < Config.inboundCapacity then s.setEditor (s.editor.accept c)
      else s.refuseEditorReception f.kind .full

/-- A valid frame makes a DOWN port UP, and restarts the silence timer (R176, R177). -/
def editorPresent (s : State) : State :=
  if s.editor.link = .up then
    s.setEditor { s.editor with silenceTimer := some (s.now + Config.silenceUnits) }
  else s.editorUp

/-- The data bytes of a frame received at the editor port; one that fails a link check is discarded (R154, R176). -/
def editorFrame (s : State) (bs : List Byte) : State :=
  match parseFrame editorLength bs with
  | some f => s.editorPresent.examineEditor f
  | none => s

/-- Replaces the frame being received at the editor port (R195). -/
def setEditorReceiving (s : State) (x : Option (List Byte)) : State := s.setEditor { s.editor with receiving := x }

/-- One symbol of the line coding at the editor port (R195). -/
def editorSymbol (s : State) (y : LineSymbol) : State :=
  match y, s.editor.receiving with
  | .startOfFrame, _ => s.setEditorReceiving (some [])
  | .data b, some bs => s.setEditorReceiving (some (bs ++ [b]))
  | .data _, none => s
  | .endOfFrame, some bs => (s.setEditorReceiving none).editorFrame bs
  | .endOfFrame, none => s

/-- The editor port goes DOWN: its items are emptied, a load is aborted at the store without reply, and the result of a
list read at the memory port is dropped (R177, R185). -/
def editorDown (s : State) : State :=
  let s1 := (s.abortLoad none).mapRequests MemRequest.dropList
  s1.setEditor s1.editor.wentDown

end State

/-- EDITOR_FRAME_RECEIVED (R176, R195). -/
def execEditorFrameReceived (symbols : List LineSymbol) (s : State) : Host.Outcome State Fault Refusal :=
  .next (symbols.foldl State.editorSymbol s).transmitEditor

/-- EDITOR_SILENCE_EXPIRY (R177): at its scheduled time, or later when that time has passed (log 2). -/
def execEditorSilenceExpiry (s : State) : Host.Outcome State Fault Refusal :=
  match s.editor.silenceTimer with
  | some expiry => .next (State.editorDown { s with now := max s.now expiry })
  | none => .next s

/-- EDITOR_FRAME_SENT (R179): the entry leaves its collection and the arbiter chooses again. -/
def execEditorFrameSent (s : State) : Host.Outcome State Fault Refusal :=
  match s.editor.sending with
  | some t => .next (s.setEditor (s.editor.sent t)).transmitEditor
  | none => .next s

end Sys2Proof.Machine
end

