-- ==== Sys2Proof/Machine/Segments.lean ====
section
/-! DEFINITION. Segments: punch-in, append, close, closing work, truncation and discard (R84 to R100). -/

namespace Sys2Proof.Machine

/-- The record write of a held tail once its successor's slot is known: LEVEL, LAST clear (R90, R98, R100). -/
def HeldTail.write (t : HeldTail) (next : Slot) : SlotRecord :=
  { slot := t.slot, record := { frame := t.frame, kind := .level, level := t.level, last := false, next := next } }

/-- The segment opened by a punch-in at a frame and level (R88). -/
def Segment.opened (c : ControlId) (t : Frame) (l : Level) (first reserve : Slot) : Segment where
  control := c
  inFrame := t
  outFrame := t
  count := 2
  first := first
  reserve := reserve
  tail := { slot := first, frame := t, level := l }
  lastLevel := l

/-- The segment with one more record as its held tail (R90, R97). -/
def Segment.extended (g : Segment) (t : Frame) (l : Level) (slot : Slot) : Segment :=
  { g with outFrame := t, count := g.count + 1, tail := { slot := slot, frame := t, level := l }, lastLevel := l }

/-- An append or closing write of a discarded segment: it is still written, but no segment waits for it (R100). -/
def MemRequest.disown (c : ControlId) : MemRequest → MemRequest
  | .append o w => .append (if o = some c then none else o) w
  | .closing o w => .closing (if o = some c then none else o) w
  | r => r

/-- Whether a request is a write posted for the records of a control's segment (R99). -/
def MemRequest.writesFor (c : ControlId) : MemRequest → Bool
  | .append o _ => o == some c
  | .closing o _ => o == some c
  | _ => false

/-- A closed segment's closing work when the pool is empty: the final record is dropped (R98). -/
def ClosingWork.dropped : ClosingWork → ClosingWork
  | .waitingSlot _ => .complete
  | w => w

namespace State

/-! ## Closing -/

/-- A closed segment joins the tail of the splice queue (R99, R112); the splice leaves IDLE when the queue was empty
(R113). -/
def joinSpliceQueue (s : State) (e : ClosedSegment) : State :=
  { s with store := { s.store with
    spliceQueue := s.store.spliceQueue ++ [e]
    splice := if s.store.splice = .idle then .waiting else s.store.splice } }

/-- The closing write of closing work: the old held tail, linked to the final record's slot (R98). -/
def postClosingWrite (s : State) (g : Segment) (slot : Slot) : State :=
  s.postRequest (.closing (some g.control) (g.tail.write slot))

/-- Puts a segment whose final record has found no slot into the splice queue: it waits, or with no free slot anywhere its
final record is dropped (R98). -/
def joinWithoutSlot (s : State) (g : Segment) (f : Frame) : State :=
  s.joinSpliceQueue { segment := g, closing := if s.totalFree = 0 then .complete else .waitingSlot f }

/-- Puts a segment that has left the segment table into the splice queue, with its closing work done at once, waiting, or
not due (R97 to R99). While an older closed segment waits for a slot, the slots are that one's (DEDUCED, log 13). -/
def enqueueClosed (s : State) (g : Segment) (final : Option Frame) : State :=
  match final with
  | none => s.joinSpliceQueue { segment := g, closing := .complete }
  | some f =>
    if s.closingWaiters = 0 then
      match s.takeSlot with
      | some (slot, s1) =>
        (s1.postClosingWrite g slot).joinSpliceQueue
          { segment := g.extended f g.lastLevel slot, closing := .writing }
      | none => s.joinWithoutSlot g f
    else s.joinWithoutSlot g f

/-- Closes the open segment of a control with a last evaluated frame: a final record is due when the out frame is below it
(R97, R99). -/
def closeSegment (s : State) (c : ControlId) (g : Segment) (lastEvaluated : Frame) : State :=
  (s.setSegment c none).enqueueClosed g (if g.outFrame < lastEvaluated then some lastEvaluated else none)

/-- The last evaluated frame of a close that no glide end causes (R97). -/
def lastEvaluatedFrame (s : State) (c : ControlId) (g : Segment) : Frame :=
  (s.recordOf c).evaluatedFrame.getD g.outFrame

/-- Ends the wait of the evaluation under way; it goes on after its Segment Writer step (R78). -/
def endWait (s : State) : State :=
  match s.pass.run.underWay with
  | some e => s.setRun { s.pass.run with wait := none, underWay := some { e with todo := .finish } }
  | none => s

/-- Whether the evaluation under way waits with a given work left, at a given control. -/
def waitsAt (s : State) (c : ControlId) (todo : EvalTodo) : Bool :=
  match s.pass.run.wait, s.pass.run.underWay with
  | some _, some e => e.control == c && e.todo == todo
  | _, _ => false

/-- A close from outside: the open segment of a control, if any, closes, and an append waiting on it is dropped
(R78, R96). -/
def closeOutside (s : State) (c : ControlId) : State :=
  match s.segmentOf c with
  | some g =>
    let closed := s.closeSegment c g (s.lastEvaluatedFrame c g)
    if s.waitsAt c .append then closed.endWait else closed
  | none => s

/-- Ends the wait of a punch-in that the close-all bar or a SAFE stem bars (R87, R88). -/
def endBarredPunchIn (s : State) : State :=
  match s.pass.run.underWay with
  | some e => if s.waitsAt e.control .punchIn ∧ (s.writer.closeAllBar ∨ s.isSafe e.control) then s.endWait else s
  | none => s

/-- Sets the close-all bar if a pass is in flight (R87). -/
def barIfInFlight (s : State) : State :=
  if s.pass.run.inFlight then { s with writer := { s.writer with closeAllBar := true } } else s

/-- Closes the open segments of the controls a test names, in ascending control order (R96). -/
def closeWhere (s : State) (which : ControlId → Bool) : State :=
  (List.finRange 208).foldl (fun a c => if which c then a.closeOutside c else a) s

/-- A close-all request (R32, R87, R96). -/
def closeAll (s : State) : State := (s.barIfInFlight.closeWhere (fun _ => true)).endBarredPunchIn

/-! ## Truncation -/

/-- Posts a notice about a touch to the holder of a control as the touch table stands (R89, R93, R101; log 14). -/
def noticeHolder (s : State) (c : ControlId) (n : SeatNotice) : State :=
  match s.touchOf c with
  | some r => s.postNotice r.holder c n
  | none => s

/-- Sets the late-punch flag of a control (R89, R93). -/
def setLatePunch (s : State) (c : ControlId) : State := s.setRecord c { s.recordOf c with latePunch := true }

/-- Truncates the segment of an evaluation's control: no final record, and TRUNCATED to the holder of a held control (R93). -/
def truncate (s : State) (e : Evaluation) (g : Segment) : State :=
  let closed := (s.setSegment e.control none).enqueueClosed g none
  if e.held then (closed.noticeHolder e.control .truncated).setLatePunch e.control else closed

/-- The final records that wait for a slot are dropped (R98). -/
def dropFinalRecords (s : State) : State :=
  s.setSpliceQueue (s.store.spliceQueue.map (fun e => { e with closing := e.closing.dropped }))

/-- An append that waits for a slot truncates its segment, and the wait ends (R78, R92, R93). -/
def truncateWaiting (s : State) : State :=
  match s.pass.run.wait, s.pass.run.underWay with
  | some .freeSlot, some e =>
    match e.todo, s.segmentOf e.control with
    | .append, some g => (s.truncate e g).endWait
    | _, _ => s
  | _, _ => s

/-- A load record that waits for a slot aborts its load (R183). -/
def abortWaitingLoad (s : State) : State := if s.editor.waitingRecord.isSome then s.abortLoad (some .pool) else s

/-- What an event in which the total free count falls to 0 ends (R92, R98, R183). -/
def settlePool (s before : State) : State :=
  if 0 < before.totalFree ∧ s.totalFree = 0 then s.dropFinalRecords.truncateWaiting.abortWaitingLoad else s

/-! ## Punch-in and append -/

/-- What a Segment Writer operation of an evaluation comes to: done, or a wait (R77). -/
inductive WriterAnswer where
  | done (s : State)
  | waits (cause : WaitCause)

/-- A late punch (R89): one notice to the holder and the flag, if the flag is clear. -/
def latePunch (s : State) (c : ControlId) : State :=
  if (s.recordOf c).latePunch then s
  else
    let reason : SeatNotice := if !s.storeReady || s.spliceQueued c then .latePunch else .poolLow
    (s.noticeHolder c reason).setLatePunch c

/-- Whether the store can take a punch-in (R88). -/
def punchInAllowed (s : State) (c : ControlId) : Bool :=
  !s.spliceQueued c && s.storeReady && decide (Config.poolLowWater ≤ s.totalFree)

/-- Takes the two slots of a punch-in: the record's and the reserve (R88). -/
def openSegment (s : State) (c : ControlId) (t : Frame) (l : Level) : Option State :=
  match s.takeSlot with
  | some (first, s1) =>
    match s1.takeSlot with
    | some (reserve, s2) => some (s2.setSegment c (some (Segment.opened c t l first reserve)))
    | none => none
  | none => none

/-- A punch-in attempt (R88, R89). -/
def punchIn (s : State) (c : ControlId) (t : Frame) (l : Level) : WriterAnswer :=
  if s.punchInAllowed c then
    if 2 ≤ s.slotsForPass then
      match s.openSegment c t l with
      | some s1 => .done s1
      | none => .waits .freeSlot
    else .waits .freeSlot
  else .done (s.latePunch c)

/-- Whether the append queue has room (R91). -/
def appendRoom (s : State) : Bool := decide (s.appendQueue.length < Config.appendCapacity)

/-- An append at a frame to the open segment of an evaluation's control (R90 to R93). With neither a slot nor room the wait
is for the slot, which the append takes first (DEDUCED, log 12). -/
def append (s : State) (e : Evaluation) (g : Segment) : WriterAnswer :=
  if s.totalFree = 0 then .done (s.truncate e g)
  else if s.slotsForPass = 0 then .waits .freeSlot
  else if s.appendRoom then
    match s.takeSlot with
    | some (slot, s1) =>
      .done ((s1.postRequest (.append (some e.control) (g.tail.write slot))).setSegment e.control
        (some (g.extended e.frame e.presented slot)))
    | none => .waits .freeSlot
  else .waits .appendRoom

/-! ## Closing work, readiness and discard -/

/-- The queue with the oldest segment that waits for a slot given its closing work's slot; also that segment (R98). -/
def serveClosing (slot : Slot) : List ClosedSegment → Option (Segment × List ClosedSegment)
  | [] => none
  | e :: rest =>
    match e.closing with
    | .waitingSlot f =>
      some (e.segment, { segment := e.segment.extended f e.segment.lastLevel slot, closing := .writing } :: rest)
    | _ => (serveClosing slot rest).map (fun r => (r.1, e :: r.2))

/-- The closing write of a control's segment has completed (R98). -/
def closingDone (s : State) (c : ControlId) : State :=
  s.setSpliceQueue (s.store.spliceQueue.map (fun e =>
    if e.segment.control = c ∧ e.closing = .writing then { e with closing := .complete } else e))

/-- Whether a closed segment is ready for splice (R99). -/
def readyForSplice (s : State) (e : ClosedSegment) : Bool :=
  e.closing == .complete && !s.outstanding.any (MemRequest.writesFor e.segment.control)

/-- The discard of the open segment of a control, if any (R100). -/
def discardSegment (s : State) (c : ControlId) : State :=
  match s.segmentOf c with
  | some g =>
    (((s.mapRequests (MemRequest.disown c)).setSegment c none).postRequest
      (.closing none (g.tail.write g.reserve))).returnChain .discard g.first g.reserve g.count
  | none => s

/-- The discard of every open segment, in ascending control order (R100; the order is a DESIGN CHOICE, log 17). -/
def discardAll (s : State) : State := (List.finRange 208).foldl discardSegment s

end State

end Sys2Proof.Machine
end

