-- ==== Sys2Proof/Machine/EditorCommands.lean ====
section
/-! DEFINITION. The takes of editor commands (R11 to R17, R22, R41, R58, R82, R83, R100, R178 to R193). -/

namespace Sys2Proof.Machine

/-- The port after a take: the command leaves the queue, and the hold out is dropped at 8 (R162, R176, R178). -/
def EditorPort.taken (x : EditorPort) : EditorPort :=
  { x with inbound := x.inbound.tail, holdOut := x.holdOut && decide (8 < x.inbound.tail.length) }

/-! ## SET CONTROL (R11, R180, R197) -/

namespace SetControlFields

/-- Whether the command carries the mode (R197). -/
def hasMode (f : SetControlFields) : Bool := f.presence.getLsbD 0
/-- Whether the command carries the stem (R197). -/
def hasStem (f : SetControlFields) : Bool := f.presence.getLsbD 1
/-- Whether the command carries group A (R197). -/
def hasGroupA (f : SetControlFields) : Bool := f.presence.getLsbD 2
/-- Whether the command carries group B (R197). -/
def hasGroupB (f : SetControlFields) : Bool := f.presence.getLsbD 3
/-- Whether the command carries the glide frames (R197). -/
def hasGlide (f : SetControlFields) : Bool := f.presence.getLsbD 4

/-- The command gives a stem or group other than NONE (R11). -/
def givesPathField (f : SetControlFields) : Bool :=
  (f.hasStem && f.stem != 255#8) || (f.hasGroupA && f.groupA != 255#8) || (f.hasGroupB && f.groupB != 255#8)

/-- The first failing check of R11, for the fields the command carries. -/
def refusal (f : SetControlFields) : Option RefusalReason :=
  match controlNumber f.control.toNat with
  | none => some .noControl
  | some c =>
    if f.hasMode ∧ modeOfCode f.mode = none then some .badValue
    else if f.hasGlide ∧ 63 < f.glide.toNat then some .badValue
    else if f.hasStem ∧ stemOfByte f.stem = none then some .badValue
    else if (f.hasGroupA ∧ groupOfByte f.groupA = none) ∨ (f.hasGroupB ∧ groupOfByte f.groupB = none) then some .badValue
    else if c.val < 16 ∧ f.givesPathField then some .badValue
    else none

/-- The configuration with every field the command carries (R180). -/
def apply (f : SetControlFields) (x : ControlConfig) : ControlConfig where
  mode := if f.hasMode then (modeOfCode f.mode).getD x.mode else x.mode
  stem := if f.hasStem then (stemOfByte f.stem).getD x.stem else x.stem
  groupA := if f.hasGroupA then (groupOfByte f.groupA).getD x.groupA else x.groupA
  groupB := if f.hasGroupB then (groupOfByte f.groupB).getD x.groupB else x.groupB
  glideFrames := if f.hasGlide then f.glide.toNat else x.glideFrames

end SetControlFields

namespace State

/-- The command the editor port hands over: its head, when it is not stalled and the reply queue has room (R178). -/
def headCommand (s : State) : Option EditorCommand :=
  if 1 ≤ s.editor.room ∧ s.editor.stalled = false then s.editor.inbound.head? else none

/-- The head command leaves the inbound queue (R178). -/
def popEditor (s : State) : State := s.setEditor s.editor.taken

/-- Posts DONE for a command (R197). -/
def postDone (s : State) (kind : Byte) : State := s.postEditor (.done kind)

/-! ## Configuration -/

/-- Gives a control its new configuration; a path that moves into a SAFE stem has its segment closed at once (R17, R96). -/
def configure (s : State) (c : ControlId) (x : ControlConfig) : State :=
  let s1 := s.setConfig c x
  if s1.isSafe c && !s.isSafe c then (s1.closeOutside c).endBarredPunchIn else s1

/-- SET CONTROL (R11, R180). -/
def takeSetControl (s : State) (f : SetControlFields) : State :=
  match f.refusal, controlNumber f.control.toNat with
  | some reason, _ => s.refuseEditor reason kindSetControl (some f.control)
  | none, some c => ((s.configure c (f.apply (s.configOf c))).settlePool s).postDone kindSetControl
  | none, none => s

/-- Sets a stem's SAFE flag (R14). -/
def setSafe (s : State) (i : StemId) (b : Bool) : State :=
  { s with pass := { s.pass with safe := tset s.pass.safe i b } }

/-- Sets or clears SAFE; setting it closes the open segments of the stem's paths in ascending order (R15, R16, R96). -/
def changeSafe (s : State) (i : StemId) (b : Bool) : State :=
  let s1 := s.setSafe i b
  if b && !tget s.pass.safe i then
    (s1.closeWhere (fun c => s1.isSafe c && (s1.configOf c).stem == some i)).endBarredPunchIn
  else s1

/-- SET STEM (R14 to R16, R180, R197). -/
def takeSetStem (s : State) (stem safe : Byte) : State :=
  match stemOfByte stem with
  | some (some i) =>
    if safe.toNat ≤ 1 then ((s.changeSafe i (safe == 1#8)).settlePool s).postDone kindSetStem
    else s.refuseEditor .badValue kindSetStem none
  | _ => s.refuseEditor .badValue kindSetStem none

/-- How many seats but one are mapped to a port (R181). -/
def seatsOn (s : State) (p : SurfaceId) (i : SeatId) : Nat :=
  (List.finRange 8).countP (fun j => j != i && (s.seatOf j).link == some p)

/-- Whether a link names a port that already has three other seats (R181). -/
def portFull (s : State) (link : Option SurfaceId) (i : SeatId) : Bool :=
  match link with
  | some p => decide (3 ≤ s.seatsOn p i)
  | none => false

/-- Adjusts the follow set of every UP port to a change of visibility (R168). -/
def adjustAll (s before : State) : State :=
  (((s.adjustVisibility before 0).adjustVisibility before 1).adjustVisibility before 2).adjustVisibility before 3

/-- The change of a seat record (R41). -/
def remapSeat (s : State) (i : SeatId) (link : Option SurfaceId) (rank : Nat) : State :=
  if (s.seatOf i).link = link then s.setSeat i { s.seatOf i with rank := rank }
  else
    let s1 := s.isolate (fun j => j == i)
    (s1.setSeat i { s1.seatOf i with link := link, rank := rank, bankBase := 0 }).adjustAll s

/-- SET SEAT (R41, R181). -/
def takeSetSeat (s : State) (seat link rank : Byte) : State :=
  match seatNumber seat.toNat, linkOfByte link with
  | some i, some l =>
    if 3 < rank.toNat then s.refuseEditor .badValue kindSetSeat none
    else if s.portFull l i then s.refuseEditor .full kindSetSeat none
    else (s.remapSeat i l rank.toNat).postDone kindSetSeat
  | _, _ => s.refuseEditor .badValue kindSetSeat none

/-- The first failing check of SET HUB (R22). -/
def hubRefusal (s : State) (rate acquire limit : Byte) (stale : Nat) : Option RefusalReason :=
  if s.tracker.transport.rolling then some .rolling
  else if rate.toNat ≠ 24 ∧ rate.toNat ≠ 25 ∧ rate.toNat ≠ 30 then some .badValue
  else if acquire.toNat = 0 ∨ 8 < acquire.toNat then some .badValue
  else if 30 < limit.toNat then some .badValue
  else if 4095 < stale then some .badValue
  else none

/-- SET HUB (R22, R55). -/
def takeSetHub (s : State) (rate acquire limit : Byte) (stale : Nat) : State :=
  match s.hubRefusal rate acquire limit stale with
  | some reason => s.refuseEditor reason kindSetHub none
  | none =>
    postDone { s with
      tracker := { s.tracker with
        rate := rate.toNat, acquireCount := acquire.toNat, freewheelLimit := limit.toNat }
      arbiter := { s.arbiter with staleTimeout := stale } } kindSetHub

/-! ## Lists -/

/-- The checks that LIST BEGIN and CLEAR LIST share after those of their fields (R182, R188). -/
def listRefusal (s : State) (c : ControlId) : Option RefusalReason :=
  if s.storeReady = false then some .notReady
  else if s.tracker.transport ≠ .stopped then some .rolling
  else if s.store.load.isSome then some .busy
  else if s.spliceQueued c then some .busy
  else if s.readOf c then some .busy
  else none

/-- The load that LIST BEGIN starts (R120, R182). R120 gives the last frame no value before the first record; the model writes
0, a DESIGN CHOICE that nothing reads while the received count is 0 (R121; log 27). -/
def beginLoad (c : ControlId) (count : Nat) : Load where
  control := c
  expected := count
  received := 0
  first := none
  tail := none
  lastFrame := 0
  endTaken := false

/-- LIST BEGIN (R182). -/
def takeListBegin (s : State) (control : Byte) (count : Nat) : State :=
  match controlNumber control.toNat with
  | none => s.refuseEditor .noControl kindListBegin (some control)
  | some c =>
    if count = 0 then s.refuseEditor .badValue kindListBegin (some control)
    else match s.listRefusal c with
      | some reason => s.refuseEditor reason kindListBegin (some control)
      | none => (s.setLoad (some (beginLoad c count))).reservePlace .load

/-- The record of a load gets a slot at once, or waits for one and stalls the port (R107, R121, R183). -/
def giveLoadRecord (s : State) (l : Load) (r : LoadRecord) : State :=
  if 1 ≤ s.slotsForLoad then
    match s.takeSlot with
    | some (slot, s1) => s1.linkLoadRecord l slot r
    | none => s
  else s.setEditor { s.editor with waitingRecord := some r }

/-- LIST RECORD (R121, R183). -/
def takeListRecord (s : State) (r : LoadRecord) : State :=
  match s.store.load with
  | none => s.refuseEditor .noLoad kindListRecord none
  | some l =>
    if l.endTaken then s.refuseEditor .noLoad kindListRecord none
    else if 1 < r.kind.toNat ∨ Config.maxFrame < r.frame then s.refuseEditor .badValue kindListRecord none
    else if l.received = l.expected then s.refuseEditor .count kindListRecord none
    else if 0 < l.received ∧ r.frame ≤ l.lastFrame then s.abortLoad (some .order)
    else if s.totalFree = 0 then s.abortLoad (some .pool)
    else (s.giveLoadRecord l r).settlePool s

/-- Posts the held tail of a finished load with LAST set (R122). -/
def postLoadTail (s : State) (l : Load) : State :=
  match l.tail with
  | some t => s.postRequest (.loadWrite { slot := t.slot, record := { t.record with last := true, next := 0 } })
  | none => s

/-- LIST END (R122, R184). -/
def takeListEnd (s : State) : State :=
  match s.store.load with
  | none => s.refuseEditor .noLoad kindListEnd none
  | some l =>
    if l.endTaken then s.refuseEditor .noLoad kindListEnd none
    else if l.received ≠ l.expected then s.abortLoad (some .count)
    else (s.postLoadTail l).setLoad (some { l with endTaken := true })

/-- The first failing check of READ LIST after its control (R186). -/
def readRefusal (s : State) (c : ControlId) (fromFrame toFrame : Frame) : Option RefusalReason :=
  if Config.maxFrame < fromFrame ∨ Config.maxFrame < toFrame ∨ toFrame < fromFrame then some .badValue
  else if s.tracker.transport ≠ .stopped then some .rolling
  else if s.editor.read.isSome then some .busy
  else if (match s.store.load with
    | some l => l.control == c
    | none => false) then some .busy
  else none

/-- The list read begins; that of an empty list ends at once (R114, R186, R187). -/
def beginRead (s : State) (r : ListRead) : State :=
  let s1 := (s.reservePlace .read).setRead (some r)
  if s.listEmpty r.control && !s.spliceRunning r.control then s1.endRead r else s1

/-- READ LIST (R186). -/
def takeReadList (s : State) (control : Byte) (fromFrame toFrame : Frame) : State :=
  match controlNumber control.toNat with
  | none => s.refuseEditor .noControl kindReadList (some control)
  | some c =>
    match s.readRefusal c fromFrame toFrame with
    | some reason => s.refuseEditor reason kindReadList (some control)
    | none =>
      s.beginRead { control := c, fromFrame := fromFrame, toFrame := toFrame, next := none, count := 0, atPort := false }

/-- CLEAR LIST of a control that passed the checks: done at once, or in flight (R124, R188). -/
def beginClear (s : State) (c : ControlId) : State :=
  if s.listEmpty c then (s.relocateOne c).postDone kindClearList
  else if s.cursorBusy c then
    (s.setEditor { s.editor with clear := some c }).reservePlace .clear
  else (s.clearStore c).postDone kindClearList

/-- CLEAR LIST (R188). -/
def takeClearList (s : State) (control : Byte) : State :=
  match controlNumber control.toNat with
  | none => s.refuseEditor .noControl kindClearList (some control)
  | some c =>
    match s.listRefusal c with
    | some reason => s.refuseEditor reason kindClearList (some control)
    | none => s.beginClear c

/-! ## Status, flags and resets -/

/-- What STATUS reports (R189). -/
def statusReport (s : State) : StatusReport where
  transport := s.tracker.transport
  currentFrame := s.tracker.currentFrame
  ready := s.storeReady
  totalFree := s.totalFree
  spliceLength := s.store.spliceQueue.length
  relocateSize := s.relocateSize
  links := s.linkSet
  flags := s.flagSet

/-- Every touch is removed (R58). -/
def removeAllTouches (s : State) : State := s.isolate (fun _ => true)

/-- The pass in flight is abandoned, its building bank freed, the pending slot and the close-all bar cleared (R36, R82,
R87, R152). -/
def abandonPass (s : State) : State :=
  { s with
    pass := { s.pass with run := PassRun.idle }
    engine := { s.engine with building := none }
    tracker := { s.tracker with pendingFrame := none }
    writer := { s.writer with closeAllBar := false } }

/-- An evaluation record after MIX RESET: the previous evaluation mode is kept (R83). -/
def mixResetRecord (x : EvalRecord) : EvalRecord := { EvalRecord.reset with previousMode := x.previousMode }

/-- Every evaluation record is reset (R83). -/
def resetRecords (s : State) : State :=
  { s with pass := { s.pass with records := tbuild (fun c => mixResetRecord (s.recordOf c)) } }

/-- MIX RESET (R192): ABORTED RESET for a load comes before DONE. -/
def takeMixReset (s : State) : State :=
  let s1 := s.removeAllTouches.abandonPass.resetRecords
  let s2 := s1.discardAll.abortLoad (some .reset)
  (s2.relocateAll.clearFlagSet 0x7F#8).postDone kindMixReset

/-- LINK RESET (R159, R177, R193). -/
def takeLinkReset (s : State) (port : Byte) : State :=
  if h : port.toNat < 4 then (s.surfaceDown ⟨port.toNat, h⟩).postDone kindLinkReset
  else if port = 4#8 then s.editorDown
  else s.refuseEditor .badValue kindLinkReset none

end State

/-- SET_CONTROL (R180). -/
def execSetControl (s : State) : Host.Outcome State Fault Refusal :=
  match s.headCommand with
  | some (.setControl f) => .next (s.popEditor.takeSetControl f).transmitAll
  | _ => .next s

/-- SET_STEM (R180). -/
def execSetStem (s : State) : Host.Outcome State Fault Refusal :=
  match s.headCommand with
  | some (.setStem stem safe) => .next (s.popEditor.takeSetStem stem safe).transmitAll
  | _ => .next s

/-- SET_SEAT (R181). -/
def execSetSeat (s : State) : Host.Outcome State Fault Refusal :=
  match s.headCommand with
  | some (.setSeat seat link rank) => .next (s.popEditor.takeSetSeat seat link rank).transmitAll
  | _ => .next s

/-- SET_HUB (R22, R180). -/
def execSetHub (s : State) : Host.Outcome State Fault Refusal :=
  match s.headCommand with
  | some (.setHub rate acquire limit stale) => .next (s.popEditor.takeSetHub rate acquire limit stale).transmitEditor
  | _ => .next s

/-- LIST_BEGIN (R182). -/
def execListBegin (s : State) : Host.Outcome State Fault Refusal :=
  match s.headCommand with
  | some (.listBegin control count) => .next (s.popEditor.takeListBegin control count).transmitEditor
  | _ => .next s

/-- LIST_RECORD (R183). The allocation may set POOL_LOW or empty the pool. -/
def execListRecord (s : State) : Host.Outcome State Fault Refusal :=
  match s.headCommand with
  | some (.listRecord r) => .next (s.popEditor.takeListRecord r).transmitAll
  | _ => .next s

/-- LIST_END (R184). -/
def execListEnd (s : State) : Host.Outcome State Fault Refusal :=
  match s.headCommand with
  | some .listEnd => .next s.popEditor.takeListEnd.transmitEditor
  | _ => .next s

/-- READ_LIST (R186). -/
def execReadList (s : State) : Host.Outcome State Fault Refusal :=
  match s.headCommand with
  | some (.readList control fromFrame toFrame) =>
    .next (s.popEditor.takeReadList control fromFrame toFrame).transmitEditor
  | _ => .next s

/-- CLEAR_LIST (R188). -/
def execClearList (s : State) : Host.Outcome State Fault Refusal :=
  match s.headCommand with
  | some (.clearList control) => .next (s.popEditor.takeClearList control).transmitEditor
  | _ => .next s

/-- STATUS (R189). -/
def execStatus (s : State) : Host.Outcome State Fault Refusal :=
  match s.headCommand with
  | some .status => .next (s.popEditor.postEditor (.status s.statusReport)).transmitEditor
  | _ => .next s

/-- CLEAR_FLAGS (R190). -/
def execClearFlags (s : State) : Host.Outcome State Fault Refusal :=
  match s.headCommand with
  | some (.clearFlags set) => .next ((s.popEditor.clearFlagSet set).postDone kindClearFlags).transmitEditor
  | _ => .next s

/-- MIX_RESET (R192). -/
def execMixReset (s : State) : Host.Outcome State Fault Refusal :=
  match s.headCommand with
  | some .mixReset => .next s.popEditor.takeMixReset.transmitEditor
  | _ => .next s

/-- LINK_RESET (R193). -/
def execLinkReset (s : State) : Host.Outcome State Fault Refusal :=
  match s.headCommand with
  | some (.linkReset port) => .next (s.popEditor.takeLinkReset port).transmitEditor
  | _ => .next s

end Sys2Proof.Machine
end

