-- ==== Sys2Proof/Machine/Engine.lean ====
section
/-! DEFINITION. The engine's requests (R148 to R150, R199). -/

namespace Sys2Proof.Machine

/-- BLOCK START latches the newest completed table (R148). -/
def EnginePort.blockStart (x : EnginePort) : EnginePort :=
  match x.published with
  | some b => { x with published := none, reading := some b }
  | none => x

/-- BLOCK END clears the latch (R149). -/
def EnginePort.blockEnd (x : EnginePort) : EnginePort :=
  match x.reading, x.published with
  | some b, none => { x with published := some b, reading := none }
  | some _, some _ => { x with reading := none }
  | none, _ => x

/-- The bank READ reads: the reading bank while a block is open, else the published bank (R150). -/
def EnginePort.readBank (x : EnginePort) : Option BankId :=
  match x.reading with
  | some b => some b
  | none => x.published

/-- The entry READ returns for an index (R150). -/
def EnginePort.entryFor (x : EnginePort) (index : BitVec 8) : Entry :=
  if h : index.toNat < 192 then
    match x.readBank with
    | some b => tget (tget x.banks b) ⟨index.toNat, h⟩
    | none => Entry.reset
  else Entry.reset

/-- BLOCK_START (R148). -/
def execBlockStart (s : State) : Host.Outcome State Fault Refusal := .next { s with engine := s.engine.blockStart }

/-- BLOCK_END (R149). -/
def execBlockEnd (s : State) : Host.Outcome State Fault Refusal := .next { s with engine := s.engine.blockEnd }

/-- ENGINE_READ (R150, R199): the word stands on the data output until the next READ. -/
def execEngineRead (index : BitVec 8) (s : State) : Host.Outcome State Fault Refusal :=
  .next { s with engine := { s.engine with dataOut := engineWord (s.engine.entryFor index) } }

end Sys2Proof.Machine
end

