-- ==== Sys2Proof/Machine/Arbitration.lean ====
section
/-! DEFINITION. The memory port arbiter: priorities, the reads that are held back, the grant, and the access of one whole
slot (R108, R126, R127, R198). -/

namespace Sys2Proof.Machine

/-- The priority of a request, 1 the highest (R109, R126). -/
def MemRequest.priority : MemRequest → Nat
  | .append _ _ => 1
  | .closing _ _ => 1
  | .chainReturn .discard _ => 1
  | .fetch _ _ => 2
  | .refill _ => 3
  | .spliceRead _ => 4
  | .spliceWrite _ => 4
  | .chainReturn .splice _ => 4
  | .walkRead _ _ => 5
  | .loadWrite _ => 6
  | .listRead _ _ => 6
  | .chainReturn .list _ => 6
  | .format _ => 7

/-- The slot a read reads. -/
def MemRequest.readSlot : MemRequest → Option Slot
  | .fetch _ slot => some slot
  | .refill slot => some slot
  | .spliceRead slot => some slot
  | .walkRead slot _ => some slot
  | .listRead slot _ => some slot
  | .append _ _ | .closing _ _ | .chainReturn _ _ | .spliceWrite _ | .loadWrite _ | .format _ => none

/-- The slot a posted write writes (R108). -/
def MemRequest.writeSlot : MemRequest → Option Slot
  | .append _ w => some w.slot
  | .closing _ w => some w.slot
  | .chainReturn _ w => some w.slot
  | .spliceWrite w => some w.slot
  | .loadWrite w => some w.slot
  | .fetch _ _ | .refill _ | .spliceRead _ | .walkRead _ _ | .listRead _ _ | .format _ => none

/-- The first request of the highest priority among those presented (R126, R127). -/
def chooseRequest (presented : List MemRequest) : Option MemRequest :=
  [1, 2, 3, 4, 5, 6, 7].findSome? (fun p => presented.find? (fun r => r.priority == p))

namespace State

/-- Whether a slot is the target of a posted write that has not completed (R108, R127). -/
def writePosted (s : State) (slot : Slot) : Bool := s.outstanding.any (fun r => r.writeSlot == some slot)

/-- Whether a read is held back (R108, R127). -/
def heldBack (s : State) (r : MemRequest) : Bool :=
  match r.readSlot with
  | some slot => s.writePosted slot
  | none => false

/-- The requests the store's own fields imply: the refill of the free list head, and FORMAT's next write (R108, R111). -/
def impliedRequests (s : State) : List MemRequest :=
  (if s.store.refill = .requested then [.refill s.store.freeHead] else []) ++
    (match s.store.storeState with
      | .formatting slot => [.format slot]
      | .ready => [])

/-- The requests presented to the arbiter (R126, R127). -/
def presented (s : State) : List MemRequest := (s.port.requests ++ s.impliedRequests).filter (fun r => !s.heldBack r)

/-- Begins a granted access; a granted refill is bound to its slot (R108, R126). -/
def beginAccess (s : State) (r : MemRequest) : State :=
  let s1 := { s with port := { requests := s.port.requests.erase r, access := some r } }
  match r with
  | .refill slot => s1.setRefill (.reading slot true)
  | _ => s1

/-- The completion of a write: the whole slot is written and the access ends (R126, R198). -/
def completeWrite (s : State) (w : SlotRecord) : State :=
  endAccess { s with memory := Memory.writeSlot s.memory w.slot w.record }

/-- The record a read completes with (R126, R198). -/
def readRecord (s : State) (slot : Slot) : SlotRecord := { slot := slot, record := Memory.readSlot s.memory slot }

end State

end Sys2Proof.Machine
end

