-- ==== Sys2Proof/Machine/Splice.lean ====
section
/-! DEFINITION. The splice of a closed segment: its start, its walk, its writes and its completion (R112 to R118, R138). -/

namespace Sys2Proof.Machine

/-- The walk's answer before any record has been read (R115). -/
def SpliceAnswer.empty : SpliceAnswer := { p := none, run := none, n := none, oldValue := none }

/-- The level a record gives from its frame on: absent for GAP (R104). -/
def Record.value (r : Record) : Option Level := if r.kind = .level then some r.level else none

/-- The removed run with one more record at its end (R115). -/
def growRun (slot : Slot) : Option RemovedRun → RemovedRun
  | none => { first := slot, last := slot, length := 1 }
  | some x => { x with last := slot, length := x.length + 1 }

/-- The walk's answer after one more record (R115). -/
def SpliceAnswer.classify (a : SpliceAnswer) (g : Segment) (r : SlotRecord) : SpliceAnswer :=
  if r.record.frame < g.inFrame then { a with p := some r, oldValue := r.record.value }
  else if r.record.frame ≤ g.outFrame then { a with run := some (growRun r.slot a.run), oldValue := r.record.value }
  else { a with n := some r }

/-- Whether the reserve slot becomes the resume record (R116). -/
def SpliceAnswer.usesReserve (a : SpliceAnswer) (g : Segment) : Bool :=
  decide (g.outFrame < Config.maxFrame) && (match a.n with
    | some r => r.record.frame != g.outFrame + 1
    | none => true)

/-- The resume record, before its link: the old stored value at out + 1 (R116). -/
def SpliceAnswer.resume (a : SpliceAnswer) (g : Segment) : Record :=
  match a.oldValue with
  | some l => { frame := g.outFrame + 1, kind := .level, level := l, last := false, next := 0 }
  | none => { frame := g.outFrame + 1, kind := .gap, level := 0, last := false, next := 0 }

/-- A record linked to the slot that follows it, or LAST when none does (R117). -/
def Record.linked (r : Record) : Option Slot → Record
  | some slot => { r with last := false, next := slot }
  | none => { r with last := true, next := 0 }

/-- The slot after the resume record: N's, if there is one (R117). -/
def SpliceAnswer.nSlot (a : SpliceAnswer) : Option Slot := a.n.map SlotRecord.slot

/-- The write of the held tail (R117). -/
def SpliceAnswer.tailWrite (a : SpliceAnswer) (g : Segment) : SlotRecord where
  slot := g.tail.slot
  record := Record.linked { frame := g.tail.frame, kind := .level, level := g.tail.level, last := false, next := 0 }
    (if a.usesReserve g then some g.reserve else a.nSlot)

/-- The writes of WRITING, in the order in which they are posted (R117). The manual gives the writes and lets them complete
in any order; posting them in the order of its list is a DESIGN CHOICE (log 26). -/
def SpliceAnswer.writes (a : SpliceAnswer) (g : Segment) : List SlotRecord :=
  [a.tailWrite g] ++
    (if a.usesReserve g then [{ slot := g.reserve, record := (a.resume g).linked a.nSlot }] else []) ++
    (match a.p with
      | some r => [{ slot := r.slot, record := r.record.linked (some g.first) }]
      | none => [])

/-- The length of the removed run (R115). -/
def SpliceAnswer.removed (a : SpliceAnswer) : Nat :=
  match a.run with
  | some x => x.length
  | none => 0

/-- The slots a segment brings into the list (R118). -/
def SpliceAnswer.kept (a : SpliceAnswer) (g : Segment) : Nat := if a.usesReserve g then g.count else g.count - 1

/-- The descriptor after a splice (R118). -/
def SpliceAnswer.descriptor (a : SpliceAnswer) (g : Segment) (old : Descriptor) : Descriptor where
  head := if a.p.isNone then g.first else old.head
  tail := if a.n.isSome then old.tail else if a.usesReserve g then g.reserve else g.tail.slot
  count := old.count - a.removed + a.kept g

namespace State

/-- Replaces the splice state (R113). -/
def setSplice (s : State) (x : SpliceState) : State := { s with store := { s.store with splice := x } }

/-- Whether the splice of the head segment may start (R113, R114). -/
def spliceMayStart (s : State) (e : ClosedSegment) : Bool :=
  (s.store.splice == .idle || s.store.splice == .waiting) && s.readyForSplice e &&
    !s.cursorBusy e.segment.control && !s.readOf e.segment.control

/-- The walk has its answer: WRITING, and the splice writes are posted (R113, R117), in the order of log 26, which is then
the order of their grants (R126). -/
def beginWrites (s : State) (g : Segment) (a : SpliceAnswer) : State :=
  (a.writes g).foldl (fun x w => x.postRequest (.spliceWrite w)) (s.setSplice (.writing a))

/-- The start of a splice: the cursor is PARKED, and the walk begins at the head slot or ends at once (R114, R115, R138). -/
def startSplice (s : State) (g : Segment) : State :=
  let parked := s.setCursor g.control { s.cursorOf g.control with state := .parked }
  if s.listEmpty g.control then parked.beginWrites g SpliceAnswer.empty
  else (parked.setSplice (.walking SpliceAnswer.empty)).postRequest (.spliceRead (s.listOf g.control).head)

/-- The walk goes on with a record it has read (R115). -/
def walkSplice (s : State) (g : Segment) (a : SpliceAnswer) (r : SlotRecord) : State :=
  let b := a.classify g r
  if b.n.isSome ∨ r.record.last = true then s.beginWrites g b
  else (s.setSplice (.walking b)).postRequest (.spliceRead r.record.next)

/-- Whether some splice write has not completed (R118). -/
def spliceWriteOutstanding (s : State) : Bool :=
  s.outstanding.any (fun r => match r with
    | .spliceWrite _ => true
    | _ => false)

/-- Returns the removed run, then an unused reserve slot (R118). -/
def returnSpliced (s : State) (g : Segment) (a : SpliceAnswer) : State :=
  let s1 := match a.run with
    | some x => s.returnChain .splice x.first x.last x.length
    | none => s
  if a.usesReserve g then s1 else s1.returnChain .splice g.reserve g.reserve 1

/-- The completion of a splice (R118). -/
def completeSplice (s : State) (g : Segment) (a : SpliceAnswer) (rest : List ClosedSegment) : State :=
  let listed := s.setList g.control (a.descriptor g (s.listOf g.control))
  let returned := (listed.returnSpliced g a).setSpliceQueue rest
  (returned.setSplice (if rest.isEmpty then .idle else .waiting)).relocateOne g.control

end State

end Sys2Proof.Machine
end

