-- ==== Sys2Proof/Machine/MemorySteps.lean ====
section
/-! DEFINITION. The steps of the memory port: the grant, and the completion of each kind of access (R91, R98, R108, R109,
R111, R115, R117, R121, R126, R131, R135, R187). -/

namespace Sys2Proof.Machine

namespace State

/-- A refill read whose result stands has completed (R108). -/
def refillFrom (s : State) (r : SlotRecord) : State :=
  { s with store := { s.store with
    freeQueue := s.store.freeQueue ++ [r.slot]
    freeHead := r.record.next
    memoryCount := s.store.memoryCount - 1 } }

/-- Whether the result of the refill read in flight stands (R109). -/
def refillStands (s : State) : Bool :=
  match s.store.refill with
  | .reading _ stands => stands
  | _ => false

/-- The completion of a refill read (R108, R109). -/
def completeRefill (s : State) (slot : Slot) : State :=
  requestRefill (if s.refillStands then (s.endAccess.refillFrom (s.readRecord slot)).setRefill .none
    else s.endAccess.setRefill .none)

/-- The completion of a cursor fetch (R131). -/
def completeFetch (s : State) (c : ControlId) (slot : Slot) : State :=
  if (s.cursorOf c).state = .fetching then
    s.endAccess.setCursor c { s.cursorOf c with state := .ready, lookahead := .record (s.readRecord slot) }
  else s.endAccess

/-- A walk goes on with a record it has read (R135). -/
def walkOn (s : State) (w : Walk) (r : SlotRecord) : State :=
  match (s.cursorOf w.control).target with
  | some t =>
    if t < r.record.frame then s.endWalk w.control w.candidate (.record r)
    else if r.record.last then s.endWalk w.control (some r.current) .endOfList
    else (s.setWalk (some { w with candidate := some r.current })).postRequest (.walkRead r.record.next true)
  | none => s

/-- The completion of a relocate walk read; that of an abandoned walk is dropped (R135, R136). -/
def completeWalkRead (s : State) (slot : Slot) (live : Bool) : State :=
  match live, s.cursors.walk with
  | true, some w => s.endAccess.walkOn w (s.readRecord slot)
  | _, _ => s.endAccess

/-- The completion of a splice walk read (R115). -/
def completeSpliceRead (s : State) (slot : Slot) : State :=
  match s.store.splice, s.store.spliceQueue with
  | .walking a, e :: _ => s.endAccess.walkSplice e.segment a (s.readRecord slot)
  | _, _ => s.endAccess

/-- The splice completes when the last of its writes has (R118). -/
def spliceWritten (s : State) : State :=
  match s.store.splice, s.store.spliceQueue with
  | .writing a, e :: rest => if s.spliceWriteOutstanding then s else s.completeSplice e.segment a rest
  | _, _ => s

/-- The completion of FORMAT: the whole memory is the free list, and refills begin (R111). -/
def formatDone (s : State) : State :=
  requestRefill { s with store := { s.store with
    freeHead := 0, memoryCount := Config.slotCount, storeState := .ready } }

/-- The completion of a FORMAT write (R111). -/
def completeFormat (s : State) (slot : Slot) : State :=
  let written := s.completeWrite { slot := slot, record := formatRecord slot }
  if slot = BitVec.allOnes 20 then written.formatDone
  else { written with store := { written.store with storeState := .formatting (slot + 1) } }

/-- A stream's record goes to the editor port, or its place is released, and the stream ends or goes on (R125, R187). A
record with LAST ends the stream whatever its frame (DEDUCED, log 22). -/
def streamRecord (s : State) (r : ListRead) (x : SlotRecord) : State :=
  if r.toFrame < x.record.frame then (s.releasePlace .record).endRead r
  else
    let inRange := r.fromFrame ≤ x.record.frame
    let count := if inRange then r.count + 1 else r.count
    let s1 := if inRange then s.postReserved .record (.record x.record.frame x.record.kind x.record.level)
      else s.releasePlace .record
    if x.record.last then s1.endRead { r with count := count }
    else s1.setRead (some { r with next := some x.record.next, count := count, atPort := false })

/-- The completion of a list read at the port; that of an ended stream is dropped (R177, R187). -/
def completeListRead (s : State) (slot : Slot) (live : Bool) : State :=
  match live, s.editor.read with
  | true, some r => s.endAccess.streamRecord r (s.readRecord slot)
  | _, _ => s.endAccess

end State

/-- MEMORY_GRANT (R126, R127): with no access in progress, the arbiter's choice begins. -/
def execMemoryGrant (s : State) : Host.Outcome State Fault Refusal :=
  match s.port.access, chooseRequest s.presented with
  | none, some r => .next (s.beginAccess r)
  | _, _ => .next s

/-- APPEND_WRITE_COMPLETE (R91): the entry leaves the append queue. -/
def execAppendWriteComplete (s : State) : Host.Outcome State Fault Refusal :=
  match s.port.access with
  | some (.append _ w) => .next (s.completeWrite w)
  | _ => .next s

/-- CLOSING_WRITE_COMPLETE (R98, R100). -/
def execClosingWriteComplete (s : State) : Host.Outcome State Fault Refusal :=
  match s.port.access with
  | some (.closing (some c) w) => .next ((s.completeWrite w).closingDone c)
  | some (.closing none w) => .next (s.completeWrite w)
  | _ => .next s

/-- CHAIN_RETURN_WRITE_COMPLETE (R109). -/
def execChainReturnWriteComplete (s : State) : Host.Outcome State Fault Refusal :=
  match s.port.access with
  | some (.chainReturn _ w) => .next (s.completeWrite w)
  | _ => .next s

/-- REFILL_READ_COMPLETE (R108). -/
def execRefillReadComplete (s : State) : Host.Outcome State Fault Refusal :=
  match s.port.access with
  | some (.refill slot) => .next (s.completeRefill slot)
  | _ => .next s

/-- FETCH_COMPLETE (R131). -/
def execFetchComplete (s : State) : Host.Outcome State Fault Refusal :=
  match s.port.access with
  | some (.fetch c slot) => .next (s.completeFetch c slot)
  | _ => .next s

/-- WALK_READ_COMPLETE (R135). -/
def execWalkReadComplete (s : State) : Host.Outcome State Fault Refusal :=
  match s.port.access with
  | some (.walkRead slot live) => .next (s.completeWalkRead slot live)
  | _ => .next s

/-- SPLICE_WALK_READ_COMPLETE (R115). -/
def execSpliceWalkReadComplete (s : State) : Host.Outcome State Fault Refusal :=
  match s.port.access with
  | some (.spliceRead slot) => .next (s.completeSpliceRead slot)
  | _ => .next s

/-- SPLICE_WRITE_COMPLETE (R117, R118). -/
def execSpliceWriteComplete (s : State) : Host.Outcome State Fault Refusal :=
  match s.port.access with
  | some (.spliceWrite w) => .next (s.completeWrite w).spliceWritten
  | _ => .next s

/-- FORMAT_WRITE_COMPLETE (R111). -/
def execFormatWriteComplete (s : State) : Host.Outcome State Fault Refusal :=
  match s.port.access with
  | some (.format slot) => .next (s.completeFormat slot)
  | _ => .next s

/-- LOAD_WRITE_COMPLETE (R121). -/
def execLoadWriteComplete (s : State) : Host.Outcome State Fault Refusal :=
  match s.port.access with
  | some (.loadWrite w) => .next (s.completeWrite w)
  | _ => .next s

/-- LIST_READ_COMPLETE (R187): what the stream posts may be sent at once (R179). -/
def execListReadComplete (s : State) : Host.Outcome State Fault Refusal :=
  match s.port.access with
  | some (.listRead slot live) => .next (s.completeListRead slot live).transmitEditor
  | _ => .next s

end Sys2Proof.Machine
end

