-- ==== Sys2Proof/Machine/Pass.lean ====
section
/-! DEFINITION. The frame pass: its start and completion, and the evaluation of one control phase by phase
(R35, R36, R55, R61 to R81, R95, R144 to R147). -/

namespace Sys2Proof.Machine

/-! ## Start and completion -/

/-- The lowest-numbered bank that is neither published nor reading (R144). -/
def EnginePort.bankToBuild (x : EnginePort) : Option BankId :=
  (List.finRange 3).find? (fun b => x.published != some b && x.reading != some b)

/-- The roles after a completion: the building bank is published; the indication is given (R146, R147). -/
def EnginePort.completed (x : EnginePort) : EnginePort :=
  { x with published := x.building, building := none, framePublished := x.framePublished + 1 }

namespace State

/-- A pass starts for a frame: IN FLIGHT, a building bank chosen, the close-all bar cleared (R61, R87, R144). -/
def startPass (s : State) (t : Frame) : State :=
  let s1 := s.setRun { inFlight := true, frame := some t, position := none, wait := none, underWay := none }
  { s1 with
    writer := { s1.writer with closeAllBar := false }
    engine := { s1.engine with building := s1.engine.bankToBuild } }

/-- Replaces the pending frame (R35). -/
def setPendingFrame (s : State) (x : Option Frame) : State := { s with tracker := { s.tracker with pendingFrame := x } }

/-- A frame event (R35). -/
def frameEvent (s : State) (t : Frame) : State :=
  if s.pass.run.inFlight then
    match s.tracker.pendingFrame with
    | none => s.setPendingFrame (some t)
    | some _ => (s.setPendingFrame (some t)).raisePassOverrun
  else s.startPass t

/-- The completion of a pass; a pending frame starts its pass at once (R36, R62, R146, R147). -/
def completePass (s : State) : State :=
  let s1 := { s.setRun PassRun.idle with engine := s.engine.completed }
  match s1.tracker.pendingFrame with
  | some t => (s1.setPendingFrame none).startPass t
  | none => s1

end State

/-! ## The choice of the presented level (R65 to R75) -/

/-- What an evaluation has read when it chooses the presented level (R64). -/
structure Inputs where
  control : ControlId
  frame : Frame
  config : ControlConfig
  /-- The evaluation mode (R67). -/
  mode : Mode
  transport : Transport
  stored : Option Level
  live : Level
  touch : Option Touch
  segmentOpen : Bool
  /-- The evaluation record as the previous evaluation left it. -/
  record : EvalRecord

/-- The control carries a touch record after the first step (R64). -/
def Inputs.held (x : Inputs) : Bool := x.touch.isSome

/-- The evaluation finds a mode transition (R67). -/
def Inputs.transition (x : Inputs) : Bool := x.mode != x.record.previousMode

/-- The untouched value U(t) (R65). -/
def Inputs.untouched (x : Inputs) : Level := x.stored.getD x.live

/-- Control c + 1, if c is not the last (R62). -/
def controlAfter (c : ControlId) : Option ControlId := if h : c.val + 1 < 208 then some ⟨c.val + 1, h⟩ else none

/-- A mode that writes (R86). -/
def Mode.writes : Mode → Bool
  | .touch | .latch | .trim => true
  | .off | .read => false

/-- A mode that glides (R72). -/
def Mode.glides : Mode → Bool
  | .touch | .trim => true
  | .off | .read | .latch => false

/-- A glide starts at this evaluation (R72). -/
def Inputs.glideStarts (x : Inputs) : Bool :=
  x.mode.glides && !x.transition && x.record.previousHeld && !x.held

/-- The glide of this evaluation, before its step is presented: started, ended by a transition, cancelled by a touch, or
running on (R67, R72, R75). -/
def Inputs.glide (x : Inputs) : Option Glide :=
  if x.glideStarts then
    some { startLevel := x.record.presented, startOffset := x.record.trimOffset, count := x.config.glideFrames, step := 1 }
  else if x.transition || x.held then none
  else x.record.glide

/-- The latch holds at this evaluation: an untouched LATCH control, latched, with its segment open (R67, R70). -/
def Inputs.latched (x : Inputs) : Bool := x.record.latch && !x.transition && x.segmentOpen

/-- What the choice of the presented level comes to. -/
structure Choice where
  presented : Level
  trimOffset : Int
  glide : Option Glide
  glideEnded : Bool
  latch : Bool
  deriving DecidableEq, Repr

/-- A choice without glide or latch. -/
def Choice.plain (x : Inputs) (l : Level) : Choice :=
  { presented := l, trimOffset := x.record.trimOffset, glide := none, glideEnded := false, latch := false }

/-- A choice that presents a glide step (R73, R74). -/
def Choice.gliding (x : Inputs) (g : Glide) (l : Level) : Choice :=
  { Choice.plain x l with glide := glideNext g, glideEnded := glideAtEnd g }

/-- The trim offset of a held TRIM control (R71). -/
def Inputs.trimOffset (x : Inputs) : Int :=
  match x.touch with
  | some r => levelDifference x.live r.reference
  | none => x.record.trimOffset

/-- The level a stored value and an offset give in mode TRIM; with no stored value the live level (R71, R74). -/
def Inputs.trimmed (x : Inputs) (offset : Int) : Level :=
  match x.stored with
  | some l => levelSum [l] offset
  | none => x.live

/-- The choice of the presented level (04, section 4.4, R68 to R74). -/
def Inputs.choose (x : Inputs) : Choice :=
  match x.mode with
  | .off => Choice.plain x x.live
  | .read => Choice.plain x x.untouched
  | .touch =>
    if x.held then Choice.plain x x.live
    else match x.glide with
      | some g => Choice.gliding x g (glideLevel g x.untouched)
      | none => Choice.plain x x.untouched
  | .latch =>
    if x.held then { Choice.plain x x.live with latch := x.record.latch && !x.transition }
    else if x.latched then { Choice.plain x x.live with latch := true }
    else Choice.plain x x.untouched
  | .trim =>
    if x.held then { Choice.plain x (x.trimmed x.trimOffset) with trimOffset := x.trimOffset }
    else match x.glide with
      | some g => Choice.gliding x g (x.trimmed (glideScale g g.startOffset))
      | none => Choice.plain x x.untouched

namespace State

/-! ## The phases of an evaluation -/

/-- The stale test of a held control (R55). -/
def staleTest (s : State) (c : ControlId) (t : Frame) : State :=
  if s.arbiter.staleTimeout = 0 ∨ s.writer.closeAllBar = true ∨ s.tracker.transport.rolling = false then s
  else match s.touchOf c with
    | some r =>
      if t < r.lastMove then s.setTouch c (some { r with lastMove := t })
      else if s.arbiter.staleTimeout ≤ t - r.lastMove then (s.removeTouch c).postNotice r.holder c .stale
      else s
    | none => s

/-- The evaluation mode of a control (R67). -/
def evaluationMode (s : State) (c : ControlId) : Mode := if s.isSafe c then .off else (s.configOf c).mode

/-- The next control a pass evaluates (R62). -/
def nextControl (s : State) : Option ControlId :=
  match s.pass.run.position with
  | none => some 0
  | some c => controlAfter c

/-- The first step of an evaluation: position, cursor advance, stale test (R64). -/
def evaluationStep (s : State) (c : ControlId) (t : Frame) : State :=
  ((s.setRun { s.pass.run with position := some c }).advanceCursor c t).staleTest c t

/-- What the evaluation has read after its first step (R64, R65, R66). -/
def inputs (s : State) (c : ControlId) (t : Frame) : Inputs where
  control := c
  frame := t
  config := s.configOf c
  mode := s.evaluationMode c
  transport := s.tracker.transport
  stored := s.storedValue c
  live := s.liveOf c
  touch := s.touchOf c
  segmentOpen := (s.segmentOf c).isSome
  record := s.recordOf c

/-- Writes what the choice came to into the evaluation record; an untouched control's late-punch flag is cleared
(R65, R71, R76). -/
def recordChoice (s : State) (x : Inputs) (y : Choice) : State :=
  s.setRecord x.control { s.recordOf x.control with
    presented := y.presented
    storedUsed := x.stored
    trimOffset := y.trimOffset
    glide := y.glide
    latch := y.latch
    latePunch := x.held && (s.recordOf x.control).latePunch }

/-- The evaluation handed to the Segment Writer (R76). -/
def handOver (x : Inputs) (y : Choice) : Evaluation where
  control := x.control
  frame := x.frame
  config := x.config
  mode := x.mode
  held := x.held
  transport := x.transport
  transition := x.transition
  glideEnded := y.glideEnded
  presented := y.presented
  firstEvaluation := x.record.evaluatedFrame.isNone
  todo := .finish

/-! ## The results of an evaluation (R70, R79 to R81) -/

/-- The effective level of a control: its presented level, summed for a path with those of its masters (R19, R79). -/
def effectiveLevel (s : State) (e : Evaluation) : Level :=
  if 16 ≤ e.control.val then
    levelSum (e.presented :: (mastersOf e.config).map (fun m => (s.recordOf (masterControl m)).presented)) 0
  else e.presented

/-- Writes a path's entry into the building bank (R20, R79). -/
def writeEntry (s : State) (e : Evaluation) : State :=
  match s.engine.building, pathIndex e.control with
  | some b, some p => s.setEntry b p (engineEntry e.config.stem (s.recordOf e.control).effective)
  | _, _ => s

/-- The latch flag after the Segment Writer step (R70). -/
def latchAfter (s : State) (e : Evaluation) : Bool :=
  if e.mode = .latch ∧ e.held ∧ (s.segmentOf e.control).isSome then true else (s.recordOf e.control).latch

/-- Updates the evaluation record for the next evaluation (R70, R79, R81). -/
def recordResults (s : State) (e : Evaluation) : State :=
  s.setRecord e.control { s.recordOf e.control with
    effective := s.effectiveLevel e
    latch := s.latchAfter e
    previousMode := e.mode
    previousHeld := e.held
    evaluatedFrame := some e.frame }

/-- The end of an evaluation: the pass goes on to the next control, or completes (R62, R81). -/
def endEvaluation (s : State) (c : ControlId) : State :=
  let s1 := s.setRun { s.pass.run with wait := none, underWay := none }
  if c.val = 207 then s1.completePass else s1

/-- Everything after the Segment Writer step (R70, R79 to R81). -/
def finishEvaluation (s : State) (e : Evaluation) : State :=
  (((s.recordResults e).writeEntry e).feedFollow e.control e.presented e.firstEvaluation).endEvaluation e.control

/-! ## The Segment Writer step (R76, R86 to R96) -/

/-- A writing evaluation, the bar and the SAFE flag taken as they stand at the step (R86). -/
def isWriting (s : State) (e : Evaluation) : Bool :=
  e.held && e.mode.writes && e.transport.rolling && !s.writer.closeAllBar && !s.isSafe e.control

/-- The close of a glide that ended at this evaluation, after its append (R95). -/
def closeAtGlideEnd (s : State) (e : Evaluation) : State :=
  match s.segmentOf e.control with
  | some g => if e.glideEnded then s.closeSegment e.control g e.frame else s
  | none => s

/-- The evaluation waits at its control with some work left (R77, R88). -/
def enterWait (s : State) (e : Evaluation) (cause : WaitCause) (todo : EvalTodo) : State :=
  s.setRun { s.pass.run with wait := some cause, underWay := some { e with todo := todo } }

/-- Goes on after a punch-in attempt or an append: to the end of the evaluation, or into a wait (R77). -/
def settleWriter (s : State) (e : Evaluation) (todo : EvalTodo) : WriterAnswer → State
  | .done s1 => ((if todo = .append then s1.closeAtGlideEnd e else s1)).finishEvaluation e
  | .waits cause => s.enterWait e cause todo

/-- The punch-in attempt of an evaluation (R88). -/
def attemptPunchIn (s : State) (e : Evaluation) : State :=
  s.settleWriter e .punchIn (s.punchIn e.control e.frame e.presented)

/-- The step of a control with an open segment and no mode transition (R90, R95). -/
def continueSegment (s : State) (e : Evaluation) (g : Segment) : State :=
  s.settleWriter e .append (if e.presented = g.lastLevel then .done s else s.append e g)

/-- The step of a control with no open segment (R86, R88). -/
def withoutSegment (s : State) (e : Evaluation) : State :=
  if s.isWriting e then s.attemptPunchIn e else s.finishEvaluation e

/-- The Segment Writer step and what follows it (R76, R86, R95). -/
def writerStep (s : State) (e : Evaluation) : State :=
  match s.segmentOf e.control with
  | some g =>
    if e.transition then (s.closeSegment e.control g (s.lastEvaluatedFrame e.control g)).withoutSegment e else s.continueSegment e g
  | none => s.withoutSegment e

/-- The evaluation of a control in the pass for a frame, to its end or to a wait (R64 to R81). -/
def evaluate (s : State) (c : ControlId) (t : Frame) : State :=
  let s1 := s.evaluationStep c t
  let x := s1.inputs c t
  let y := x.choose
  (s1.recordChoice x y).writerStep (handOver x y)

/-- Whether what an evaluation waits for has come (R77, R88, R91, R107). -/
def waitRoom (s : State) (cause : WaitCause) (todo : EvalTodo) : Bool :=
  match cause, todo with
  | .appendRoom, _ => s.appendRoom
  | .freeSlot, .punchIn => decide (2 ≤ s.slotsForPass)
  | .freeSlot, _ => decide (1 ≤ s.slotsForPass)

/-- Goes on with the work an evaluation waited with (R77, R78, R88). -/
def resume (s : State) (e : Evaluation) : State :=
  match e.todo with
  | .punchIn => s.attemptPunchIn e
  | .append =>
    match s.segmentOf e.control with
    | some g => s.continueSegment e g
    | none => s.finishEvaluation e
  | .finish => s.finishEvaluation e

end State

end Sys2Proof.Machine
end

