-- ==== Sys2Proof/Machine/PassSteps.lean ====
section
/-! DEFINITION. The steps of the pass: an evaluation, the end of a wait, and deferred closing work (R64, R77, R98). -/

namespace Sys2Proof.Machine

namespace State

/-- The control and frame of the evaluation a pass in flight begins next; none while another is under way (R62). -/
def evaluationDue (s : State) : Option (ControlId × Frame) :=
  match s.pass.run.inFlight, s.pass.run.underWay, s.pass.run.frame, s.nextControl with
  | true, none, some t, some c => some (c, t)
  | _, _, _, _ => none

/-- The evaluation that can go on: its wait has ended, or what it waits for has come (R77, R78). -/
def resumable (s : State) : Option Evaluation :=
  match s.pass.run.underWay, s.pass.run.wait with
  | some e, none => some e
  | some e, some cause => if s.waitRoom cause e.todo then some e else none
  | none, _ => none

/-- The oldest closed segment that waits takes a slot and posts its closing write (R98). -/
def serveOldestClosing (s : State) : State :=
  match s.takeSlot with
  | some (slot, s1) =>
    match serveClosing slot s1.store.spliceQueue with
    | some (g, q) => (s1.postClosingWrite g slot).setSpliceQueue q
    | none => s
  | none => s

end State

/-- CONTROL_EVALUATION (R64). -/
def execControlEvaluation (s : State) : Host.Outcome State Fault Refusal :=
  match s.evaluationDue with
  | some (c, t) => .next ((s.evaluate c t).settlePool s).transmitAll
  | none => .next s

/-- EVALUATION_RESUME (R77, R78). -/
def execEvaluationResume (s : State) : Host.Outcome State Fault Refusal :=
  match s.resumable with
  | some e => .next ((s.resume e).settlePool s).transmitAll
  | none => .next s

/-- DEFERRED_CLOSING_WORK (R98). -/
def execDeferredClosingWork (s : State) : Host.Outcome State Fault Refusal :=
  .next (s.serveOldestClosing.settlePool s).transmitAll

end Sys2Proof.Machine
end

