-- ==== Sys2Proof/Machine/SeatMessages.lean ====
section
/-! DEFINITION. The takes of seat messages (R44 to R53, R161 to R163). -/

namespace Sys2Proof.Machine

/-- The port after a take: the message leaves the queue, and the hold out is dropped at 8 (R161, R162). -/
def SurfacePort.taken (x : SurfacePort) : SurfacePort :=
  { x with inbound := x.inbound.tail, holdOut := x.holdOut && decide (8 < x.inbound.tail.length) }

namespace State

/-- The message a surface port hands over: its head, while the reply queue has room (R44, R161). -/
def headMessage (s : State) (p : SurfaceId) : Option SeatMessage :=
  if (s.surfaceOf p).replies.length < Config.replyCapacity then (s.surfaceOf p).inbound.head? else none

/-- The head message leaves the inbound queue (R161). -/
def popSurface (s : State) (p : SurfaceId) : State := s.setSurface p (s.surfaceOf p).taken

/-- Posts REFUSED at a take, addressed to the message's seat (R44, R173). -/
def refuseTake (s : State) (p : SurfaceId) (m : SeatMessage) (reason : RefusalReason) (control : Option Byte) : State :=
  s.postReply p m.seat (.refused reason m.body.kind control)

/-- The take of a message that names a fader: the checks NOT_MAPPED, BAD_VALUE and NO_CONTROL, then an effect for the seat
and control (R40, R44). A NO_CONTROL refusal carries the number the fader maps to (DEDUCED, log 11). -/
def takeFader (s : State) (p : SurfaceId) (m : SeatMessage) (fader : Nat) (effect : State → SeatId → ControlId → State) :
    State :=
  let s1 := s.popSurface p
  match s1.mappedSeat p m.seat with
  | none => s1.refuseTake p m .notMapped none
  | some i =>
    match mapFader (s1.seatOf i).bankBase fader with
    | .badFader => s1.refuseTake p m .badValue none
    | .noControl n => s1.refuseTake p m .noControl (some (byteOf n))
    | .control c => effect s1 i c

/-- Whether a seat is the holder of a control (R49, R50). -/
def holds (s : State) (i : SeatId) (c : ControlId) : Bool :=
  match s.touchOf c with
  | some r => r.holder == i
  | none => false

/-- Changes the held-touches count of a seat (R42). -/
def countHeld (s : State) (i : SeatId) (f : Nat → Nat) : State :=
  s.setSeat i { s.seatOf i with heldTouches := f (s.seatOf i).heldTouches }

/-- TOUCH on an untouched control (R45). -/
def grantTouch (s : State) (i : SeatId) (c : ControlId) : State :=
  (s.setTouch c (some { holder := i, lastMove := s.tracker.currentFrame, reference := s.liveOf c })).countHeld i (· + 1)

/-- The takeover of a control (R47): counts, holder, and TAKEN to the old holder. -/
def takeOver (s : State) (i : SeatId) (c : ControlId) (r : Touch) : State :=
  (((s.setTouch c (some { r with holder := i, lastMove := s.tracker.currentFrame })).countHeld r.holder (· - 1)).countHeld i
    (· + 1)).postNotice r.holder c (.taken i)

/-- TOUCH by a mapped seat on a control (R45 to R47). -/
def touchControl (p : SurfaceId) (m : SeatMessage) (s : State) (i : SeatId) (c : ControlId) : State :=
  match s.touchOf c with
  | none => (s.grantTouch i c).postReply p m.seat (.grant c)
  | some r =>
    if r.holder = i then
      (s.setTouch c (some { r with lastMove := s.tracker.currentFrame })).postReply p m.seat (.grant c)
    else if (s.seatOf r.holder).rank < (s.seatOf i).rank then
      (s.takeOver i c r).postReply p m.seat (.grant c)
    else s.postReply p m.seat (.lost c r.holder)

/-- MOVE by a mapped seat on a control (R49). -/
def moveControl (p : SurfaceId) (m : SeatMessage) (level : Int) (s : State) (i : SeatId) (c : ControlId) : State :=
  match s.touchOf c with
  | some r =>
    if r.holder = i then
      (s.setLive c (clampLevel level)).setTouch c (some { r with lastMove := s.tracker.currentFrame })
    else s.refuseTake p m .notHolder (some (controlByte c))
  | none => s.refuseTake p m .notHolder (some (controlByte c))

/-- RELEASE by a mapped seat on a control (R50). -/
def releaseControl (p : SurfaceId) (m : SeatMessage) (s : State) (i : SeatId) (c : ControlId) : State :=
  if s.holds i c then (s.removeTouch c).postReply p m.seat (.released c)
  else s.refuseTake p m .notHolder (some (controlByte c))

/-- BANK (R51). -/
def takeBank (s : State) (p : SurfaceId) (m : SeatMessage) (base : Nat) : State :=
  let s1 := s.popSurface p
  match s1.mappedSeat p m.seat with
  | none => s1.refuseTake p m .notMapped none
  | some i =>
    if 0 < (s1.seatOf i).heldTouches then s1.refuseTake p m .touchHeld none
    else if 207 < base then s1.refuseTake p m .noControl none
    else (s1.setSeat i { s1.seatOf i with bankBase := base }).adjustVisibility s1 p

/-- What a STATE reply reports of a control (R53). -/
def stateReport (s : State) (c : ControlId) : ControlState where
  control := c
  mode := (s.configOf c).mode
  presented := (s.recordOf c).presented
  holder := (s.touchOf c).map Touch.holder
  segmentOpen := (s.segmentOf c).isSome
  cursor := (s.cursorOf c).state

/-- Whether a control is held by a seat other than one (R52). -/
def heldByOther (s : State) (i : SeatId) (c : ControlId) : Bool :=
  match s.touchOf c with
  | some r => r.holder != i
  | none => false

/-- MODE by a mapped seat on a control (R52). -/
def modeControl (p : SurfaceId) (m : SeatMessage) (code : Byte) (s : State) (i : SeatId) (c : ControlId) : State :=
  match modeOfCode code with
  | none => s.refuseTake p m .badValue (some (controlByte c))
  | some k =>
    if s.heldByOther i c then s.refuseTake p m .touchHeld (some (controlByte c))
    else
      let s1 := s.setConfig c { s.configOf c with mode := k }
      s1.postReply p m.seat (.state (s1.stateReport c))

/-- QUERY by a mapped seat on a control (R53). -/
def queryControl (p : SurfaceId) (m : SeatMessage) (s : State) (_ : SeatId) (c : ControlId) : State :=
  s.postReply p m.seat (.state (s.stateReport c))

end State

/-- TOUCH (R45 to R48). A takeover's TAKEN may be sent at once on the old holder's port. -/
def execTouch (p : SurfaceId) (s : State) : Host.Outcome State Fault Refusal :=
  match s.headMessage p with
  | some { seat := n, body := .touch f } =>
    let m : SeatMessage := { seat := n, body := .touch f }
    .next (s.takeFader p m f (State.touchControl p m)).transmitAll
  | _ => .next s

/-- MOVE (R49). -/
def execMove (p : SurfaceId) (s : State) : Host.Outcome State Fault Refusal :=
  match s.headMessage p with
  | some { seat := n, body := .move f level } =>
    let m : SeatMessage := { seat := n, body := .move f level }
    .next ((s.takeFader p m f (State.moveControl p m level)).transmitAt p)
  | _ => .next s

/-- RELEASE (R50). -/
def execRelease (p : SurfaceId) (s : State) : Host.Outcome State Fault Refusal :=
  match s.headMessage p with
  | some { seat := n, body := .release f } =>
    let m : SeatMessage := { seat := n, body := .release f }
    .next ((s.takeFader p m f (State.releaseControl p m)).transmitAt p)
  | _ => .next s

/-- BANK (R51). -/
def execBank (p : SurfaceId) (s : State) : Host.Outcome State Fault Refusal :=
  match s.headMessage p with
  | some { seat := n, body := .bank base } => .next ((s.takeBank p { seat := n, body := .bank base } base).transmitAt p)
  | _ => .next s

/-- MODE (R52). -/
def execMode (p : SurfaceId) (s : State) : Host.Outcome State Fault Refusal :=
  match s.headMessage p with
  | some { seat := n, body := .mode f code } =>
    let m : SeatMessage := { seat := n, body := .mode f code }
    .next ((s.takeFader p m f (State.modeControl p m code)).transmitAt p)
  | _ => .next s

/-- QUERY (R53). -/
def execQuery (p : SurfaceId) (s : State) : Host.Outcome State Fault Refusal :=
  match s.headMessage p with
  | some { seat := n, body := .query f } =>
    let m : SeatMessage := { seat := n, body := .query f }
    .next ((s.takeFader p m f (State.queryControl p m)).transmitAt p)
  | _ => .next s

/-- HELLO (R163): the port refills its follow set. -/
def execHello (p : SurfaceId) (s : State) : Host.Outcome State Fault Refusal :=
  match s.headMessage p with
  | some { seat := _, body := .hello } => .next (((s.popSurface p).fillFollow p).transmitAt p)
  | _ => .next s

end Sys2Proof.Machine
end

