-- ==== Sys2Proof/Machine/StoreSteps.lean ====
section
/-! DEFINITION. The steps of the store and of the Cursor Unit that no memory access ends: walk and splice starts, the
replacement step, the event of CLEAR LIST, the slot of a waiting LIST RECORD, and a list read's request (R114, R122, R124,
R134, R183, R187). -/

namespace Sys2Proof.Machine

namespace State

/-- The control whose walk may start: the lowest-numbered of the relocate set, when no walk is in flight, no dropped walk
read is still to complete, and no fetch of the control is in flight (R134, R136, R137). -/
def walkDue (s : State) : Option ControlId :=
  match s.cursors.walk, s.walkReadOutstanding, s.lowestRelocating with
  | none, false, some c => if s.fetchInFlight c then none else some c
  | _, _, _ => none

/-- The start of a walk, targeting the current frame (R135). A list that is empty leaves nothing to walk (R133). -/
def startWalk (s : State) (c : ControlId) : State :=
  if s.listEmpty c then s.relocateOne c
  else
    ((s.setCursor c { s.cursorOf c with target := some s.tracker.currentFrame }).setWalk
      (some { control := c, candidate := none })).postRequest (.walkRead (s.listOf c).head true)

/-- The segment whose splice may start (R114). -/
def spliceDue (s : State) : Option Segment :=
  match s.store.spliceQueue with
  | e :: _ => if s.spliceMayStart e then some e.segment else none
  | [] => none

/-- The load whose replacement step may take place (R122). -/
def replacementDue (s : State) : Option Load :=
  match s.store.load with
  | some l => if s.replacementReady l then some l else none
  | none => none

/-- The waiting LIST RECORD takes a slot that no consumer before it takes (R107, R121). -/
def serveLoadRecord (s : State) : State :=
  match s.editor.waitingRecord, s.store.load, s.takeSlot with
  | some r, some l, some (slot, s1) =>
    if 1 ≤ s.slotsForLoad then
      (s1.linkLoadRecord l slot r).setEditor { (s1.linkLoadRecord l slot r).editor with waitingRecord := none }
    else s
  | _, _, _ => s

/-- The control of the CLEAR LIST whose event may take place (R124, R188). -/
def clearDue (s : State) : Option ControlId :=
  match s.editor.clear with
  | some c => if s.cursorBusy c then none else some c
  | none => none

/-- The list read that may request its next record (R114, R187). -/
def readDue (s : State) : Option ListRead :=
  match s.editor.read with
  | some r =>
    if r.atPort = false ∧ s.listReadOutstanding = false ∧ 1 ≤ s.editor.room ∧ s.spliceRunning r.control = false then some r
    else none
  | none => none

/-- The request of a list read's next record: a place is reserved and the read is posted (R187). An empty list ends the
stream at once. -/
def requestListRead (s : State) (r : ListRead) : State :=
  match r.next with
  | some slot => (((s.reservePlace .record).setRead (some { r with atPort := true })).postRequest (.listRead slot true))
  | none =>
    if s.listEmpty r.control then s.endRead r
    else
      ((s.reservePlace .record).setRead (some { r with atPort := true })).postRequest
        (.listRead (s.listOf r.control).head true)

end State

/-- WALK_START (R134). -/
def execWalkStart (s : State) : Host.Outcome State Fault Refusal :=
  match s.walkDue with
  | some c => .next (s.startWalk c)
  | none => .next s

/-- SPLICE_START (R114). -/
def execSpliceStart (s : State) : Host.Outcome State Fault Refusal :=
  match s.spliceDue with
  | some g => .next (s.startSplice g)
  | none => .next s

/-- LOAD_REPLACEMENT (R122, R184): DONE for LIST END goes into the load's reserved place. -/
def execLoadReplacement (s : State) : Host.Outcome State Fault Refusal :=
  match s.replacementDue with
  | some l => .next ((s.replaceList l).postReserved .load (.done kindListEnd)).transmitEditor
  | none => .next s

/-- LOAD_RECORD_SLOT (R183). -/
def execLoadRecordSlot (s : State) : Host.Outcome State Fault Refusal :=
  .next (s.serveLoadRecord.settlePool s).transmitAll

/-- CLEAR_LIST_EVENT (R124, R188): DONE goes into the reserved place and the stall ends. -/
def execClearListEvent (s : State) : Host.Outcome State Fault Refusal :=
  match s.clearDue with
  | some c =>
    .next (((s.clearStore c).setEditor { (s.clearStore c).editor with clear := none }).postReserved .clear
      (.done kindClearList)).transmitEditor
  | none => .next s

/-- LIST_READ_REQUEST (R187). -/
def execListReadRequest (s : State) : Host.Outcome State Fault Refusal :=
  match s.readDue with
  | some r => .next (s.requestListRead r).transmitEditor
  | none => .next s

end Sys2Proof.Machine
end

