-- ==== Sys2Proof/Machine/SurfaceSteps.lean ====
section
/-! DEFINITION. The link of a surface port: reception, silence, the far hold lines, and the end of a transmission
(R154 to R162, R169 to R171, R195). -/

namespace Sys2Proof.Machine

/-- The port with one more message in its inbound queue; the hold out is raised at 24 (R156, R162). -/
def SurfacePort.accept (x : SurfacePort) (m : SeatMessage) : SurfacePort :=
  { x with inbound := x.inbound ++ [m], holdOut := x.holdOut || decide (24 ≤ x.inbound.length + 1) }

namespace State

/-- A refusal at reception; without a place in the reply queue it is dropped (R156). -/
def refuseReception (s : State) (p : SurfaceId) (f : LinkFrame) (reason : RefusalReason) : State :=
  if (s.surfaceOf p).replies.length < Config.replyCapacity then
    s.postReply p f.seat (.refused reason f.kind none)
  else s

/-- The examination of a valid frame by an UP port (R156). -/
def examineSurface (s : State) (p : SurfaceId) (f : LinkFrame) : State :=
  if f.kind = kindIdle then s
  else if (s.mappedSeat p f.seat).isNone then s.refuseReception p f .notMapped
  else match seatBody f.kind f.payload with
    | none => s.refuseReception p f .badValue
    | some body =>
      if (s.surfaceOf p).inbound.length < Config.inboundCapacity then
        s.setSurface p ((s.surfaceOf p).accept { seat := f.seat, body := body })
      else s.refuseReception p f .full

/-- A valid frame speaks for the far end: it makes a DOWN port UP, and restarts the silence timer (R155, R157). -/
def surfacePresent (s : State) (p : SurfaceId) : State :=
  if (s.surfaceOf p).link = .up then
    s.setSurface p { s.surfaceOf p with silenceTimer := some (s.now + Config.silenceUnits) }
  else s.surfaceUp p

/-- The data bytes of a frame received at a surface port; one that fails a link check is discarded (R154). -/
def surfaceFrame (s : State) (p : SurfaceId) (bs : List Byte) : State :=
  match parseFrame surfaceLength bs with
  | some f => (s.surfacePresent p).examineSurface p f
  | none => s

/-- Replaces the frame being received at a surface port (R195). -/
def setReceiving (s : State) (p : SurfaceId) (x : Option (List Byte)) : State :=
  s.setSurface p { s.surfaceOf p with receiving := x }

/-- One symbol of the line coding at a surface port (R195). -/
def surfaceSymbol (p : SurfaceId) (s : State) (y : LineSymbol) : State :=
  match y, (s.surfaceOf p).receiving with
  | .startOfFrame, _ => s.setReceiving p (some [])
  | .data b, some bs => s.setReceiving p (some (bs ++ [b]))
  | .data _, none => s
  | .endOfFrame, some bs => (s.setReceiving p none).surfaceFrame p bs
  | .endOfFrame, none => s

/-- The silence of a surface link: the port goes DOWN and LINK_DOWN[p] is set (R158, R160). -/
def surfaceSilent (s : State) (p : SurfaceId) (expiry : Nat) : State :=
  (State.surfaceDown { s with now := max s.now expiry } p).raiseLinkDown p

end State

/-- SURFACE_FRAME_RECEIVED (R154 to R156, R195). -/
def execSurfaceFrameReceived (p : SurfaceId) (symbols : List LineSymbol) (s : State) : Host.Outcome State Fault Refusal :=
  .next ((symbols.foldl (State.surfaceSymbol p) s).transmitAt p)

/-- SILENCE_EXPIRY (R158): at its scheduled time, or later when that time has passed (log 2). -/
def execSilenceExpiry (p : SurfaceId) (s : State) : Host.Outcome State Fault Refusal :=
  match (s.surfaceOf p).silenceTimer with
  | some expiry => .next (s.surfaceSilent p expiry).transmitEditor
  | none => .next s

/-- FAR_HOLD_CHANGE (R170, R179): when the hold is dropped the arbiter chooses. -/
def execFarHoldChange (port : PortId) (raised : Bool) (s : State) : Host.Outcome State Fault Refusal :=
  match port with
  | .surface p => .next ((s.setSurface p { s.surfaceOf p with farHold := raised }).transmitAt p)
  | .editor => .next (s.setEditor { s.editor with farHold := raised }).transmitEditor

/-- SURFACE_FRAME_SENT (R169, R171): the entry leaves its collection and the arbiter chooses again. -/
def execSurfaceFrameSent (p : SurfaceId) (s : State) : Host.Outcome State Fault Refusal :=
  match (s.surfaceOf p).sending with
  | some t => .next ((s.setSurface p ((s.surfaceOf p).sent t)).transmitAt p)
  | none => .next s

end Sys2Proof.Machine
end

