-- ==== Sys2Proof/Machine/Transport.lean ====
section
/-! DEFINITION. The reset input, frame marks and the frame timer (R1, R23 to R33, R38). -/

namespace Sys2Proof.Machine

/-- The timer period P (R22). -/
def Tracker.period (x : Tracker) : Nat := Config.unitsPerSecond / x.rate

/-- 1.5 P, the time a mark gives its successor (R27). -/
def Tracker.markMargin (x : Tracker) : Nat := 3 * Config.unitsPerSecond / (2 * x.rate)

/-- The run count after one more consecutive mark (R21). -/
def Tracker.runOn (x : Tracker) : Nat := min 255 (x.runCount + 1)

/-- Whether a mark's frame is consecutive (R25, R26, R31). -/
def Tracker.consecutive (x : Tracker) (f : Frame) : Bool :=
  decide (x.currentFrame < Config.maxFrame) && f == x.currentFrame + 1

namespace State

/-- Replaces the tracker. -/
def setTracker (s : State) (x : Tracker) : State := { s with tracker := x }

/-! ## Reset -/

/-- Power-on reset: every item at its reset value. Kept are what the reset input does not reach: the commands still to
happen, the elapsed time and the free values drawn (the model's own fields, log 5), record memory, for which the manual
gives no reset value (R102, log 5), and the far hold lines, which stand as they are (R153, R175). A frame partly received
and a frame being sent are dropped, a DESIGN CHOICE: the manual gives neither a reset value (log 25). -/
def powerOnReset (s : State) : State :=
  { State.reset with
    pending := s.pending
    now := s.now
    freeDraws := s.freeDraws
    memory := s.memory
    tracker := { Tracker.reset with frameTimer := s.now + Tracker.period Tracker.reset }
    surface := tbuild (fun p => { SurfacePort.reset with farHold := (s.surfaceOf p).farHold })
    editor := { EditorPort.reset with farHold := s.editor.farHold } }

/-! ## Marks -/

/-- Posts the transport notices when a condition holds (R38). -/
def postTransportWhen (s : State) (b : Bool) : State := if b then s.postTransport else s

/-- A mark with motion flag STOPPED (R24). -/
def takeStoppedMark (s : State) (f : Frame) : State :=
  let x := s.tracker
  let s1 := s.setTracker { x with
    transport := .stopped
    runCount := 0
    freewheelCount := 0
    currentFrame := f
    frameTimer := if x.transport = .stopped then x.frameTimer else s.now + x.period }
  let s2 := if x.transport.rolling then s1.closeAll else s1
  let s3 := if f = x.currentFrame then s2 else s2.relocateAll
  s3.postTransportWhen (x.transport != .stopped || f != x.currentFrame)

/-- The acquisition into PLAY sets the close-all bar if a pass is in flight (R87). -/
def acquire (s : State) : State := s.barIfInFlight.endBarredPunchIn

/-- A mark with motion flag MOVING taken in STOPPED or CHASE (R25). -/
def takeMovingMarkParked (s : State) (f : Frame) : State :=
  let x := s.tracker
  let run := if x.consecutive f then x.runOn else 1
  let state : Transport := if x.acquireCount ≤ run then .play else .chase
  let s1 := s.setTracker { x with
    transport := state, runCount := run, currentFrame := f, frameTimer := s.now + x.markMargin }
  let s2 := if x.consecutive f || f == x.currentFrame then s1 else s1.relocateAll
  let s3 := if state = .play then s2.acquire else s2
  let s4 := if x.transport = .stopped then s3.leaveStopped else s3
  (s4.frameEvent f).postTransportWhen (x.transport != state)

/-- A mark with motion flag MOVING taken in PLAY or FREEWHEEL (R26). -/
def takeMovingMarkRolling (s : State) (f : Frame) : State :=
  let x := s.tracker
  if x.consecutive f then
    let s1 := s.setTracker { x with
      transport := .play, runCount := x.runOn, freewheelCount := 0, currentFrame := f
      frameTimer := s.now + x.markMargin }
    (s1.frameEvent f).postTransportWhen (x.transport != .play)
  else
    let s1 := s.setTracker { x with
      transport := .chase, runCount := 1, freewheelCount := 0, currentFrame := f
      frameTimer := s.now + x.markMargin }
    ((s1.closeAll.relocateAll).frameEvent f).postTransport

/-- A mark that passed the line check (R23). -/
def takeMark (s : State) (f : Frame) : Motion → State
  | .stopped => s.takeStoppedMark f
  | .moving => if s.tracker.transport.rolling then s.takeMovingMarkRolling f else s.takeMovingMarkParked f

/-! ## Expiries -/

/-- A stop of the transport by the timer, from PLAY or FREEWHEEL, at the current frame (R29, R30, R31). -/
def stopByTimer (s : State) (lockLost : Bool) : State :=
  let s1 := s.setTracker { s.tracker with transport := .stopped, runCount := 0, freewheelCount := 0 }
  let s2 := if lockLost then s1.raiseLockLost else s1
  (s2.closeAll.frameEvent s.tracker.currentFrame).postTransport

/-- An advance of the current frame by the timer (R29, R30). -/
def freewheelTo (s : State) (count : Nat) : State :=
  let x := s.tracker
  let s1 := s.setTracker { x with
    transport := .freewheel, freewheelCount := count, currentFrame := x.currentFrame + 1 }
  (s1.frameEvent (x.currentFrame + 1)).postTransportWhen (x.transport != .freewheel)

/-- An expiry by the transport state (R28 to R31). -/
def takeExpiry (s : State) : State :=
  let x := s.tracker
  match x.transport with
  | .stopped => s.frameEvent x.currentFrame
  | .chase =>
    ((s.setTracker { x with transport := .stopped, runCount := 0, freewheelCount := 0 }).frameEvent
      x.currentFrame).postTransport
  | .play =>
    if Config.maxFrame ≤ x.currentFrame then s.stopByTimer false
    else if x.freewheelLimit = 0 then s.stopByTimer true
    else s.freewheelTo 1
  | .freewheel =>
    if x.freewheelLimit < x.freewheelCount + 1 ∨ Config.maxFrame ≤ x.currentFrame then s.stopByTimer true
    else s.freewheelTo (x.freewheelCount + 1)

/-- The expiry happens at its scheduled time, or later when that time has passed (log 2); the next one is P later (R27). -/
def atExpiry (s : State) : State :=
  let time := max s.now s.tracker.frameTimer
  { s with now := time, tracker := { s.tracker with frameTimer := time + s.tracker.period } }

end State

/-- POWER_ON_RESET (R1). -/
def execPowerOnReset (s : State) : Host.Outcome State Fault Refusal := .next s.powerOnReset

/-- FRAME_MARK (R23): a mark that fails the line check is discarded. -/
def execFrameMark (lineOk : Bool) (frame : BitVec 24) (motion : Motion) (s : State) : Host.Outcome State Fault Refusal :=
  .next (if lineOk then ((s.takeMark frame.toNat motion).settlePool s).transmitAll else s)

/-- FRAME_TIMER_EXPIRY (R27). -/
def execFrameTimerExpiry (s : State) : Host.Outcome State Fault Refusal :=
  .next (s.atExpiry.takeExpiry.settlePool s).transmitAll

end Sys2Proof.Machine
end

