-- ==== Sys2Proof/Machine/Dispatch.lean ====
section
/-! DEFINITION. The effect of every command on everything but the queue: one arm per row of the opcode table. -/

namespace Sys2Proof.Machine

/-- The effect of a command. -/
def exec (i : Instr) (s : State) : Host.Outcome State Fault Refusal :=
  match i with
  | .powerOnReset => Sys2Proof.Machine.execPowerOnReset s
  | .frameMark lineOk frame motion => Sys2Proof.Machine.execFrameMark lineOk frame motion s
  | .frameTimerExpiry => Sys2Proof.Machine.execFrameTimerExpiry s
  | .controlEvaluation => Sys2Proof.Machine.execControlEvaluation s
  | .evaluationResume => Sys2Proof.Machine.execEvaluationResume s
  | .deferredClosingWork => Sys2Proof.Machine.execDeferredClosingWork s
  | .memoryGrant => Sys2Proof.Machine.execMemoryGrant s
  | .appendWriteComplete => Sys2Proof.Machine.execAppendWriteComplete s
  | .closingWriteComplete => Sys2Proof.Machine.execClosingWriteComplete s
  | .chainReturnWriteComplete => Sys2Proof.Machine.execChainReturnWriteComplete s
  | .refillReadComplete => Sys2Proof.Machine.execRefillReadComplete s
  | .fetchComplete => Sys2Proof.Machine.execFetchComplete s
  | .walkStart => Sys2Proof.Machine.execWalkStart s
  | .walkReadComplete => Sys2Proof.Machine.execWalkReadComplete s
  | .spliceStart => Sys2Proof.Machine.execSpliceStart s
  | .spliceWalkReadComplete => Sys2Proof.Machine.execSpliceWalkReadComplete s
  | .spliceWriteComplete => Sys2Proof.Machine.execSpliceWriteComplete s
  | .formatWriteComplete => Sys2Proof.Machine.execFormatWriteComplete s
  | .loadWriteComplete => Sys2Proof.Machine.execLoadWriteComplete s
  | .loadReplacement => Sys2Proof.Machine.execLoadReplacement s
  | .loadRecordSlot => Sys2Proof.Machine.execLoadRecordSlot s
  | .clearListEvent => Sys2Proof.Machine.execClearListEvent s
  | .listReadRequest => Sys2Proof.Machine.execListReadRequest s
  | .listReadComplete => Sys2Proof.Machine.execListReadComplete s
  | .blockStart => Sys2Proof.Machine.execBlockStart s
  | .blockEnd => Sys2Proof.Machine.execBlockEnd s
  | .engineRead index => Sys2Proof.Machine.execEngineRead index s
  | .surfaceFrameReceived p symbols => Sys2Proof.Machine.execSurfaceFrameReceived p symbols s
  | .silenceExpiry p => Sys2Proof.Machine.execSilenceExpiry p s
  | .farHoldChange port raised => Sys2Proof.Machine.execFarHoldChange port raised s
  | .surfaceFrameSent p => Sys2Proof.Machine.execSurfaceFrameSent p s
  | .touch p => Sys2Proof.Machine.execTouch p s
  | .move p => Sys2Proof.Machine.execMove p s
  | .release p => Sys2Proof.Machine.execRelease p s
  | .bank p => Sys2Proof.Machine.execBank p s
  | .mode p => Sys2Proof.Machine.execMode p s
  | .query p => Sys2Proof.Machine.execQuery p s
  | .hello p => Sys2Proof.Machine.execHello p s
  | .editorFrameReceived symbols => Sys2Proof.Machine.execEditorFrameReceived symbols s
  | .editorSilenceExpiry => Sys2Proof.Machine.execEditorSilenceExpiry s
  | .editorFrameSent => Sys2Proof.Machine.execEditorFrameSent s
  | .setControl => Sys2Proof.Machine.execSetControl s
  | .setStem => Sys2Proof.Machine.execSetStem s
  | .setSeat => Sys2Proof.Machine.execSetSeat s
  | .setHub => Sys2Proof.Machine.execSetHub s
  | .listBegin => Sys2Proof.Machine.execListBegin s
  | .listRecord => Sys2Proof.Machine.execListRecord s
  | .listEnd => Sys2Proof.Machine.execListEnd s
  | .readList => Sys2Proof.Machine.execReadList s
  | .clearList => Sys2Proof.Machine.execClearList s
  | .status => Sys2Proof.Machine.execStatus s
  | .clearFlags => Sys2Proof.Machine.execClearFlags s
  | .mixReset => Sys2Proof.Machine.execMixReset s
  | .linkReset => Sys2Proof.Machine.execLinkReset s

end Sys2Proof.Machine
end

