-- ==== Sys2Proof/Safety.lean ====
section
/-! DEFINITION. What stays true of the part: the invariants its statements are about, and the words in which a statement
says what a command leaves unchanged. -/

namespace Sys2Proof.Safety

open Sys2Proof.Machine

/-! ## Invariants -/

/-- Record memory is in its canonical form. -/
def MemoryCanonical (s : State) : Prop := Memory.wf s.memory = true

/-- The bank roles are legal: building, published and reading are distinct, the newest completed table is published or
latched, and a bank is building just while a pass is in flight, which is when an evaluation can be under way (R143). -/
def RolesLegal (s : State) : Prop :=
  (s.engine.published.isSome ∨ s.engine.reading.isSome) ∧
  (∀ b, s.engine.published = some b → s.engine.reading ≠ some b) ∧
  (∀ b, s.engine.building = some b → s.engine.published ≠ some b ∧ s.engine.reading ≠ some b) ∧
  (s.engine.building.isSome ↔ s.pass.run.inFlight = true) ∧
  (s.pass.run.underWay.isSome → s.pass.run.inFlight = true)

/-- The tracker's numbers lie in the ranges of R21 and R22, and no pending frame is held while no pass is in flight
(R35). -/
def TrackerLegal (s : State) : Prop :=
  s.tracker.currentFrame ≤ Config.maxFrame ∧
  s.tracker.runCount ≤ 255 ∧
  s.tracker.freewheelCount ≤ 31 ∧
  (s.tracker.rate = 24 ∨ s.tracker.rate = 25 ∨ s.tracker.rate = 30) ∧
  (1 ≤ s.tracker.acquireCount ∧ s.tracker.acquireCount ≤ 8) ∧
  s.tracker.freewheelLimit ≤ 30 ∧
  (s.tracker.pendingFrame.isSome → s.pass.run.inFlight = true)

/-- How many touch records name a seat as holder. -/
def recordsHeldBy (s : State) (i : SeatId) : Nat :=
  (List.finRange 208).countP (fun c => match s.touchOf c with
    | some r => r.holder == i
    | none => false)

/-- Each seat's held-touches count equals the number of records that name it as holder (R42). -/
def HeldCountsExact (s : State) : Prop := ∀ i : SeatId, (s.seatOf i).heldTouches = recordsHeldBy s i

/-- A surface port that is DOWN holds nothing: no timer, empty queues and sets, an empty last-sent table, the hold dropped,
and no entry waiting on a frame that is still being finished (R158, R169). -/
def downPortEmpty (x : SurfacePort) : Prop :=
  x.link = .down →
    x.silenceTimer = none ∧ x.inbound = [] ∧ x.holdOut = false ∧ x.replies = [] ∧ x.transportNotice = none ∧
    x.followPosition = none ∧
    (∀ c, tget x.notices c = none ∧ tget x.follow c = none ∧ tget x.lastSent c = none) ∧
    (∀ t, x.sending = some t → t.source = .gone)

/-- Every DOWN surface port is empty. -/
def DownPortsEmpty (s : State) : Prop := ∀ p : SurfaceId, downPortEmpty (s.surfaceOf p)

/-- The queues of a surface port are within their capacities (R153). -/
def portWithinCapacity (x : SurfacePort) : Prop :=
  x.inbound.length ≤ Config.inboundCapacity ∧ x.replies.length ≤ Config.replyCapacity

/-- The queues of the surface ports, the editor port's inbound queue, the free slot queue and the append queue are within
their capacities (the editor port's reply queue and the splice queue: ReplyPlacesHeld and SegmentsPlaced); a refill is in
flight only while the free slot queue has room for its slot, and its request follows from the store's own fields (R84, R105,
R108, R153, R175). -/
def QueuesBounded (s : State) : Prop :=
  (∀ p : SurfaceId, portWithinCapacity (s.surfaceOf p)) ∧
  s.editor.inbound.length ≤ Config.inboundCapacity ∧
  s.store.freeQueue.length ≤ Config.freeQueueCapacity ∧
  (s.store.refill = .none ∨ s.store.freeQueue.length < Config.freeQueueCapacity) ∧
  s.appendQueue.length ≤ Config.appendCapacity ∧
  (∀ r ∈ s.port.requests, r.priority ≠ 3)

/-- An open segment is one of the control it stands at, whose splice is not queued; the splice queue holds at most one
segment of a control, so at most 208 (R99, R112). -/
def SegmentsPlaced (s : State) : Prop :=
  (∀ c g, s.segmentOf c = some g → g.control = c ∧ s.spliceQueued c = false) ∧
  (s.store.spliceQueue.map (fun e => e.segment.control)).Nodup ∧ s.store.spliceQueue.length ≤ 208

/-- The reply queue of the editor port holds at most 16 places, among them just one reserved place for each operation in
flight: the load, the clear, the list read, and the record that read has requested, whose read is at the memory port
(R175, R178, R187). -/
def ReplyPlacesHeld (s : State) : Prop :=
  let places (o : PlaceOwner) : Nat := s.editor.replies.count (.reserved o)
  s.editor.replies.length ≤ Config.replyCapacity ∧
  places .load = (if s.store.load.isSome then 1 else 0) ∧ places .clear = (if s.editor.clear.isSome then 1 else 0) ∧
  places .read = (if s.editor.read.isSome then 1 else 0) ∧
  places .record = (if s.editor.read.any (fun r => r.atPort) then 1 else 0) ∧
  s.outstanding.countP (fun r => match r with
    | .listRead _ live => live
    | _ => false) = places .record

/-- No port that could send stands idle: where a port is UP, its link free and its far hold dropped, nothing waits to be sent
(R169, R179). -/
def ArbitersDone (s : State) : Prop :=
  (∀ p : SurfaceId,
    let x := s.surfaceOf p
    x.link = .up → x.sending = none → x.farHold = false →
      x.replies = [] ∧ (∀ c, tget x.notices c = none) ∧ x.transportNotice = none ∧ ∀ c, tget x.follow c = none) ∧
  (s.editor.link = .up → s.editor.sending = none → s.editor.farHold = false →
    (∀ r ∈ s.editor.replies, ∃ o, r = .reserved o) ∧ s.editor.flagNotice = none ∧ s.editor.transportNotice = none)

/-! ## Frames -/

/-- Every byte of record memory outside a slot reads as before. -/
def KeepsMemoryBut (s t : State) (slot : Slot) : Prop :=
  ∀ a, (a < Memory.slotAddress slot ∨ Memory.slotAddress slot + 16 ≤ a) → Memory.read t.memory a = Memory.read s.memory a

/-! ## The words of the statements -/

/-- A surface port hands over a message of seat number n: the port is UP, its reply queue has room for one reply, and the
message is at the head of its inbound queue (R44, R161). -/
def Handed (s : State) (p : SurfaceId) (n : Nat) (b : SeatBody) : Prop :=
  (s.surfaceOf p).link = .up ∧ (s.surfaceOf p).replies.length < 16 ∧
  (s.surfaceOf p).inbound.head? = some { seat := n, body := b }

/-- Seat number n is seat i, which is mapped to port p, and its fader f addresses control c (R39, R40). -/
def Addresses (s : State) (p : SurfaceId) (n : Nat) (i : SeatId) (f : Nat) (c : ControlId) : Prop :=
  n = i.val + 1 ∧ (s.seatOf i).link = some p ∧ f ≤ 31 ∧ c.val = (s.seatOf i).bankBase + f

/-- Seat number n names no seat that is mapped to port p (R44). -/
def NotMappedAt (s : State) (p : SurfaceId) (n : Nat) : Prop := ∀ i : SeatId, n = i.val + 1 → (s.seatOf i).link ≠ some p

/-- A surface port after a take: the message has left the queue, the hold out is dropped at 8 messages or fewer, and the
replies given are posted (R44, R161, R162). -/
def tookMessage (x : SurfacePort) (posted : List SeatReply) : SurfacePort :=
  { x with
    inbound := x.inbound.tail
    holdOut := x.holdOut && decide (8 < x.inbound.tail.length)
    replies := x.replies ++ posted }

/-- The editor port hands over a command: room for a reply, no stall, and the command at the head of its inbound queue
(R178). -/
def HandedToPart (s : State) (c : EditorCommand) : Prop :=
  s.editor.replies.length < 16 ∧ s.editor.waitingRecord = none ∧ s.editor.clear = none ∧ s.editor.inbound.head? = some c

/-- The editor port after a take: the command has left the queue, the hold out is dropped at 8 commands or fewer, and the
places given stand at the tail of the reply queue (R176, R178). -/
def tookCommand (x : EditorPort) (places : List ReplyPlace) : EditorPort :=
  { x with
    inbound := x.inbound.tail
    holdOut := x.holdOut && decide (8 < x.inbound.tail.length)
    replies := x.replies ++ places }

/-- The part goes on to u, in which some transmit arbiters may have begun a frame: each port is as u has it, or as its
arbiter leaves it there. So a frame under way in u stays, and nothing but the arbiter's own choice begins (R169, R179). What
`transmit` and `transmitEditor` do is stated in ArbiterChooses; that no port is left idle, in StepKeepsLinksBusy. -/
def GoesOnTo (o : Host.Outcome State Fault Refusal) (u : State) : Prop :=
  ∃ t : State, o = .next t ∧ t = { u with surface := t.surface, editor := t.editor } ∧
    (∀ p : SurfaceId, t.surfaceOf p = u.surfaceOf p ∨ t.surfaceOf p = (u.surfaceOf p).transmit) ∧
    (t.editor = u.editor ∨ t.editor = u.transmitEditor.editor)

/-- The fader a seat message names, for the five messages that name one (R40). -/
def faderOf : SeatBody → Option Nat
  | .touch f => some f
  | .move f _ => some f
  | .release f => some f
  | .mode f _ => some f
  | .query f => some f
  | .hello => none
  | .bank _ => none

/-- A pass for frame t is in flight, no evaluation is under way, and control c is the next to be evaluated (R62). -/
def EvaluationDue (s : State) (c : ControlId) (t : Frame) : Prop :=
  s.pass.run.inFlight = true ∧ s.pass.run.underWay = none ∧ s.pass.run.frame = some t ∧
  ((s.pass.run.position = none ∧ c.val = 0) ∨ ∃ d : ControlId, s.pass.run.position = some d ∧ c.val = d.val + 1)

/-- What the evaluation of a control has read after its first step (R64). -/
def inputsAt (s : State) (c : ControlId) (t : Frame) : Inputs := (s.evaluationStep c t).inputs c t

/-- The evaluation of a control would write (R86). -/
def Writes (s : State) (c : ControlId) (t : Frame) : Prop :=
  (inputsAt s c t).touch ≠ none ∧
  ((inputsAt s c t).mode = .touch ∨ (inputsAt s c t).mode = .latch ∨ (inputsAt s c t).mode = .trim) ∧
  (s.tracker.transport = .play ∨ s.tracker.transport = .freewheel) ∧ s.writer.closeAllBar = false ∧ s.isSafe c = false

/-- The evaluation record an evaluation leaves, but for its latch and late-punch flags (R65, R71, R73, R79, R81). -/
def RecordLeft (s t : State) (c : ControlId) (f : Frame) : Prop :=
  let x := inputsAt s c f
  let y := x.choose
  (t.recordOf c).presented = y.presented ∧ (t.recordOf c).storedUsed = x.stored ∧
  (t.recordOf c).trimOffset = y.trimOffset ∧ (t.recordOf c).glide = y.glide ∧
  (t.recordOf c).effective = (if 16 ≤ c.val then
    levelSum (y.presented :: (mastersOf (s.configOf c)).map (fun m => (s.recordOf (masterControl m)).presented)) 0
    else y.presented) ∧
  (t.recordOf c).previousMode = x.mode ∧ (t.recordOf c).previousHeld = x.touch.isSome ∧
  (t.recordOf c).evaluatedFrame = some f ∧
  (∀ d, d ≠ c → t.recordOf d = s.recordOf d) ∧ t.pass.config = s.pass.config ∧ t.pass.safe = s.pass.safe

/-- n slots have been taken from the front of the free slot queue, whose rest is given: POOL_LOW rises, with the flag notice,
when the total free count crosses 4,096 downward, and a refill is requested if it may be (R94, R107, R108, R191). -/
def SlotsTaken (s t : State) (rest : List Slot) (n : Nat) : Prop :=
  t.store.freeQueue = rest ∧ t.store.memoryCount = s.store.memoryCount ∧
  t.store.refill = (if s.store.storeState = .ready ∧ rest.length < 64 ∧ 0 < s.store.memoryCount ∧ s.store.refill = .none then
    .requested else s.store.refill) ∧
  t.store.poolLow = (s.store.poolLow || (decide (4096 ≤ s.totalFree) && decide (s.totalFree < 4096 + n))) ∧
  t.editor = { s.editor with flagNotice :=
    if t.store.poolLow = true ∧ s.store.poolLow = false ∧ s.editor.link = .up then some false else s.editor.flagNotice }

/-- What an evaluation leaves beside its record: the entry of a path in the building bank, and its presented level in the
follow set of each UP port on which the control is visible, if that set lacks it; the ports are otherwise those of u (R79,
R80). -/
def ResultsLeft (s u t : State) (c : ControlId) (stem : Option StemId) (presented : Level) (first : Bool) : Prop :=
  (∀ (b : BankId) (p : Fin 192), t.entryOf b p =
    if s.engine.building = some b ∧ c.val = p.val + 16 then
      { stem := stem, coefficient := if stem = none then 0 else coefficient (t.recordOf c).effective }
    else s.entryOf b p) ∧
  t.engine = { s.engine with banks := t.engine.banks } ∧
  (∀ q : SurfaceId, t.surfaceOf q =
    if (u.surfaceOf q).link = .up ∧ s.visible q c = true ∧
        (tget (u.surfaceOf q).follow c ≠ none ∨ tget (u.surfaceOf q).lastSent c ≠ some presented ∨ first = true) then
      { u.surfaceOf q with follow := tset (u.surfaceOf q).follow c (some { level := presented, onLink := false }) }
    else u.surfaceOf q)

/-- What the evaluation of a control at a frame leaves before the pass goes on from it: the record with its latch flag, but
for the late-punch flag, the position and the results; the ports are otherwise those of u (R64, R70, R79 to R81). -/
def EvaluationLeft (s u t : State) (c : ControlId) (f : Frame) : Prop :=
  RecordLeft s t c f ∧
  (t.recordOf c).latch = ((inputsAt s c f).choose.latch ||
    (inputsAt s c f).mode == .latch && (inputsAt s c f).touch.isSome && (t.segmentOf c).isSome) ∧
  t.pass.run = { s.pass.run with position := some c } ∧
  ResultsLeft s u t c (s.configOf c).stem (inputsAt s c f).choose.presented (s.recordOf c).evaluatedFrame.isNone

/-- What an evaluation that had waited leaves before the pass goes on from it, made from the inputs it read when it began;
its late-punch flag is stated apart (R70, R77, R79 to R81). -/
def ResumptionLeft (s u t : State) (e : Evaluation) : Prop :=
  t.recordOf e.control = { s.recordOf e.control with
    effective := if 16 ≤ e.control.val then
      levelSum (e.presented :: (mastersOf e.config).map (fun m => (s.recordOf (masterControl m)).presented)) 0
      else e.presented
    latch := if e.mode = .latch ∧ e.held = true ∧ t.segmentOf e.control ≠ none then true else (s.recordOf e.control).latch
    latePunch := (t.recordOf e.control).latePunch
    previousMode := e.mode
    previousHeld := e.held
    evaluatedFrame := some e.frame } ∧
  (∀ d, d ≠ e.control → t.recordOf d = s.recordOf d) ∧
  t.pass = { s.pass with records := t.pass.records } ∧
  ResultsLeft s u t e.control e.config.stem e.presented e.firstEvaluation

/-- The state in which the evaluation of a control at a frame waits, with some work left: it holds the inputs it read, and
the record holds its choice (R76, R77; log 16). -/
def waitingState (s : State) (c : ControlId) (f : Frame) (cause : WaitCause) (todo : EvalTodo) : State :=
  let u := s.evaluationStep c f
  let x := inputsAt s c f
  let y := x.choose
  let e : Evaluation :=
    { control := c, frame := f, config := s.configOf c, mode := x.mode, held := x.touch.isSome,
      transport := s.tracker.transport, transition := x.mode != (s.recordOf c).previousMode, glideEnded := y.glideEnded,
      presented := y.presented, firstEvaluation := (s.recordOf c).evaluatedFrame.isNone, todo := todo }
  (u.setRecord c { s.recordOf c with
    presented := y.presented, storedUsed := x.stored, trimOffset := y.trimOffset, glide := y.glide, latch := y.latch
    latePunch := x.touch.isSome && (s.recordOf c).latePunch }).setRun
    { s.pass.run with position := some c, wait := some cause, underWay := some e }

/-- The state in which the open segment of a control has been closed with a given last evaluated frame; the statement
SegmentClosed says what that does (R97). -/
def closedAt (s : State) (c : ControlId) (last : Frame) : State :=
  (s.setRecord c { s.recordOf c with evaluatedFrame := some last }).closeOutside c

/-- The segment with one more record as its held tail (R90). -/
def appendedTo (g : Segment) (f : Frame) (l : Level) (slot : Slot) : Segment :=
  { g with outFrame := f, count := g.count + 1, tail := { slot := slot, frame := f, level := l }, lastLevel := l }

/-- The write of a held tail, linked to the slot of its successor (R90, R98, R100). -/
def tailWrite (g : Segment) (next : Slot) : SlotRecord :=
  { slot := g.tail.slot
    record := { frame := g.tail.frame, kind := .level, level := g.tail.level, last := false, next := next } }

/-- The refill in flight once a chain of a given length has returned: one being read no longer stands, and one is requested
if it may be (R108, R109). -/
def refillAfterReturn (x : ListStore) (length : Nat) : Refill :=
  match x.refill with
  | .reading slot _ => .reading slot false
  | .requested => .requested
  | .none =>
    if x.storeState = .ready ∧ x.freeQueue.length < 64 ∧ 0 < x.memoryCount + length then .requested else .none

/-- The store and the memory port after the abort of a load, with the port as it was before it: the load is idle; a chain it
held has returned, with one return write, that of its held tail, linked to the free list head (R109, R123). LAST clear in that
write is the model's reading (log 8). -/
def LoadAborted (s : State) (before : MemoryPort) (l : Load) (t : State) : Prop :=
  ((l.first = none ∨ l.tail = none) → t.store = { s.store with load := none } ∧ t.port = before) ∧
  (∀ f h, l.first = some f → l.tail = some h →
    t.store = { s.store with
      load := none, freeHead := f, memoryCount := s.store.memoryCount + l.received
      refill := refillAfterReturn s.store l.received } ∧
    t.port = { before with requests := before.requests ++ [.chainReturn .list
      { slot := h.slot, record := { h.record with last := false, next := s.store.freeHead } }] })

/-- The state after the list of a control has returned as one chain, if it is not empty; the statement ChainsReturn says
what a return does (R109, R122, R124). -/
def listReturned (s : State) (c : ControlId) : State :=
  if (s.listOf c).count = 0 then s
  else s.returnChain .list (s.listOf c).head (s.listOf c).tail (s.listOf c).count

/-- The memory port with every list read marked as dropped at its completion (R177, R187). -/
def readsDropped (x : MemoryPort) : MemoryPort :=
  let drop : MemRequest → MemRequest := fun r => match r with
    | .listRead slot _ => .listRead slot false
    | other => other
  { requests := x.requests.map drop, access := x.access.map drop }

/-- The memory port with every relocate walk read marked as dropped at its completion (R136). -/
def walksDropped (x : MemoryPort) : MemoryPort :=
  let drop : MemRequest → MemRequest := fun r => match r with
    | .walkRead slot _ => .walkRead slot false
    | other => other
  { requests := x.requests.map drop, access := x.access.map drop }

/-- The command that takes a seat message at a port. -/
def takeOf (p : SurfaceId) : SeatBody → Instr
  | .touch _ => .touch p
  | .move _ _ => .move p
  | .release _ => .release p
  | .mode _ _ => .mode p
  | .query _ => .query p
  | .hello => .hello p
  | .bank _ => .bank p

end Sys2Proof.Safety
end

