-- ==== Sys2Proof/Certificates/Slice0/Obligations.lean ====
section
/-! DEFINITION. The statements for the provers, one block of the manual after another. A conclusion `GoesOnTo (exec c s) u`
says that the command answers a next state, and that this state is u but for the frames that transmit arbiters have begun
there. -/

open Sys2Proof Sys2Proof.Machine Sys2Proof.Safety

/-! ## The block -/

/-- A step runs the command at the front of the queue, on the state with the queue's rest, and no command stops the part or
touches that queue. On an empty queue one unit of time passes and nothing else: the model's own choice (logs 2 and 3). -/
def Obligations.StepRunsFrontCommand : Prop :=
  ((∀ (c : Instr) (rest : List Instr) (s : State),
     s.pending = c :: rest → step s = exec c { s with pending := rest }) ∧
   (∀ s : State, s.pending = [] → step s = .next { s with now := s.now + 1 })) ∧
  (∀ (c : Instr) (s : State), ∃ t : State, exec c s = .next t ∧ t.pending = s.pending)

/-- What power-on reset leaves in the blocks: the reset values of R10, R14, R21, R39, R42, R43, R55, R60, R84, R103, R105,
R110 to R113, R120, R128, R134, R142, R143, R153, R160, R175 and R199; and every invariant stated below holds there. The
model's own: record memory lists nothing (log 4), the far hold lines are dropped (log 6), no frame is being received or sent
(log 25), the clock and the queue of commands (logs 2 and 3), the counts of free values and of indications (logs 7 and 18).
POWER_ON_RESET gives every item its reset value, with the frame timer one period from now (R1, R21, R27). What it keeps is
the model's reading (log 5): the commands still to come, the time, the free values drawn, record memory, and the far hold
lines, which stand as they are. -/
def Obligations.ResetState : Prop :=
  (let s := State.reset
   (s.tracker.transport = .stopped ∧ s.tracker.currentFrame = 0 ∧ s.tracker.runCount = 0 ∧ s.tracker.freewheelCount = 0 ∧
     s.tracker.pendingFrame = none ∧ s.tracker.lockLost = false ∧ s.tracker.passOverrun = false ∧ s.tracker.rate = 24 ∧
     s.tracker.acquireCount = 3 ∧ s.tracker.freewheelLimit = 10 ∧ s.tracker.frameTimer = s.now + 1200 / 24) ∧
   (s.arbiter.staleTimeout = 0 ∧
     ∀ i : SeatId, s.seatOf i = { link := none, rank := 0, bankBase := 0, heldTouches := 0 }) ∧
   (∀ c : ControlId, s.touchOf c = none ∧ s.liveOf c = -4608 ∧ s.segmentOf c = none ∧
     s.configOf c = { mode := .off, stem := none, groupA := none, groupB := none, glideFrames := 8 } ∧
     s.recordOf c =
       { presented := -4608, effective := -4608, storedUsed := none, trimOffset := 0, glide := none, latch := false,
         latePunch := false, previousMode := .off, previousHeld := false, evaluatedFrame := none } ∧
     s.listOf c = { head := 0, tail := 0, count := 0 } ∧
     s.cursorOf c = { state := .ready, current := none, lookahead := .endOfList, target := none }) ∧
   (∀ i : StemId, tget s.pass.safe i = false) ∧
   (s.pass.run = { inFlight := false, frame := none, position := none, wait := none, underWay := none } ∧
     s.writer.closeAllBar = false ∧ s.cursors.walk = none) ∧
   (s.store.freeHead = 0 ∧ s.store.memoryCount = 0 ∧ s.store.freeQueue = [] ∧ s.store.refill = .none ∧
     s.store.poolLow = false ∧ s.store.storeState = .formatting 0 ∧ s.store.spliceQueue = [] ∧ s.store.splice = .idle ∧
     s.store.load = none ∧ s.port = { requests := [], access := none } ∧ s.memory = []) ∧
   (s.engine.published = some 0 ∧ s.engine.reading = none ∧ s.engine.building = none ∧
     s.engine.dataOut = 0x0F000000#32 ∧ s.engine.framePublished = 0 ∧
     ∀ (b : BankId) (p : Fin 192), s.entryOf b p = { stem := none, coefficient := 0 }) ∧
   (∀ p : SurfaceId, (s.surfaceOf p).link = .down ∧ (s.surfaceOf p).linkDown = false ∧ downPortEmpty (s.surfaceOf p) ∧
     (s.surfaceOf p).farHold = false ∧ (s.surfaceOf p).receiving = none ∧ (s.surfaceOf p).sending = none) ∧
   s.editor =
     { link := .down, silenceTimer := none, inbound := [], holdOut := false, farHold := false, replies := [],
       flagNotice := none, transportNotice := none, read := none, clear := none, waitingRecord := none, receiving := none,
       sending := none } ∧
   (s.pending = [] ∧ s.now = 0 ∧ s.freeDraws = 0)) ∧
  (MemoryCanonical State.reset ∧ RolesLegal State.reset ∧ TrackerLegal State.reset ∧ QueuesBounded State.reset ∧
   HeldCountsExact State.reset ∧ DownPortsEmpty State.reset ∧ SegmentsPlaced State.reset ∧ ReplyPlacesHeld State.reset ∧
   ArbitersDone State.reset) ∧
  (∀ s : State, exec .powerOnReset s = .next { State.reset with
    pending := s.pending
    now := s.now
    freeDraws := s.freeDraws
    memory := s.memory
    tracker := { State.reset.tracker with frameTimer := s.now + 1200 / 24 }
    surface := tbuild (fun p => { State.reset.surfaceOf p with farHold := (s.surfaceOf p).farHold })
    editor := { State.reset.editor with farHold := s.editor.farHold } })

/-- What the questions that the statements ask of a state mean: the total free count (R105), visibility (R40), a SAFE path
(R14), the masters of a path (R18), a splice queued or in progress (R99, R113), the closed segments that wait for a slot
(R98), the requests not completed (R126), the append queue (R84, R91), a fetch in flight (R131), and the flag set (R194). -/
def Obligations.QuestionsAnswered : Prop :=
  ∀ (s : State) (c : ControlId) (p : SurfaceId),
    s.totalFree = s.store.freeQueue.length + s.store.memoryCount ∧
    (s.visible p c = true ↔
      ∃ i : SeatId, (s.seatOf i).link = some p ∧ (s.seatOf i).bankBase ≤ c.val ∧ c.val ≤ (s.seatOf i).bankBase + 31) ∧
    (s.isSafe c = true ↔ 16 ≤ c.val ∧ ∃ i : StemId, (s.configOf c).stem = some i ∧ tget s.pass.safe i = true) ∧
    (∀ m : MasterId, (m ∈ mastersOf (s.configOf c) ↔ (s.configOf c).groupA = some m ∨ (s.configOf c).groupB = some m) ∧
      (mastersOf (s.configOf c)).count m ≤ 1 ∧ (masterControl m).val = m.val) ∧
    (s.spliceQueued c = true ↔ ∃ e ∈ s.store.spliceQueue, e.segment.control = c) ∧
    (s.spliceRunning c = true ↔ ∃ e rest a, s.store.spliceQueue = e :: rest ∧ e.segment.control = c ∧
      (s.store.splice = .walking a ∨ s.store.splice = .writing a)) ∧
    (s.closingWaiters = 0 ↔ ∀ e ∈ s.store.spliceQueue, ∀ f, e.closing ≠ .waitingSlot f) ∧
    s.outstanding = s.port.access.toList ++ s.port.requests ∧
    s.appendQueue = s.outstanding.filter (fun r => match r with
      | .append _ _ => true
      | _ => false) ∧
    (s.fetchInFlight c = true ↔ ∃ slot, MemRequest.fetch c slot ∈ s.port.access.toList ++ s.port.requests) ∧
    (s.flagSet.getLsbD 0 = s.tracker.lockLost ∧ s.flagSet.getLsbD 1 = s.tracker.passOverrun ∧
      s.flagSet.getLsbD 2 = s.store.poolLow ∧ s.flagSet.getLsbD (3 + p.val) = (s.surfaceOf p).linkDown ∧
      s.flagSet.getLsbD 7 = false)

/-! ## Levels (chapter 1 and sections 4.3 to 4.5) -/

/-- R5: a level sum is OFF if any level operand is, and else the total of all operands clamped once, which is never OFF. -/
def Obligations.LevelSumLaw : Prop :=
  ∀ (levels : List Level) (offset : Int),
    ((-4608) ∈ levels → levelSum levels offset = -4608) ∧
    ((-4608) ∉ levels →
      levelSum levels offset = max (-4607) (min 384 (levels.sum + offset)) ∧ levelSum levels offset ≠ -4608)

/-- R7: the coefficient of a level, computed with integers, floor division and the mantissa table. R8: the coefficient at the
limits of the level domain; a path at or below -4033 publishes coefficient 0 like OFF. -/
def Obligations.CoefficientLaw : Prop :=
  ((List.range 17).map mantissaEntry =
     [1048576, 1095000, 1143480, 1194106, 1246974, 1302182, 1359835, 1420040, 1482910,
      1548564, 1617125, 1688722, 1763488, 1841564, 1923097, 2008240, 2097152] ∧
   coefficient (-4608) = 0 ∧
   ∀ l : Level, -4607 ≤ l → l ≤ 384 →
     let k := Int.fdiv l 192
     let f := l - 192 * k
     let i := Int.fdiv f 12
     let r := f - 12 * i
     let low : Int := mantissaEntry i.toNat
     let high : Int := mantissaEntry (i.toNat + 1)
     let m := low + Int.fdiv ((high - low) * r) 12
     (0 ≤ f ∧ f ≤ 191 ∧ 0 ≤ i ∧ i ≤ 15 ∧ 0 ≤ r ∧ r ≤ 11) ∧
     (0 ≤ k → (coefficient l : Int) = m * 2 ^ k.toNat) ∧
     (k < 0 → (coefficient l : Int) = Int.fdiv (m + 2 ^ ((-k).toNat - 1)) (2 ^ (-k).toNat))) ∧
  ((∀ l : Level, -4608 ≤ l → l ≤ 384 → coefficient l ≤ 4194304) ∧
   (∀ l : Level, 0 ≤ l → l ≤ 191 →
     coefficient l = mantissa l.toNat ∧ 1048576 ≤ coefficient l ∧ coefficient l ≤ 2089742) ∧
   (∀ l : Level, 192 ≤ l → l ≤ 383 →
     coefficient l = 2 * mantissa (l - 192).toNat ∧ 2097152 ≤ coefficient l ∧ coefficient l ≤ 4179484) ∧
   coefficient 384 = 4194304 ∧
   coefficient (-4032) = 1 ∧
   (∀ l : Level, -4032 ≤ l → l ≤ 384 → 1 ≤ coefficient l) ∧
   (∀ (l : Level) (stem : StemId), -4607 ≤ l → l ≤ -4033 →
     coefficient l = 0 ∧ engineEntry (some stem) l = engineEntry (some stem) (-4608)))

/-- The glide of an evaluation: started, kept, or ended by a touch or a mode transition (R67, R72, R75); and the presented
level by evaluation mode, touch, glide and latch (the table of section 4.4 with R65, R68 to R74): U is the stored value or
else the live level; a glide step is truncated toward zero, and the last step ends the glide. -/
def Obligations.PresentedLevelChoice : Prop :=
  (∀ x : Inputs,
     (x.touch.isSome = true → x.glide = none) ∧
     (x.mode ≠ x.record.previousMode → x.glide = none) ∧
     (x.touch = none → x.mode = x.record.previousMode → (x.mode = .touch ∨ x.mode = .trim) →
       x.record.previousHeld = true →
       x.glide = some { startLevel := x.record.presented, startOffset := x.record.trimOffset,
                        count := x.config.glideFrames, step := 1 }) ∧
     (x.touch = none → x.mode = x.record.previousMode →
       (x.record.previousHeld = false ∨ x.mode = .off ∨ x.mode = .read ∨ x.mode = .latch) → x.glide = x.record.glide)) ∧
  (∀ x : Inputs,
     let u : Level := x.stored.getD x.live
     let y := x.choose
     let noGlide := y.glide = none ∧ y.glideEnded = false
     let glideStep (g : Glide) :=
       (g.step < max g.count 1 → y.glide = some { g with step := g.step + 1 } ∧ y.glideEnded = false) ∧
       (max g.count 1 ≤ g.step → y.glide = none ∧ y.glideEnded = true)
     let scaled (g : Glide) (n : Int) : Int := Int.tdiv (n * ((max g.count 1 : Nat) - (g.step : Int))) (max g.count 1 : Nat)
     (x.mode = .off → y.presented = x.live ∧ noGlide ∧ y.latch = false) ∧
     (x.mode = .read → y.presented = u ∧ noGlide ∧ y.latch = false) ∧
     (x.mode = .touch → x.touch.isSome = true → y.presented = x.live ∧ noGlide) ∧
     (x.mode = .touch → x.touch = none → x.glide = none → y.presented = u ∧ noGlide) ∧
     (∀ g, x.mode = .touch → x.touch = none → x.glide = some g →
       y.presented = u + scaled g (g.startLevel - u) ∧ glideStep g) ∧
     (x.mode = .latch → x.touch.isSome = true → y.presented = x.live ∧ noGlide) ∧
     (x.mode = .latch → x.touch = none →
       ((x.record.latch = true ∧ x.mode = x.record.previousMode ∧ x.segmentOpen = true) →
         y.presented = x.live ∧ y.latch = true ∧ noGlide) ∧
       (¬(x.record.latch = true ∧ x.mode = x.record.previousMode ∧ x.segmentOpen = true) →
         y.presented = u ∧ y.latch = false ∧ noGlide)) ∧
     (∀ r, x.mode = .trim → x.touch = some r →
       y.trimOffset = x.live - r.reference ∧ noGlide ∧
       (∀ l, x.stored = some l → y.presented = levelSum [l] (x.live - r.reference)) ∧
       (x.stored = none → y.presented = x.live)) ∧
     (x.mode = .trim → x.touch = none → x.glide = none → y.presented = u ∧ noGlide) ∧
     (∀ g, x.mode = .trim → x.touch = none → x.glide = some g →
       glideStep g ∧
       (∀ l, x.stored = some l → y.presented = levelSum [l] (scaled g g.startOffset)) ∧
       (x.stored = none → y.presented = x.live)))

/-! ## Transport (chapter 2) -/

/-- FRAME_MARK. R23 and R24: a mark that fails the line check changes nothing; a STOPPED mark parks the transport, with a
close-all request if it was rolling, a relocate-all request if the frame differs, and the timer scheduled unless it was
STOPPED. R25, with what leaves STOPPED (R34, R185, R187, R188), the close-all bar of an acquisition (R87) and the notice of a
changed state (R38): a MOVING mark in STOPPED or CHASE. R26: a MOVING mark in PLAY or FREEWHEEL, consecutive or not. What
`acquire`, `closeAll`, `leaveStopped`, `relocateAll`, `frameEvent`, `postTransport` and `settlePool` do is stated below. -/
def Obligations.FrameMarkTaken : Prop :=
  ((∀ (f : BitVec 24) (m : Motion) (s : State), exec (.frameMark false f m) s = .next s) ∧
   (∀ (f : BitVec 24) (s : State),
     let x := s.tracker
     let parked : State := { s with tracker := { x with
       transport := .stopped, runCount := 0, freewheelCount := 0, currentFrame := f.toNat
       frameTimer := if x.transport = .stopped then x.frameTimer else s.now + 1200 / x.rate } }
     let closed := if x.transport = .play ∨ x.transport = .freewheel then parked.closeAll else parked
     let relocated := if f.toNat ≠ x.currentFrame then closed.relocateAll else closed
     let noticed := if x.transport ≠ .stopped ∨ f.toNat ≠ x.currentFrame then relocated.postTransport else relocated
     GoesOnTo (exec (.frameMark true f .stopped) s) (noticed.settlePool s))) ∧
  (∀ (f : BitVec 24) (s : State), s.tracker.transport = .stopped ∨ s.tracker.transport = .chase →
    let x := s.tracker
    let consecutive := x.currentFrame < 16777215 ∧ f.toNat = x.currentFrame + 1
    let run := if consecutive then min 255 (x.runCount + 1) else 1
    let state : Transport := if x.acquireCount ≤ run then .play else .chase
    let marked : State := { s with tracker := { x with
      transport := state, runCount := run, currentFrame := f.toNat, frameTimer := s.now + 3 * 1200 / (2 * x.rate) } }
    let relocated := if ¬consecutive ∧ f.toNat ≠ x.currentFrame then marked.relocateAll else marked
    let acquired := if state = .play then relocated.acquire else relocated
    let left := if x.transport = .stopped then acquired.leaveStopped else acquired
    let started := left.frameEvent f.toNat
    let noticed := if state ≠ x.transport then started.postTransport else started
    GoesOnTo (exec (.frameMark true f .moving) s) (noticed.settlePool s)) ∧
  (∀ (f : BitVec 24) (s : State), s.tracker.transport = .play ∨ s.tracker.transport = .freewheel →
    let x := s.tracker
    let timer := s.now + 3 * 1200 / (2 * x.rate)
    let consecutive := x.currentFrame < 16777215 ∧ f.toNat = x.currentFrame + 1
    (consecutive →
      let started := State.frameEvent { s with tracker := { x with
        transport := .play, runCount := min 255 (x.runCount + 1), freewheelCount := 0, currentFrame := f.toNat
        frameTimer := timer } } f.toNat
      let noticed := if x.transport = .freewheel then started.postTransport else started
      GoesOnTo (exec (.frameMark true f .moving) s) (noticed.settlePool s)) ∧
    (¬consecutive →
      let jumped : State := { s with tracker := { x with
        transport := .chase, runCount := 1, freewheelCount := 0, currentFrame := f.toNat, frameTimer := timer } }
      GoesOnTo (exec (.frameMark true f .moving) s)
        ((((jumped.closeAll.relocateAll).frameEvent f.toNat).postTransport).settlePool s)))

/-- R28 to R31: an expiry of the frame timer by the transport state. The time and the next expiry are the model's clock
(R27; log 2). -/
def Obligations.TimerExpiryTaken : Prop :=
  ∀ s : State,
    let x := s.tracker
    let time := max s.now x.frameTimer
    let timed : State := { s with now := time, tracker := { x with frameTimer := time + 1200 / x.rate } }
    let stopped : State := { timed with tracker := { timed.tracker with
      transport := .stopped, runCount := 0, freewheelCount := 0 } }
    let freewheeled (n : Nat) : State := { timed with tracker := { timed.tracker with
      transport := .freewheel, freewheelCount := n, currentFrame := x.currentFrame + 1 } }
    let lockLost (u : State) : State := if u.tracker.lockLost then u else
      { u with
        tracker := { u.tracker with lockLost := true }
        editor := { u.editor with flagNotice := if u.editor.link = .up then some false else u.editor.flagNotice } }
    let ends (u : State) := GoesOnTo (exec .frameTimerExpiry s) (u.settlePool s)
    (x.transport = .stopped → ends (timed.frameEvent x.currentFrame)) ∧
    (x.transport = .chase → ends (stopped.frameEvent x.currentFrame).postTransport) ∧
    (x.transport = .play →
      (x.currentFrame < 16777215 → 1 ≤ x.freewheelLimit →
        ends ((freewheeled 1).frameEvent (x.currentFrame + 1)).postTransport) ∧
      (x.currentFrame < 16777215 → x.freewheelLimit = 0 →
        ends ((lockLost stopped).closeAll.frameEvent x.currentFrame).postTransport) ∧
      (16777215 ≤ x.currentFrame → ends (stopped.closeAll.frameEvent x.currentFrame).postTransport)) ∧
    (x.transport = .freewheel →
      (x.freewheelCount + 1 ≤ x.freewheelLimit → x.currentFrame < 16777215 →
        ends ((freewheeled (x.freewheelCount + 1)).frameEvent (x.currentFrame + 1))) ∧
      (x.freewheelLimit < x.freewheelCount + 1 ∨ 16777215 ≤ x.currentFrame →
        ends ((lockLost stopped).closeAll.frameEvent x.currentFrame).postTransport))

/-- R35, with the start of a pass (R61, R87, R144): a frame event starts a pass, becomes the pending frame, or replaces it
and sets PASS_OVERRUN. A transport notice goes to every port that is UP, replacing the one it holds, and to no port that is
DOWN (R38, R166; log 19). A relocate-all request: a PARKED cursor stays, the cursor of an empty list is READY at once, every
other is RELOCATING with its records kept; a walk in flight is abandoned and its read will be dropped (R133, R136, R137). A
notice to a seat goes to the port the seat is mapped to, if that is UP (log 19), replacing one of the control (R44, R165); a
notice to the holder of a control goes to the seat that holds it (log 14). Nothing else changes. -/
def Obligations.TransportRequestsTaken : Prop :=
  (∀ (s : State) (t : Frame),
    (s.pass.run.inFlight = false →
      let free (b : BankId) : Bool := s.engine.published ≠ some b ∧ s.engine.reading ≠ some b
      let chosen := if free 0 then some 0 else if free 1 then some 1 else if free 2 then some 2 else none
      s.frameEvent t = { s with
        pass := { s.pass with run :=
          { inFlight := true, frame := some t, position := none, wait := none, underWay := none } }
        writer := { s.writer with closeAllBar := false }
        engine := { s.engine with building := chosen } }) ∧
    (s.pass.run.inFlight = true → s.tracker.pendingFrame = none →
      s.frameEvent t = { s with tracker := { s.tracker with pendingFrame := some t } }) ∧
    (s.pass.run.inFlight = true → s.tracker.pendingFrame ≠ none →
      s.frameEvent t = { s with
        tracker := { s.tracker with pendingFrame := some t, passOverrun := true }
        editor := { s.editor with flagNotice :=
          if s.tracker.passOverrun = false ∧ s.editor.link = .up then some false else s.editor.flagNotice } })) ∧
  (∀ s : State,
     let notice : TransportNotice :=
       { state := s.tracker.transport, frame := s.tracker.currentFrame, onLink := false }
     (∀ p : SurfaceId, s.postTransport.surfaceOf p =
       if (s.surfaceOf p).link = .up then { s.surfaceOf p with transportNotice := some notice } else s.surfaceOf p) ∧
     s.postTransport.editor =
       (if s.editor.link = .up then { s.editor with transportNotice := some notice } else s.editor) ∧
     s.postTransport = { s with surface := s.postTransport.surface, editor := s.postTransport.editor }) ∧
  (∀ s : State,
     let t := s.relocateAll
     let drop : MemRequest → MemRequest := fun r => match r with
       | .walkRead slot _ => .walkRead slot false
       | other => other
     (∀ c : ControlId,
       ((s.cursorOf c).state = .parked → t.cursorOf c = s.cursorOf c) ∧
       ((s.cursorOf c).state ≠ .parked → (s.listOf c).count = 0 →
         t.cursorOf c = { state := .ready, current := none, lookahead := .endOfList, target := none }) ∧
       ((s.cursorOf c).state ≠ .parked → (s.listOf c).count ≠ 0 →
         t.cursorOf c = { s.cursorOf c with state := .relocating, target := none })) ∧
     t.cursors.walk = none ∧
     t.port = { requests := s.port.requests.map drop, access := s.port.access.map drop } ∧
     t = { s with cursors := t.cursors, port := t.port }) ∧
  ((∀ (s : State) (i : SeatId) (c : ControlId) (n : SeatNotice),
     (∀ p : SurfaceId, (s.postNotice i c n).surfaceOf p =
       if (s.seatOf i).link = some p ∧ (s.surfaceOf p).link = .up then
         { s.surfaceOf p with
           notices := tset (s.surfaceOf p).notices c (some { notice := n, seat := i, onLink := false }) }
       else s.surfaceOf p) ∧
     s.postNotice i c n = { s with surface := (s.postNotice i c n).surface }) ∧
   (∀ (s : State) (c : ControlId) (n : SeatNotice),
     (s.touchOf c = none → s.noticeHolder c n = s) ∧
     (∀ r, s.touchOf c = some r → s.noticeHolder c n = s.postNotice r.holder c n)))

/-- The close of an open segment from outside: the final record due when the out frame is below the last evaluated frame,
and its closing work done at once, waiting, or dropped; with no open segment nothing happens; an append waiting on the
segment is dropped (R78, R97 to R99). That a segment waits behind an older closed segment that waits for a slot, whatever
the queue holds, is the model's reading (log 13). -/
def Obligations.SegmentClosed : Prop :=
  (∀ (s : State) (c : ControlId), s.segmentOf c = none → s.closeOutside c = s) ∧
  (∀ (s : State) (c : ControlId) (g : Segment), s.segmentOf c = some g →
    let last := (s.recordOf c).evaluatedFrame.getD g.outFrame
    let t := s.closeOutside c
    let joined (x : ListStore) (e : ClosedSegment) : ListStore := { x with
      spliceQueue := s.store.spliceQueue ++ [e], splice := if s.store.splice = .idle then .waiting else s.store.splice }
    let queued (work : ClosingWork) : Prop :=
      t.store = joined s.store { segment := g, closing := work } ∧ t.port = s.port ∧ t.editor = s.editor
    (∀ d, t.segmentOf d = if d = c then none else s.segmentOf d) ∧
    (last ≤ g.outFrame → queued .complete) ∧
    (∀ slot rest, g.outFrame < last → s.closingWaiters = 0 → s.store.freeQueue = slot :: rest →
      SlotsTaken s t rest 1 ∧
      t.store = joined { s.store with freeQueue := rest, poolLow := t.store.poolLow, refill := t.store.refill }
        { segment := appendedTo g last g.lastLevel slot, closing := .writing } ∧
      t.port = { s.port with requests := s.port.requests ++ [.closing (some g.control) (tailWrite g slot)] }) ∧
    (g.outFrame < last → (s.closingWaiters ≠ 0 ∨ s.store.freeQueue = []) → s.totalFree ≠ 0 → queued (.waitingSlot last)) ∧
    (g.outFrame < last → s.totalFree = 0 → queued .complete) ∧
    ((s.pass.run.wait = none ∨ ∀ e, s.pass.run.underWay = some e → e.control ≠ c ∨ e.todo ≠ .append) →
      t.pass = s.pass) ∧
    (∀ e, s.pass.run.wait ≠ none → s.pass.run.underWay = some e → e.control = c → e.todo = .append →
      t.pass.run = { s.pass.run with wait := none, underWay := some { e with todo := .finish } }) ∧
    t = { s with pass := { s.pass with run := t.pass.run }, writer := t.writer, store := t.store, port := t.port,
                 editor := t.editor } ∧
    t.writer.closeAllBar = s.writer.closeAllBar)

/-- A close-all request closes every open segment at once, one after another in ascending control order, each as
SegmentClosed says with its final record and closing work, sets the close-all bar if a pass is in flight, and ends a wait
for an append to a segment it closes or for a barred punch-in (R32, R78, R87, R96 to R98). The bar of an acquisition into
PLAY (R87) and the wait for a punch-in that the bar or a SAFE stem ends (R88): the wait is over, with the Segment Writer
step left behind, and nothing else changes. The closures of the controls a test names, such as those of the paths a SET STEM
makes SAFE (R15, R17, R96): in ascending control order, each as SegmentClosed says. -/
def Obligations.BarsAndClosures : Prop :=
  (∀ s : State,
     let t := s.closeAll
     let barred : State := { s with writer := { s.writer with closeAllBar := s.writer.closeAllBar || s.pass.run.inFlight } }
     t = ((List.finRange 208).foldl (fun u c => u.closeOutside c) barred).endBarredPunchIn ∧
     (∀ c : ControlId, t.segmentOf c = none) ∧
     t.writer.closeAllBar = (s.writer.closeAllBar || s.pass.run.inFlight) ∧
     t.store.spliceQueue.map (fun e => e.segment.control) =
       s.store.spliceQueue.map (fun e => e.segment.control) ++
         (List.finRange 208).filterMap (fun c => (s.segmentOf c).map Segment.control) ∧
     (∀ e, s.pass.run.wait ≠ none → s.pass.run.underWay = some e →
       (e.todo = .append ∧ s.segmentOf e.control ≠ none) ∨ (e.todo = .punchIn ∧ s.pass.run.inFlight = true) →
       t.pass.run = { s.pass.run with wait := none, underWay := some { e with todo := .finish } }) ∧
     (s.pass.run.wait = none → t.pass = s.pass) ∧
     t = { s with pass := { s.pass with run := t.pass.run }, writer := t.writer, store := t.store, port := t.port,
                  editor := t.editor } ∧
     (t.store.descriptors = s.store.descriptors ∧ t.store.storeState = s.store.storeState ∧ t.store.load = s.store.load ∧
       t.store.freeHead = s.store.freeHead ∧ t.store.memoryCount = s.store.memoryCount)) ∧
  (∀ s : State,
    let bar : Bool := s.writer.closeAllBar || s.pass.run.inFlight
    let ends (e : Evaluation) : Prop := s.pass.run.wait ≠ none ∧ s.pass.run.underWay = some e ∧ e.todo = .punchIn
    let barred : State := { s with writer := { s.writer with closeAllBar := bar } }
    (∀ e, ends e → (bar = true ∨ s.isSafe e.control = true) →
      s.acquire = { barred with pass := { s.pass with run :=
        { s.pass.run with wait := none, underWay := some { e with todo := .finish } } } }) ∧
    ((∀ e, ends e → bar = false ∧ s.isSafe e.control = false) → s.acquire = barred)) ∧
  (∀ s : State,
    let ends (e : Evaluation) : Prop := s.pass.run.wait ≠ none ∧ s.pass.run.underWay = some e ∧ e.todo = .punchIn ∧
      (s.writer.closeAllBar = true ∨ s.isSafe e.control = true)
    (∀ e, ends e → s.endBarredPunchIn = { s with pass := { s.pass with run :=
      { s.pass.run with wait := none, underWay := some { e with todo := .finish } } } }) ∧
    ((∀ e, ¬ends e) → s.endBarredPunchIn = s)) ∧
  (∀ (s : State) (which : ControlId → Bool),
    let t := s.closeWhere which
    t = ((List.finRange 208).filter which).foldl (fun u c => u.closeOutside c) s ∧
    (∀ c, t.segmentOf c = if which c then none else s.segmentOf c) ∧
    t.store.spliceQueue.map (fun e => e.segment.control) =
      s.store.spliceQueue.map (fun e => e.segment.control) ++
        ((List.finRange 208).filter which).filterMap (fun c => (s.segmentOf c).map Segment.control) ∧
    (∀ e, s.pass.run.wait ≠ none → s.pass.run.underWay = some e → e.todo = .append → which e.control = true →
      s.segmentOf e.control ≠ none →
      t.pass.run = { s.pass.run with wait := none, underWay := some { e with todo := .finish } }) ∧
    (s.pass.run.wait = none → t.pass = s.pass) ∧ t.writer.closeAllBar = s.writer.closeAllBar ∧
    t = { s with pass := { s.pass with run := t.pass.run }, writer := t.writer, store := t.store, port := t.port,
                 editor := t.editor } ∧
    (t.store.descriptors = s.store.descriptors ∧ t.store.storeState = s.store.storeState ∧ t.store.load = s.store.load ∧
      t.store.freeHead = s.store.freeHead ∧ t.store.memoryCount = s.store.memoryCount))

/-- The transport leaves STOPPED: a load is aborted and its chain returned, a waiting clear abandoned, a list read ended,
each with ABORTED ROLLING in its place, and a list read at the memory port will be dropped (R34, R123, R185, R187, R188).
With a read and a load or clear in flight, which ABORTED comes first is a free value (log 7): either order. That the chain's
return write is the write of the held tail, LAST clear, is the model's reading (log 8). -/
def Obligations.LeavingStopped : Prop :=
  ∀ s : State,
    let t := s.leaveStopped
    let aborted (kind : Byte) : ReplyPlace := .held (.aborted kind .rolling)
    let kept : MemoryPort := if s.editor.read = none then s.port else readsDropped s.port
    let withoutRead (places : List ReplyPlace) : List ReplyPlace :=
      (places.erase (.reserved .record)).erase (.reserved .read) ++ [aborted kindReadList]
    let without (o : PlaceOwner) (kind : Byte) (places : List ReplyPlace) : List ReplyPlace :=
      places.erase (.reserved o) ++ [aborted kind]
    t.store.load = none ∧ t.editor.clear = none ∧ t.editor.read = none ∧
    (s.store.load = none → s.editor.clear = none → s.editor.read = none → t = s) ∧
    (s.store.load = none → t.store = s.store ∧ t.port = kept) ∧
    (∀ l, s.store.load = some l → LoadAborted s kept l t ∧ t.editor.waitingRecord = none) ∧
    (s.store.load = none → t.editor.waitingRecord = s.editor.waitingRecord) ∧
    t.editor = { s.editor with
      read := none, clear := none, waitingRecord := t.editor.waitingRecord, replies := t.editor.replies } ∧
    (s.editor.read = none ∨ (s.store.load = none ∧ s.editor.clear = none) → t.freeDraws = s.freeDraws) ∧
    (s.store.load ≠ none → s.editor.clear = none → s.editor.read = none →
      t.editor.replies = without .load kindListBegin s.editor.replies) ∧
    (s.store.load = none → s.editor.clear ≠ none → s.editor.read = none →
      t.editor.replies = without .clear kindClearList s.editor.replies) ∧
    (s.store.load = none → s.editor.clear = none → s.editor.read ≠ none →
      t.editor.replies = withoutRead s.editor.replies) ∧
    (s.store.load ≠ none → s.editor.clear = none → s.editor.read ≠ none →
      (t.editor.replies = withoutRead (without .load kindListBegin s.editor.replies) ∨
        t.editor.replies = without .load kindListBegin (withoutRead s.editor.replies)) ∧
      t.freeDraws = s.freeDraws + 1) ∧
    (s.store.load = none → s.editor.clear ≠ none → s.editor.read ≠ none →
      (t.editor.replies = withoutRead (without .clear kindClearList s.editor.replies) ∨
        t.editor.replies = without .clear kindClearList (withoutRead s.editor.replies)) ∧
      t.freeDraws = s.freeDraws + 1) ∧
    t = { s with store := t.store, port := t.port, editor := t.editor, freeDraws := t.freeDraws }

/-- What an event ends in which the total free count falls to 0: final records that wait for a slot are dropped, an append
that waits for one truncates its segment, with TRUNCATED to the holder of a held control, and a load record that waits
aborts its load (R92, R93, R98, R183). In every other event nothing of this happens. What `noticeHolder` does is stated in
TransportRequestsTaken; that the notice goes to the holder as the touch table then stands is the model's reading (log 14).
LAST clear in the return write of an aborted load's chain is its reading too (log 8). -/
def Obligations.PoolRunsOut : Prop :=
  ∀ (u s : State),
    (¬(0 < s.totalFree ∧ u.totalFree = 0) → u.settlePool s = u) ∧
    (0 < s.totalFree → u.totalFree = 0 →
      let t := u.settlePool s
      let dropped : List ClosedSegment := u.store.spliceQueue.map (fun e => match e.closing with
        | .waitingSlot _ => { e with closing := .complete }
        | _ => e)
      let truncates (e : Evaluation) (g : Segment) : Prop :=
        u.pass.run.wait = some .freeSlot ∧ u.pass.run.underWay = some e ∧ e.todo = .append ∧ u.segmentOf e.control = some g
      t.closingWaiters = 0 ∧
      (∀ e g, truncates e g →
        (∀ d, t.segmentOf d = if d = e.control then none else u.segmentOf d) ∧
        t.store.spliceQueue = dropped ++ [{ segment := g, closing := .complete }] ∧
        t.store.splice = (if u.store.splice = .idle then .waiting else u.store.splice) ∧
        t.pass = { u.pass with
          run := { u.pass.run with wait := none, underWay := some { e with todo := .finish } }, records := t.pass.records } ∧
        (∀ d, t.recordOf d = { u.recordOf d with
          latePunch := (u.recordOf d).latePunch || (d == e.control && e.held) }) ∧
        t.surface = (if e.held then (u.noticeHolder e.control .truncated).surface else u.surface)) ∧
      ((∀ e g, ¬truncates e g) →
        t.store.spliceQueue = dropped ∧ t.store.splice = u.store.splice ∧ t.pass = u.pass ∧ t.writer = u.writer ∧
        t.surface = u.surface) ∧
      (let queued : State := { u with store := { u.store with spliceQueue := t.store.spliceQueue, splice := t.store.splice } }
       (∀ l, u.editor.waitingRecord ≠ none → u.store.load = some l →
         LoadAborted queued u.port l t ∧
         t.editor = { u.editor with
           waitingRecord := none
           replies := u.editor.replies.erase (.reserved .load) ++ [.held (.aborted kindListBegin .pool)] }) ∧
       (u.editor.waitingRecord = none ∨ u.store.load = none →
         t.editor = u.editor ∧ t.port = u.port ∧ t.store = queued.store)) ∧
      t.writer.closeAllBar = u.writer.closeAllBar ∧
      t = { u with pass := t.pass, writer := t.writer, store := t.store, port := t.port, surface := t.surface,
                   editor := t.editor })

/-! ## Seats and touches (chapter 3) -/

/-- R45: a TOUCH of a mapped seat on an untouched control is granted: a record with the current frame and the live level,
the seat's count one higher, GRANT to the seat. R47: a TOUCH on a control held by another seat. A strictly higher rank takes
over: TAKEN to the old holder on its port, if that is UP (the model's reading, log 19), GRANT to the sender. An equal or
lower rank gets LOST, and the record stays. -/
def Obligations.TouchDecided : Prop :=
  (∀ (s : State) (p : SurfaceId) (n f : Nat) (i : SeatId) (c : ControlId),
    Handed s p n (.touch f) → Addresses s p n i f c → s.touchOf c = none →
    GoesOnTo (exec (.touch p) s)
      (((s.setTouch c (some { holder := i, lastMove := s.tracker.currentFrame, reference := s.liveOf c })).setSeat i
          { s.seatOf i with heldTouches := (s.seatOf i).heldTouches + 1 }).setSurface p
        (tookMessage (s.surfaceOf p) [{ seat := n, message := .grant c }]))) ∧
  (∀ (s : State) (p : SurfaceId) (n f : Nat) (i : SeatId) (c : ControlId) (r : Touch),
    Handed s p n (.touch f) → Addresses s p n i f c → s.touchOf c = some r → r.holder ≠ i →
    ((s.seatOf r.holder).rank < (s.seatOf i).rank →
      ∃ ports : Vector SurfacePort 4,
        (∀ q : SurfaceId, tget ports q =
          let x := if q = p then tookMessage (s.surfaceOf p) [{ seat := n, message := .grant c }] else s.surfaceOf q
          if (s.seatOf r.holder).link = some q ∧ x.link = .up then
            { x with notices := tset x.notices c (some { notice := .taken i, seat := r.holder, onLink := false }) }
          else x) ∧
        GoesOnTo (exec (.touch p) s)
          { ((s.setTouch c (some { holder := i, lastMove := s.tracker.currentFrame, reference := r.reference })).setSeat
                r.holder { s.seatOf r.holder with heldTouches := (s.seatOf r.holder).heldTouches - 1 }).setSeat i
              { s.seatOf i with heldTouches := (s.seatOf i).heldTouches + 1 } with surface := ports }) ∧
    ((s.seatOf i).rank ≤ (s.seatOf r.holder).rank →
      GoesOnTo (exec (.touch p) s)
        (s.setSurface p (tookMessage (s.surfaceOf p) [{ seat := n, message := .lost c r.holder }]))))

/-- R46: a TOUCH from the seat that already holds the control is granted again; only the last-move frame changes. -/
def Obligations.TouchRegranted : Prop :=
  ∀ (s : State) (p : SurfaceId) (n f : Nat) (i : SeatId) (c : ControlId) (r : Touch),
    Handed s p n (.touch f) → Addresses s p n i f c → s.touchOf c = some r → r.holder = i →
    GoesOnTo (exec (.touch p) s)
      ((s.setTouch c (some { holder := i, lastMove := s.tracker.currentFrame, reference := r.reference })).setSurface p
        (tookMessage (s.surfaceOf p) [{ seat := n, message := .grant c }]))

/-- R51 and R168: a BANK of a seat that holds no touch moves its base, and the port's follow set follows the change of
visibility: in with the presented level, out, or as it was. R163: a HELLO refills the follow set with every visible control
at its presented level, posts no reply, and changes nothing else. -/
def Obligations.BankAndHelloTaken : Prop :=
  (∀ (s : State) (p : SurfaceId) (n base : Nat) (i : SeatId),
     Handed s p n (.bank base) → n = i.val + 1 → (s.seatOf i).link = some p → (s.seatOf i).heldTouches = 0 → base ≤ 207 →
     let banked := s.setSeat i { s.seatOf i with bankBase := base }
     ∃ follow : Vector (Option FollowEntry) 208,
       (∀ c : ControlId,
         (banked.visible p c = true → s.visible p c = false →
           tget follow c = some { level := (s.recordOf c).presented, onLink := false }) ∧
         (banked.visible p c = false → s.visible p c = true → tget follow c = none) ∧
         (banked.visible p c = s.visible p c → tget follow c = tget (s.surfaceOf p).follow c)) ∧
       GoesOnTo (exec (.bank p) s)
         (banked.setSurface p { tookMessage (s.surfaceOf p) [] with follow := follow })) ∧
  (∀ (s : State) (p : SurfaceId) (n : Nat), Handed s p n .hello →
     ∃ follow : Vector (Option FollowEntry) 208,
       (∀ c : ControlId, tget follow c =
         if s.visible p c then some { level := (s.recordOf c).presented, onLink := false }
         else tget (s.surfaceOf p).follow c) ∧
       GoesOnTo (exec (.hello p) s) (s.setSurface p { tookMessage (s.surfaceOf p) [] with follow := follow }))

/-- R49 with R4: a MOVE from the holder sets the live level, clamped, and the last-move frame, and posts no reply. R50: a
RELEASE from the holder removes the record, lowers the seat's count and posts RELEASED. R52 and R53: MODE with a legal code
on a control no other seat holds writes the mode and posts STATE; QUERY posts STATE and changes nothing. STATE reports the
control as it stands. -/
def Obligations.ControlMessagesTaken : Prop :=
  ((∀ (s : State) (p : SurfaceId) (n f : Nat) (i : SeatId) (c : ControlId) (r : Touch) (v : Int),
      Handed s p n (.move f v) → Addresses s p n i f c → s.touchOf c = some r → r.holder = i →
      GoesOnTo (exec (.move p) s)
        (((s.setLive c (if 384 < v then 384 else if v ≤ -4608 then -4608 else v)).setTouch c
            (some { r with lastMove := s.tracker.currentFrame })).setSurface p (tookMessage (s.surfaceOf p) []))) ∧
   (∀ (s : State) (p : SurfaceId) (n f : Nat) (i : SeatId) (c : ControlId) (r : Touch),
      Handed s p n (.release f) → Addresses s p n i f c → s.touchOf c = some r → r.holder = i →
      GoesOnTo (exec (.release p) s)
        (((s.setTouch c none).setSeat i { s.seatOf i with heldTouches := (s.seatOf i).heldTouches - 1 }).setSurface p
          (tookMessage (s.surfaceOf p) [{ seat := n, message := .released c }])))) ∧
  (∀ (s : State) (p : SurfaceId) (n f : Nat) (i : SeatId) (c : ControlId), Addresses s p n i f c →
     let stateOf (m : Mode) : OutMessage := .state
       { control := c, mode := m, presented := (s.recordOf c).presented, holder := (s.touchOf c).map Touch.holder,
         segmentOpen := (s.segmentOf c).isSome, cursor := (s.cursorOf c).state }
     (∀ (code : Byte) (m : Mode), Handed s p n (.mode f code) →
       code = (match m with | .off => 0#8 | .read => 1#8 | .touch => 2#8 | .latch => 3#8 | .trim => 4#8) →
       (∀ r, s.touchOf c = some r → r.holder = i) →
       GoesOnTo (exec (.mode p) s)
         ((s.setConfig c { s.configOf c with mode := m }).setSurface p
           (tookMessage (s.surfaceOf p) [{ seat := n, message := stateOf m }]))) ∧
     (Handed s p n (.query f) →
       GoesOnTo (exec (.query p) s)
         (s.setSurface p (tookMessage (s.surfaceOf p) [{ seat := n, message := stateOf (s.configOf c).mode }]))))

/-- The refusals of R44's table in their order. Each answers REFUSED to the sending seat and changes nothing else. The
control byte of a NO_CONTROL refusal is the model's reading (log 11). -/
def Obligations.SeatMessagesRefused : Prop :=
  ∀ (s : State) (p : SurfaceId) (n : Nat) (b : SeatBody), Handed s p n b → b ≠ .hello →
    let refusedWith (reason : RefusalReason) (control : Option Byte) : Prop :=
      GoesOnTo (exec (takeOf p b) s)
        (s.setSurface p (tookMessage (s.surfaceOf p) [{ seat := n, message := .refused reason b.kind control }]))
    (NotMappedAt s p n → refusedWith .notMapped none) ∧
    (∀ i : SeatId, n = i.val + 1 → (s.seatOf i).link = some p →
      (∀ f, faderOf b = some f → 31 < f → refusedWith .badValue none) ∧
      (∀ f, faderOf b = some f → f ≤ 31 → 207 < (s.seatOf i).bankBase + f →
        refusedWith .noControl (some (byteOf ((s.seatOf i).bankBase + f)))) ∧
      (∀ base, b = .bank base → 0 < (s.seatOf i).heldTouches → refusedWith .touchHeld none) ∧
      (∀ base, b = .bank base → (s.seatOf i).heldTouches = 0 → 207 < base → refusedWith .noControl none) ∧
      (∀ f c, faderOf b = some f → f ≤ 31 → c.val = (s.seatOf i).bankBase + f →
        ((∃ v, b = .move f v) ∨ b = .release f → (∀ r, s.touchOf c = some r → r.holder ≠ i) →
          refusedWith .notHolder (some (controlByte c))) ∧
        (∀ code, b = .mode f code → 4 < code.toNat → refusedWith .badValue (some (controlByte c))) ∧
        (∀ code r, b = .mode f code → code.toNat ≤ 4 → s.touchOf c = some r → r.holder ≠ i →
          refusedWith .touchHeld (some (controlByte c)))))

/-! ## The frame pass and writing (chapters 4 and 5) -/

/-- The first step of an evaluation (R64): the position, the advance of the cursor (R130), and the stale test (R55), which
changes nothing, rebases a touch newer than the frame, or releases the touch and posts one notice. That a DOWN port gets no
notice is the model's reading (log 19). What the evaluation reads then (R64): the configuration, transport and live level,
the touch left by the stale test, the record and segment as they stand, the evaluation mode, OFF for a path of a SAFE stem
(R67), and the stored value from the cursor's answer after the advance (R65, R66, R132). -/
def Obligations.EvaluationBegins : Prop :=
  ∀ (s : State) (c : ControlId) (t : Frame),
    let u := s.evaluationStep c t
    let x := s.cursorOf c
    let stale := s.arbiter.staleTimeout
    let tested := stale ≠ 0 ∧ s.writer.closeAllBar = false ∧
      (s.tracker.transport = .play ∨ s.tracker.transport = .freewheel)
    (u.pass = { s.pass with run := { s.pass.run with position := some c } } ∧
     (∀ r : SlotRecord, x.state = .ready → x.lookahead = .record r → r.record.frame ≤ t →
       let now : CurrentRecord :=
         { slot := r.slot, frame := r.record.frame, kind := r.record.kind, level := r.record.level }
       (r.record.last = true →
         u.cursorOf c = { x with current := some now, lookahead := .endOfList } ∧ u.port = s.port) ∧
       (r.record.last = false →
         u.cursorOf c = { x with state := .fetching, current := some now, lookahead := .awaited r.record.next } ∧
         u.port = { s.port with requests := s.port.requests ++ [.fetch c r.record.next] })) ∧
     ((x.state ≠ .ready ∨ ∀ r : SlotRecord, x.lookahead = .record r → t < r.record.frame) →
       u.cursorOf c = x ∧ u.port = s.port) ∧
     (∀ d, d ≠ c → u.cursorOf d = s.cursorOf d) ∧ u.cursors.walk = s.cursors.walk ∧
     (∀ r, tested → s.touchOf c = some r →
       (t < r.lastMove → u.arbiter = (s.setTouch c (some { r with lastMove := t })).arbiter ∧ u.surface = s.surface) ∧
       (r.lastMove ≤ t → t - r.lastMove < stale → u.arbiter = s.arbiter ∧ u.surface = s.surface) ∧
       (r.lastMove ≤ t → stale ≤ t - r.lastMove →
         u.arbiter = ((s.setTouch c none).setSeat r.holder
           { s.seatOf r.holder with heldTouches := (s.seatOf r.holder).heldTouches - 1 }).arbiter ∧
         ∀ q : SurfaceId, u.surfaceOf q =
           if (s.seatOf r.holder).link = some q ∧ (s.surfaceOf q).link = .up then
             { s.surfaceOf q with
               notices := tset (s.surfaceOf q).notices c (some { notice := .stale, seat := r.holder, onLink := false }) }
           else s.surfaceOf q)) ∧
     (¬tested ∨ s.touchOf c = none → u.arbiter = s.arbiter ∧ u.surface = s.surface) ∧
     u = { s with arbiter := u.arbiter, pass := u.pass, port := u.port, cursors := u.cursors, surface := u.surface }) ∧
    (let read := inputsAt s c t
     let safe : Prop := 16 ≤ c.val ∧ ∃ i : StemId, (s.configOf c).stem = some i ∧ tget s.pass.safe i = true
     let answer := u.cursorOf c
     (read.control = c ∧ read.frame = t ∧ read.config = s.configOf c ∧ read.transport = s.tracker.transport ∧
       read.live = s.liveOf c ∧ read.touch = u.touchOf c ∧ read.segmentOpen = (s.segmentOf c).isSome ∧
       read.record = s.recordOf c) ∧
     (safe → read.mode = .off) ∧ (¬safe → read.mode = (s.configOf c).mode) ∧
     (answer.state = .relocating → read.stored = (s.recordOf c).storedUsed) ∧
     (answer.state ≠ .relocating →
       (answer.current = none → read.stored = none) ∧
       (∀ r, answer.current = some r →
         (r.kind = .gap → read.stored = none) ∧ (r.kind = .level → read.stored = some r.level))))

/-- CONTROL_EVALUATION of a control that neither writes nor has an open segment: the record it leaves, the entry of a path
in the building bank, the feed of the follow sets, and the pass going on from it (R64 to R71, R79 to R81). What
`endEvaluation` does is stated in PassCompletes. That the follow sets of UP ports alone are fed is the model's reading (log
19), here and in the statements of the other evaluations. -/
def Obligations.EvaluationWithoutWriting : Prop :=
  ∀ (s : State) (c : ControlId) (f : Frame),
    EvaluationDue s c f → s.segmentOf c = none → ¬Writes s c f →
    let u := s.evaluationStep c f
    ∃ t : State, GoesOnTo (exec .controlEvaluation s) (t.endEvaluation c) ∧ EvaluationLeft s u t c f ∧
      (t.recordOf c).latePunch = ((s.recordOf c).latePunch && (inputsAt s c f).touch.isSome) ∧
      t = { u with pass := t.pass, engine := t.engine, surface := t.surface }

/-- The pass goes on from an evaluation to the next control, or completes at control 207: the building bank is published,
the indication given, the pass state idle; a pending frame starts its pass at once, in a bank chosen from the new roles
(R36, R62, R81, R146, R147). So CONTROL_EVALUATION of control 207 ends the pass. -/
def Obligations.PassCompletes : Prop :=
  ((∀ (s : State) (c : ControlId), c.val ≠ 207 →
     s.endEvaluation c = { s with pass := { s.pass with run := { s.pass.run with wait := none, underWay := none } } }) ∧
   (∀ (s : State) (c : ControlId), c.val = 207 →
     let idle : PassRun := { inFlight := false, frame := none, position := none, wait := none, underWay := none }
     let published : EnginePort := { s.engine with
       published := s.engine.building, building := none, framePublished := s.engine.framePublished + 1 }
     (s.tracker.pendingFrame = none →
       s.endEvaluation c = { s with pass := { s.pass with run := idle }, engine := published }) ∧
     (∀ g, s.tracker.pendingFrame = some g →
       let free (b : BankId) : Bool := s.engine.building ≠ some b ∧ s.engine.reading ≠ some b
       s.endEvaluation c = { s with
         tracker := { s.tracker with pendingFrame := none }
         pass := { s.pass with run := { idle with inFlight := true, frame := some g } }
         writer := { s.writer with closeAllBar := false }
         engine := { published with
           building := if free 0 then some 0 else if free 1 then some 1 else if free 2 then some 2 else none } }))) ∧
  (∀ (s : State) (c : ControlId) (f : Frame),
    EvaluationDue s c f → s.segmentOf c = none → ¬Writes s c f → c.val = 207 →
    ∃ t : State, GoesOnTo (exec .controlEvaluation s) t ∧ RecordLeft s t c f ∧
      t.engine.published = s.engine.building ∧ t.engine.reading = s.engine.reading ∧
      t.engine.framePublished = s.engine.framePublished + 1 ∧
      (s.tracker.pendingFrame = none →
        t.engine.building = none ∧ t.tracker = s.tracker ∧ t.writer = s.writer ∧
        t.pass.run = { inFlight := false, frame := none, position := none, wait := none, underWay := none }) ∧
      (∀ g, s.tracker.pendingFrame = some g →
        let free (b : BankId) : Bool := s.engine.building ≠ some b ∧ s.engine.reading ≠ some b
        t.engine.building = (if free 0 then some 0 else if free 1 then some 1 else if free 2 then some 2 else none) ∧
        t.tracker = { s.tracker with pendingFrame := none } ∧ t.writer = { s.writer with closeAllBar := false } ∧
        t.pass.run = { inFlight := true, frame := some g, position := none, wait := none, underWay := none }) ∧
      t = { s.evaluationStep c f with
        tracker := t.tracker, pass := t.pass, writer := t.writer, engine := t.engine, surface := t.surface })

/-- The punch-in attempt of a writing evaluation with no open segment (R86 to R89, R94): with every condition met and two
slots it opens a segment and posts no write; short of slots it waits; otherwise it is a late punch, noticed once. That it
waits while a closed segment waits for a slot, whatever the queue holds, is the model's reading (log 13), as are what its
record holds meanwhile (log 16) and the feed of UP ports alone (log 19). -/
def Obligations.PunchInAttempt : Prop :=
  ∀ (s : State) (c : ControlId) (f : Frame),
    EvaluationDue s c f → s.segmentOf c = none → Writes s c f →
    let u := s.evaluationStep c f
    let level := (inputsAt s c f).choose.presented
    let met := s.spliceQueued c = false ∧ s.store.storeState = .ready ∧ 4096 ≤ s.totalFree
    (∀ a b rest, met → s.store.freeQueue = a :: b :: rest → s.closingWaiters = 0 →
      ∃ t : State, GoesOnTo (exec .controlEvaluation s) (t.endEvaluation c) ∧ EvaluationLeft s u t c f ∧
        (∀ d, t.segmentOf d = if d = c then some
          { control := c, inFrame := f, outFrame := f, count := 2, first := a, reserve := b,
            tail := { slot := a, frame := f, level := level }, lastLevel := level } else s.segmentOf d) ∧
        SlotsTaken s t rest 2 ∧ t.writer.closeAllBar = s.writer.closeAllBar ∧
        (t.recordOf c).latePunch = (s.recordOf c).latePunch ∧
        t = { u with
          pass := t.pass, writer := t.writer, engine := t.engine, surface := t.surface, editor := t.editor
          store := { s.store with freeQueue := rest, poolLow := t.store.poolLow, refill := t.store.refill } }) ∧
    (met → (s.store.freeQueue.length < 2 ∨ s.closingWaiters ≠ 0) →
      GoesOnTo (exec .controlEvaluation s) (waitingState s c f .freeSlot .punchIn)) ∧
    (¬met →
      let reason : SeatNotice :=
        if s.store.storeState = .ready ∧ s.spliceQueued c = false then .poolLow else .latePunch
      ∃ t : State, GoesOnTo (exec .controlEvaluation s) (t.endEvaluation c) ∧
        EvaluationLeft s (if (s.recordOf c).latePunch then u else u.noticeHolder c reason) t c f ∧
        (t.recordOf c).latePunch = true ∧
        t = { u with pass := t.pass, engine := t.engine, surface := t.surface })

/-- The step of a control with an open segment, no mode transition and no glide that ends (R90 to R94): nothing at an equal
level; an append; a truncation; a wait for a slot or for room, also where the glide ends. That the wait for the slot comes
before the wait for room (log 12), that an append waits while a closed segment waits for a slot (log 13), what the record
holds meanwhile (log 16), and the feed of UP ports alone (log 19), are the model's readings. -/
def Obligations.AppendStep : Prop :=
  ∀ (s : State) (c : ControlId) (f : Frame) (g : Segment),
    EvaluationDue s c f → s.segmentOf c = some g → (inputsAt s c f).mode = (s.recordOf c).previousMode →
    let u := s.evaluationStep c f
    let x := inputsAt s c f
    let y := x.choose
    (y.presented = g.lastLevel → y.glideEnded = false →
      ∃ t : State, GoesOnTo (exec .controlEvaluation s) (t.endEvaluation c) ∧ EvaluationLeft s u t c f ∧
        (t.recordOf c).latePunch = ((s.recordOf c).latePunch && x.touch.isSome) ∧
        t = { u with pass := t.pass, engine := t.engine, surface := t.surface }) ∧
    (∀ slot rest, y.presented ≠ g.lastLevel → y.glideEnded = false → s.store.freeQueue = slot :: rest →
      s.closingWaiters = 0 → s.appendQueue.length < 64 →
      ∃ t : State, GoesOnTo (exec .controlEvaluation s) ((t.endEvaluation c).settlePool s) ∧ EvaluationLeft s u t c f ∧
        (t.recordOf c).latePunch = ((s.recordOf c).latePunch && x.touch.isSome) ∧
        (∀ d, t.segmentOf d = if d = c then some (appendedTo g f y.presented slot) else s.segmentOf d) ∧
        SlotsTaken s t rest 1 ∧ t.writer.closeAllBar = s.writer.closeAllBar ∧
        t.port = { u.port with requests := u.port.requests ++ [.append (some c) (tailWrite g slot)] } ∧
        t = { u with
          pass := t.pass, writer := t.writer, port := t.port, engine := t.engine, surface := t.surface, editor := t.editor
          store := { s.store with freeQueue := rest, poolLow := t.store.poolLow, refill := t.store.refill } }) ∧
    (y.presented ≠ g.lastLevel → s.totalFree = 0 →
      ∃ t : State, GoesOnTo (exec .controlEvaluation s) (t.endEvaluation c) ∧
        EvaluationLeft s (u.noticeHolder c .truncated) t c f ∧ (t.recordOf c).latePunch = x.touch.isSome ∧
        (∀ d, t.segmentOf d = if d = c then none else s.segmentOf d) ∧
        t.writer.closeAllBar = s.writer.closeAllBar ∧
        t = { u with
          pass := t.pass, writer := t.writer, engine := t.engine, surface := t.surface
          store := { s.store with
            spliceQueue := s.store.spliceQueue ++ [{ segment := g, closing := .complete }]
            splice := if s.store.splice = .idle then .waiting else s.store.splice } }) ∧
    (y.presented ≠ g.lastLevel → s.totalFree ≠ 0 → (s.store.freeQueue = [] ∨ s.closingWaiters ≠ 0) →
      GoesOnTo (exec .controlEvaluation s) (waitingState s c f .freeSlot .append)) ∧
    (y.presented ≠ g.lastLevel → s.store.freeQueue ≠ [] → s.closingWaiters = 0 → 64 ≤ s.appendQueue.length →
      GoesOnTo (exec .controlEvaluation s) (waitingState s c f .appendRoom .append))

/-- The causes that close an open segment at its control's own evaluation (R95, R97). A mode transition closes it first, at
the last evaluated frame of the previous evaluation, and the step then finds no open segment: a writing evaluation is a late
punch, since the splice of the closed segment is queued. At its glide's last step a segment is appended to by R90 and closes
with the pass frame as its last evaluated frame: with an append no final record is due, without one it is. That the append
waits while a closed segment waits for a slot is the model's reading (log 13), as is the feed of UP ports alone (log 19);
the waits are in AppendStep. -/
def Obligations.SegmentClosesAtItsEvaluation : Prop :=
  ∀ (s : State) (c : ControlId) (f : Frame) (g : Segment), EvaluationDue s c f → s.segmentOf c = some g →
    let u := s.evaluationStep c f
    let x := inputsAt s c f
    let y := x.choose
    (x.mode ≠ (s.recordOf c).previousMode →
      let closed := u.closeOutside c
      (¬Writes s c f →
        ∃ t : State, GoesOnTo (exec .controlEvaluation s) ((t.endEvaluation c).settlePool s) ∧ EvaluationLeft s u t c f ∧
          (t.recordOf c).latePunch = ((s.recordOf c).latePunch && x.touch.isSome) ∧
          t = { closed with pass := t.pass, engine := t.engine, surface := t.surface }) ∧
      (Writes s c f → g.control = c →
        ∃ t : State, GoesOnTo (exec .controlEvaluation s) ((t.endEvaluation c).settlePool s) ∧
          EvaluationLeft s (if (s.recordOf c).latePunch then u else u.noticeHolder c .latePunch) t c f ∧
          (t.recordOf c).latePunch = true ∧
          t = { closed with pass := t.pass, engine := t.engine, surface := t.surface })) ∧
    (x.mode = (s.recordOf c).previousMode → y.glideEnded = true → y.presented = g.lastLevel →
      ∃ t : State, GoesOnTo (exec .controlEvaluation s) ((t.endEvaluation c).settlePool s) ∧ EvaluationLeft s u t c f ∧
        (t.recordOf c).latePunch = ((s.recordOf c).latePunch && x.touch.isSome) ∧
        t = { closedAt u c f with pass := t.pass, engine := t.engine, surface := t.surface }) ∧
    (∀ slot rest, x.mode = (s.recordOf c).previousMode → y.glideEnded = true → y.presented ≠ g.lastLevel →
      s.store.freeQueue = slot :: rest → s.closingWaiters = 0 → s.appendQueue.length < 64 →
      ∃ t : State, GoesOnTo (exec .controlEvaluation s) ((t.endEvaluation c).settlePool s) ∧ EvaluationLeft s u t c f ∧
        (t.recordOf c).latePunch = ((s.recordOf c).latePunch && x.touch.isSome) ∧
        (∀ d, t.segmentOf d = if d = c then none else s.segmentOf d) ∧
        SlotsTaken s t rest 1 ∧ t.writer.closeAllBar = s.writer.closeAllBar ∧
        t.port = { u.port with requests := u.port.requests ++ [.append (some c) (tailWrite g slot)] } ∧
        t = { u with
          pass := t.pass, writer := t.writer, port := t.port, engine := t.engine, surface := t.surface, editor := t.editor
          store := { s.store with
            freeQueue := rest, poolLow := t.store.poolLow, refill := t.store.refill
            spliceQueue := s.store.spliceQueue ++
              [{ segment := appendedTo g f y.presented slot, closing := .complete }]
            splice := if s.store.splice = .idle then .waiting else s.store.splice } })

/-- EVALUATION_RESUME (R77, R78, R88 to R92, R95): an evaluation whose wait has ended goes on after its Segment Writer step;
one that still waits goes on once its room is there, with an append, an append and its glide's close, a punch-in or a late
punch; one whose room in the append queue comes when no slot is left truncates its segment, and else waits for the slot.
That a wait goes on while a closed segment waits for a slot (log 13), that an append with its slot then waits for room (log
12), that a late punch is noticed to the holder of that moment (log 14), the feed of UP ports alone (log 19), and that with
no evaluation under way nothing happens (log 1), are the model's readings. -/
def Obligations.EvaluationResumes : Prop :=
  ∀ s : State,
    (s.pass.run.underWay = none → exec .evaluationResume s = .next s) ∧
    (∀ e, s.pass.run.underWay = some e →
      let c := e.control
      let met := s.spliceQueued c = false ∧ s.store.storeState = .ready ∧ 4096 ≤ s.totalFree
      let flagKept (t : State) : Prop := (t.recordOf c).latePunch = (s.recordOf c).latePunch
      (s.pass.run.wait = none → e.todo = .finish →
        ∃ t, GoesOnTo (exec .evaluationResume s) (t.endEvaluation c) ∧ ResumptionLeft s s t e ∧ flagKept t ∧
          t = { s with pass := t.pass, engine := t.engine, surface := t.surface }) ∧
      (s.pass.run.wait = some .appendRoom → 64 ≤ s.appendQueue.length → exec .evaluationResume s = .next s) ∧
      (s.pass.run.wait = some .freeSlot → e.todo ≠ .punchIn → (s.store.freeQueue = [] ∨ s.closingWaiters ≠ 0) →
        exec .evaluationResume s = .next s) ∧
      (s.pass.run.wait = some .freeSlot → e.todo = .punchIn →
        (s.store.freeQueue.length < 2 ∨ s.closingWaiters ≠ 0) → exec .evaluationResume s = .next s) ∧
      (∀ g, s.segmentOf c = some g → e.todo = .append → e.presented ≠ g.lastLevel →
        (s.pass.run.wait = some .freeSlot → s.store.freeQueue ≠ [] → s.closingWaiters = 0 → 64 ≤ s.appendQueue.length →
          GoesOnTo (exec .evaluationResume s) (s.setRun { s.pass.run with wait := some .appendRoom })) ∧
        (s.pass.run.wait = some .appendRoom → s.appendQueue.length < 64 → s.totalFree ≠ 0 →
          (s.store.freeQueue = [] ∨ s.closingWaiters ≠ 0) →
          GoesOnTo (exec .evaluationResume s) (s.setRun { s.pass.run with wait := some .freeSlot })) ∧
        (s.pass.run.wait = some .appendRoom → s.appendQueue.length < 64 → s.totalFree = 0 →
          ∃ t, GoesOnTo (exec .evaluationResume s) (t.endEvaluation c) ∧
            ResumptionLeft s (if e.held then s.noticeHolder c .truncated else s) t e ∧
            (t.recordOf c).latePunch = ((s.recordOf c).latePunch || e.held) ∧
            (∀ d, t.segmentOf d = if d = c then none else s.segmentOf d) ∧
            t.writer.closeAllBar = s.writer.closeAllBar ∧
            t = { s with
              pass := t.pass, writer := t.writer, engine := t.engine, surface := t.surface
              store := { s.store with
                spliceQueue := s.store.spliceQueue ++ [{ segment := g, closing := .complete }]
                splice := if s.store.splice = .idle then .waiting else s.store.splice } }) ∧
        (∀ slot rest, s.pass.run.wait ≠ none → s.store.freeQueue = slot :: rest → s.closingWaiters = 0 →
          s.appendQueue.length < 64 →
          ∃ t, GoesOnTo (exec .evaluationResume s) ((t.endEvaluation c).settlePool s) ∧ ResumptionLeft s s t e ∧
            flagKept t ∧ SlotsTaken s t rest 1 ∧ t.writer.closeAllBar = s.writer.closeAllBar ∧
            t.port = { s.port with requests := s.port.requests ++ [.append (some c) (tailWrite g slot)] } ∧
            (∀ d, t.segmentOf d = if d = c then
              (if e.glideEnded then none else some (appendedTo g e.frame e.presented slot)) else s.segmentOf d) ∧
            t.store.spliceQueue = s.store.spliceQueue ++ (if e.glideEnded then
              [{ segment := appendedTo g e.frame e.presented slot, closing := .complete }] else []) ∧
            t = { s with
              pass := t.pass, writer := t.writer, port := t.port, engine := t.engine, surface := t.surface
              editor := t.editor
              store := { s.store with
                freeQueue := rest, poolLow := t.store.poolLow, refill := t.store.refill
                spliceQueue := t.store.spliceQueue
                splice := if e.glideEnded = true ∧ s.store.splice = .idle then .waiting else s.store.splice } })) ∧
      (∀ a b rest, s.pass.run.wait = some .freeSlot → e.todo = .punchIn → s.store.freeQueue = a :: b :: rest →
        s.closingWaiters = 0 →
        (met → s.segmentOf c = none →
          ∃ t, GoesOnTo (exec .evaluationResume s) (t.endEvaluation c) ∧ ResumptionLeft s s t e ∧ flagKept t ∧
            SlotsTaken s t rest 2 ∧ t.writer.closeAllBar = s.writer.closeAllBar ∧
            (∀ d, t.segmentOf d = if d = c then some
              { control := c, inFrame := e.frame, outFrame := e.frame, count := 2, first := a, reserve := b,
                tail := { slot := a, frame := e.frame, level := e.presented }, lastLevel := e.presented }
              else s.segmentOf d) ∧
            t = { s with
              pass := t.pass, writer := t.writer, engine := t.engine, surface := t.surface, editor := t.editor
              store := { s.store with freeQueue := rest, poolLow := t.store.poolLow, refill := t.store.refill } }) ∧
        (¬met →
          let reason : SeatNotice :=
            if s.store.storeState = .ready ∧ s.spliceQueued c = false then .poolLow else .latePunch
          ∃ t, GoesOnTo (exec .evaluationResume s) (t.endEvaluation c) ∧
            ResumptionLeft s (if (s.recordOf c).latePunch then s else s.noticeHolder c reason) t e ∧
            (t.recordOf c).latePunch = true ∧
            t = { s with pass := t.pass, engine := t.engine, surface := t.surface })))

/-- DEFERRED_CLOSING_WORK (R98): the oldest closed segment that waits takes the slot, its held tail is posted as a closing
write with that slot as its link, and the final record is its held tail. That nothing changes with none waiting, or with no
slot, is the model's choice (log 1). -/
def Obligations.DeferredClosingWorkDone : Prop :=
  (∀ (s : State) (before after : List ClosedSegment) (g : Segment) (f : Frame) (slot : Slot) (rest : List Slot),
    s.store.spliceQueue = before ++ { segment := g, closing := .waitingSlot f } :: after →
    (∀ e ∈ before, ∀ k, e.closing ≠ .waitingSlot k) → s.store.freeQueue = slot :: rest →
    ∃ t : State, GoesOnTo (exec .deferredClosingWork s) (t.settlePool s) ∧
      SlotsTaken s t rest 1 ∧
      t.store = { s.store with
        freeQueue := rest, poolLow := t.store.poolLow, refill := t.store.refill
        spliceQueue := before ++ { segment := appendedTo g f g.lastLevel slot, closing := .writing } :: after } ∧
      t.port = { s.port with requests := s.port.requests ++ [.closing (some g.control) (tailWrite g slot)] } ∧
      t = { s with store := t.store, port := t.port, editor := t.editor }) ∧
  (∀ s : State, s.store.freeQueue = [] ∨ (∀ e ∈ s.store.spliceQueue, ∀ k, e.closing ≠ .waitingSlot k) →
    GoesOnTo (exec .deferredClosingWork s) s)

/-! ## Record memory, lists and cursors (chapters 6 and 7) -/

/-- MEMORY_GRANT (R108, R126, R127): with no access in progress the first request of the highest priority among those
presented begins, and a granted refill is bound to its slot; reads of a slot that a posted write targets are held back. The
priority of each request, the slot each read reads, and the slot each posted write writes (R108, R126, R127). That
a grant with an access in progress, or with nothing presented, changes nothing is the model's choice (log 1). -/
def Obligations.GrantChooses : Prop :=
  (∀ s : State, s.port.access ≠ none ∨ s.presented = [] → exec .memoryGrant s = .next s) ∧
  (∀ (s : State) (before after : List MemRequest) (r : MemRequest),
    s.port.access = none → s.presented = before ++ r :: after →
    (∀ q ∈ before, r.priority < q.priority) → (∀ q ∈ after, r.priority ≤ q.priority) →
    exec .memoryGrant s = .next { s with
      port := { requests := s.port.requests.erase r, access := some r }
      store := { s.store with refill := match r with
        | .refill slot => .reading slot true
        | _ => s.store.refill } }) ∧
  (∀ (s : State) (r : MemRequest), r ∈ s.presented ↔
    (r ∈ s.port.requests ∨ (s.store.refill = .requested ∧ r = .refill s.store.freeHead) ∨
      (∃ slot, s.store.storeState = .formatting slot ∧ r = .format slot)) ∧
    ∀ slot, r.readSlot = some slot → ∀ w ∈ s.port.access.toList ++ s.port.requests, w.writeSlot ≠ some slot) ∧
  (∀ (o : Option ControlId) (c : ControlId) (w : SlotRecord) (slot : Slot) (live : Bool),
    ((MemRequest.append o w).priority = 1 ∧ (MemRequest.closing o w).priority = 1 ∧
      (MemRequest.chainReturn .discard w).priority = 1 ∧ (MemRequest.fetch c slot).priority = 2 ∧
      (MemRequest.refill slot).priority = 3 ∧ (MemRequest.spliceRead slot).priority = 4 ∧
      (MemRequest.spliceWrite w).priority = 4 ∧ (MemRequest.chainReturn .splice w).priority = 4 ∧
      (MemRequest.walkRead slot live).priority = 5 ∧ (MemRequest.loadWrite w).priority = 6 ∧
      (MemRequest.chainReturn .list w).priority = 6 ∧ (MemRequest.listRead slot live).priority = 6 ∧
      (MemRequest.format slot).priority = 7) ∧
    (∀ r ∈ [MemRequest.fetch c slot, .refill slot, .spliceRead slot, .walkRead slot live, .listRead slot live],
      r.readSlot = some slot ∧ r.writeSlot = none) ∧
    (∀ kind, ∀ r ∈ [MemRequest.append o w, .closing o w, .chainReturn kind w, .spliceWrite w, .loadWrite w],
      r.writeSlot = some w.slot ∧ r.readSlot = none) ∧
    ((MemRequest.format slot).readSlot = none ∧ (MemRequest.format slot).writeSlot = none))

/-- The completions that write one slot and end the access: an append entry leaves the append queue, a chain-return write
and a load write are done, and a closing write completes its segment's closing work (R91, R98, R109, R121, R126).
FORMAT_WRITE_COMPLETE (R111): the slot takes FORMAT's record and FORMAT goes on; the write of slot 1,048,575 makes the
whole memory the free list and the store READY. REFILL_READ_COMPLETE (R108, R109): a result that stands brings its slot to
the free slot queue, with the free list head and memory count moved on; one that does not is dropped; the next refill is
requested if it may be. -/
def Obligations.SlotAccessesComplete : Prop :=
  (∀ (s : State) (w : SlotRecord),
     let written : State :=
       { s with memory := Memory.writeSlot s.memory w.slot w.record, port := { s.port with access := none } }
     (∀ o, s.port.access = some (.append o w) → exec .appendWriteComplete s = .next written) ∧
     (∀ k, s.port.access = some (.chainReturn k w) → exec .chainReturnWriteComplete s = .next written) ∧
     (s.port.access = some (.loadWrite w) → exec .loadWriteComplete s = .next written) ∧
     (s.port.access = some (.closing none w) → exec .closingWriteComplete s = .next written) ∧
     (∀ c, s.port.access = some (.closing (some c) w) →
       exec .closingWriteComplete s = .next { written with store := { s.store with
         spliceQueue := s.store.spliceQueue.map (fun e =>
           if e.segment.control = c ∧ e.closing = .writing then { e with closing := .complete } else e) } }) ∧
     (MemoryCanonical s → KeepsMemoryBut s written w.slot)) ∧
  (∀ (s : State) (slot : Slot), s.port.access = some (.format slot) →
     let record : Record :=
       if slot = 1048575#20 then { frame := 0, kind := .level, level := 0, last := true, next := 0 }
       else { frame := 0, kind := .level, level := 0, last := false, next := slot + 1 }
     let written : State :=
       { s with memory := Memory.writeSlot s.memory slot record, port := { s.port with access := none } }
     (slot ≠ 1048575#20 →
       exec .formatWriteComplete s =
         .next { written with store := { s.store with storeState := .formatting (slot + 1) } }) ∧
     (slot = 1048575#20 →
       exec .formatWriteComplete s = .next { written with store := { s.store with
         freeHead := 0, memoryCount := 1048576, storeState := .ready
         refill := if s.store.freeQueue.length < 64 ∧ s.store.refill = .none then .requested else s.store.refill } }) ∧
     (MemoryCanonical s → KeepsMemoryBut s written slot)) ∧
  (∀ (s : State) (slot bound : Slot) (stands : Bool),
     s.port.access = some (.refill slot) → s.store.refill = .reading bound stands →
     let more (queue : List Slot) (count : Nat) : Refill :=
       if s.store.storeState = .ready ∧ queue.length < 64 ∧ 0 < count then .requested else .none
     (stands = true → exec .refillReadComplete s = .next { s with
       port := { s.port with access := none }
       store := { s.store with
         freeQueue := s.store.freeQueue ++ [slot]
         freeHead := (Memory.readSlot s.memory slot).next
         memoryCount := s.store.memoryCount - 1
         refill := more (s.store.freeQueue ++ [slot]) (s.store.memoryCount - 1) } }) ∧
     (stands = false → exec .refillReadComplete s = .next { s with
       port := { s.port with access := none }
       store := { s.store with refill := more s.store.freeQueue s.store.memoryCount } }))

/-- FETCH_COMPLETE (R131): a FETCHING cursor takes the record as its lookahead and becomes READY; else the result is dropped.
WALK_START and WALK_READ_COMPLETE (R134 to R137): the lowest-numbered control of the relocate set is walked from its head
slot toward the current frame; a record at most the target becomes the candidate, the first above it the lookahead, and the
walk's end makes the cursor READY. A read of an abandoned walk is dropped. -/
def Obligations.CursorReadsComplete : Prop :=
  (∀ (s : State) (c : ControlId) (slot : Slot), s.port.access = some (.fetch c slot) →
     let ended : State := { s with port := { s.port with access := none } }
     ((s.cursorOf c).state = .fetching → exec .fetchComplete s = .next (ended.setCursor c { s.cursorOf c with
       state := .ready
       lookahead := .record { slot := slot, record := Memory.readSlot s.memory slot } })) ∧
     ((s.cursorOf c).state ≠ .fetching → exec .fetchComplete s = .next ended)) ∧
  ((∀ (s : State) (c : ControlId),
     s.cursors.walk = none → (∀ r ∈ s.port.access.toList ++ s.port.requests, ∀ slot live, r ≠ .walkRead slot live) →
     (s.cursorOf c).state = .relocating → (∀ d, d < c → (s.cursorOf d).state ≠ .relocating) →
     ((∀ r ∈ s.port.access.toList ++ s.port.requests, ∀ slot, r ≠ .fetch c slot) → (s.listOf c).count ≠ 0 →
       exec .walkStart s = .next { (s.setCursor c { s.cursorOf c with target := some s.tracker.currentFrame }) with
         cursors := { (s.setCursor c { s.cursorOf c with target := some s.tracker.currentFrame }).cursors with
           walk := some { control := c, candidate := none } }
         port := { s.port with requests := s.port.requests ++ [.walkRead (s.listOf c).head true] } }) ∧
     ((∃ slot, MemRequest.fetch c slot ∈ s.port.access.toList ++ s.port.requests) → exec .walkStart s = .next s)) ∧
   (∀ (s : State) (slot : Slot) (w : Walk) (target : Frame),
     s.port.access = some (.walkRead slot true) → s.cursors.walk = some w →
     (s.cursorOf w.control).target = some target →
     let r := Memory.readSlot s.memory slot
     let here : CurrentRecord := { slot := slot, frame := r.frame, kind := r.kind, level := r.level }
     let answered (current : Option CurrentRecord) (ahead : Lookahead) : State :=
       { (s.setCursor w.control { state := .ready, current := current, lookahead := ahead, target := none }) with
         cursors := { (s.setCursor w.control
           { state := .ready, current := current, lookahead := ahead, target := none }).cursors with walk := none }
         port := { s.port with access := none } }
     (target < r.frame →
       exec .walkReadComplete s = .next (answered w.candidate (.record { slot := slot, record := r }))) ∧
     (r.frame ≤ target → r.last = true → exec .walkReadComplete s = .next (answered (some here) .endOfList)) ∧
     (r.frame ≤ target → r.last = false →
       exec .walkReadComplete s = .next { s with
         cursors := { s.cursors with walk := some { w with candidate := some here } }
         port := { access := none, requests := s.port.requests ++ [.walkRead r.next true] } })) ∧
   (∀ (s : State) (slot : Slot), s.port.access = some (.walkRead slot false) →
     exec .walkReadComplete s = .next { s with port := { s.port with access := none } }))

/-- SPLICE_START (R99, R113, R114): a ready head segment whose control has no fetch, walk or list read in flight is spliced:
its cursor is PARKED, and the walk begins at the head slot, or an empty list ends it at once and the writes are posted, in
the order SpliceWalkReads gives (the model's choice, log 26). A head that is not ready waits; that with no segment queued,
or a splice in progress, nothing happens is the model's choice (log 1). -/
def Obligations.SpliceStarts : Prop :=
  (∀ (s : State) (g : Segment) (rest : List ClosedSegment),
    s.store.spliceQueue = { segment := g, closing := .complete } :: rest →
    (s.store.splice = .idle ∨ s.store.splice = .waiting) →
    (∀ r ∈ s.port.access.toList ++ s.port.requests, ∀ w slot,
      r ≠ .append (some g.control) w ∧ r ≠ .closing (some g.control) w ∧ r ≠ .fetch g.control slot) →
    (∀ w, s.cursors.walk = some w → w.control ≠ g.control) →
    (∀ r, s.editor.read = some r → r.control ≠ g.control) →
    let parked := s.setCursor g.control { s.cursorOf g.control with state := .parked }
    ((s.listOf g.control).count ≠ 0 →
      exec .spliceStart s = .next { parked with
        store := { s.store with splice := .walking { p := none, run := none, n := none, oldValue := none } }
        port := { s.port with requests := s.port.requests ++ [.spliceRead (s.listOf g.control).head] } }) ∧
    ((s.listOf g.control).count = 0 →
      let answer : SpliceAnswer := { p := none, run := none, n := none, oldValue := none }
      exec .spliceStart s = .next { parked with
        store := { s.store with splice := .writing answer }
        port := { s.port with requests := s.port.requests ++ (answer.writes g).map .spliceWrite } })) ∧
  (∀ (s : State) (e : ClosedSegment) (rest : List ClosedSegment), s.store.spliceQueue = e :: rest →
    let c := e.segment.control
    (e.closing ≠ .complete ∨ (∃ a, s.store.splice = .walking a ∨ s.store.splice = .writing a) ∨
      (∃ w slot, MemRequest.append (some c) w ∈ s.port.access.toList ++ s.port.requests ∨
        MemRequest.closing (some c) w ∈ s.port.access.toList ++ s.port.requests ∨
        MemRequest.fetch c slot ∈ s.port.access.toList ++ s.port.requests) ∨
      (∃ w, s.cursors.walk = some w ∧ w.control = c) ∨ (∃ r, s.editor.read = some r ∧ r.control = c)) →
    exec .spliceStart s = .next s) ∧
  (∀ s : State, s.store.spliceQueue = [] → exec .spliceStart s = .next s)

/-- SPLICE_WALK_READ_COMPLETE (R115 to R117): a record below the in frame becomes P, one up to the out frame joins the
removed run, one above it is N; the walk goes on at the next slot, or ends at N or LAST and posts the splice's writes: the
held tail and, where the reserve slot resumes the old value at out + 1, the resume record, each linked onward or LAST, and
P rewritten to lead to the segment's first slot. They are posted in this order, the model's choice (log 26). -/
def Obligations.SpliceWalkReads : Prop :=
  (∀ (s : State) (slot : Slot) (a : SpliceAnswer) (e : ClosedSegment) (rest : List ClosedSegment),
     s.port.access = some (.spliceRead slot) → s.store.splice = .walking a → s.store.spliceQueue = e :: rest →
     let g := e.segment
     let r := Memory.readSlot s.memory slot
     let value : Option Level := if r.kind = .level then some r.level else none
     let found : SpliceAnswer :=
       if r.frame < g.inFrame then { a with p := some { slot := slot, record := r }, oldValue := value }
       else if r.frame ≤ g.outFrame then
         { a with
           run := some (match a.run with
             | none => { first := slot, last := slot, length := 1 }
             | some x => { first := x.first, last := slot, length := x.length + 1 })
           oldValue := value }
       else { a with n := some { slot := slot, record := r } }
     (found.n = none → r.last = false →
       exec .spliceWalkReadComplete s = .next { s with
         store := { s.store with splice := .walking found }
         port := { access := none, requests := s.port.requests ++ [.spliceRead r.next] } }) ∧
     (found.n ≠ none ∨ r.last = true →
       exec .spliceWalkReadComplete s = .next { s with
         store := { s.store with splice := .writing found }
         port := { access := none, requests := s.port.requests ++ (found.writes g).map .spliceWrite } })) ∧
  (∀ (a : SpliceAnswer) (g : Segment),
     let resumes := g.outFrame < 16777215 ∧ (∀ n, a.n = some n → n.record.frame ≠ g.outFrame + 1)
     let after : Option Slot := a.n.map (fun n => n.slot)
     let tail (link : Option Slot) : SlotRecord := { slot := g.tail.slot, record :=
       { frame := g.tail.frame, kind := .level, level := g.tail.level, last := link.isNone, next := link.getD 0 } }
     let resume : SlotRecord := { slot := g.reserve, record :=
       { frame := g.outFrame + 1, kind := if a.oldValue.isSome then .level else .gap, level := a.oldValue.getD 0,
         last := after.isNone, next := after.getD 0 } }
     let relinked : List SlotRecord := match a.p with
       | some x => [{ slot := x.slot, record := { x.record with last := false, next := g.first } }]
       | none => []
     (resumes → a.writes g = [tail (some g.reserve), resume] ++ relinked) ∧
     (¬resumes → a.writes g = [tail after] ++ relinked))

/-- SPLICE_WRITE_COMPLETE (R118): a write that is not the last only ends its access; the last one gives the descriptor its
new values, returns the removed run and then an unused reserve slot, each as one chain with its return write (ChainsReturn
says what a return does; its free values and LAST clear, log 8), takes the segment off the queue and relocates the cursor.
-/
def Obligations.SpliceWriteCompletes : Prop :=
  ∀ (s : State) (w : SlotRecord) (a : SpliceAnswer) (e : ClosedSegment) (rest : List ClosedSegment),
    s.port.access = some (.spliceWrite w) → s.store.splice = .writing a → s.store.spliceQueue = e :: rest →
    let g := e.segment
    let c := g.control
    let written : State :=
      { s with memory := Memory.writeSlot s.memory w.slot w.record, port := { s.port with access := none } }
    let resumes := g.outFrame < 16777215 ∧ (∀ n, a.n = some n → n.record.frame ≠ g.outFrame + 1)
    let removed : Nat := match a.run with
      | some x => x.length
      | none => 0
    let returned : State := match a.run with
      | some x => written.returnChain .splice x.first x.last x.length
      | none => written
    ((∃ v, MemRequest.spliceWrite v ∈ s.port.requests) → exec .spliceWriteComplete s = .next written) ∧
    ((∀ v, MemRequest.spliceWrite v ∉ s.port.requests) →
      ∃ t u : State, exec .spliceWriteComplete s = .next t ∧
        (resumes → u = returned) ∧ (¬resumes → u = returned.returnChain .splice g.reserve g.reserve 1) ∧
        (t.listOf c).head = (if a.p = none then g.first else (s.listOf c).head) ∧
        (a.n ≠ none → (t.listOf c).tail = (s.listOf c).tail) ∧
        (a.n = none → resumes → (t.listOf c).tail = g.reserve) ∧
        (a.n = none → ¬resumes → (t.listOf c).tail = g.tail.slot) ∧
        (resumes → (t.listOf c).count = (s.listOf c).count - removed + g.count ∧
          t.totalFree = s.totalFree + removed) ∧
        (¬resumes → (t.listOf c).count = (s.listOf c).count - removed + (g.count - 1) ∧
          t.totalFree = s.totalFree + removed + 1) ∧
        (a.run = none → resumes → t.port = written.port ∧ t.store.freeHead = s.store.freeHead) ∧
        (∀ d, d ≠ c → t.listOf d = s.listOf d ∧ t.cursorOf d = s.cursorOf d) ∧ t.cursors.walk = s.cursors.walk ∧
        ((t.listOf c).count ≠ 0 → t.cursorOf c = { s.cursorOf c with state := .relocating, target := none }) ∧
        t = { u with
          cursors := t.cursors
          store := { u.store with
            descriptors := t.store.descriptors, spliceQueue := rest, splice := if rest = [] then .idle else .waiting } }) ∧
    (MemoryCanonical s → KeepsMemoryBut s written w.slot)

/-- A chain return (R109): one write, of the chain's last slot with the free list head as its link, is posted; the chain
stands at the front of the free list, the counts rise by its length, and a refill being read no longer stands. The other
fields of that write are free values (log 8). A discard (R100): the open segment is gone, its held tail is posted as a
closing write linked to the reserve slot, no write posted before stands for a segment of the control any more, and the chain
from the first slot to the reserve slot returns. -/
def Obligations.ChainsReturn : Prop :=
  (∀ (s : State) (kind : ReturnKind) (first last : Slot) (length : Nat),
    let t := s.returnChain kind first last length
    t.store = { s.store with
      freeHead := first, memoryCount := s.store.memoryCount + length, refill := refillAfterReturn s.store length } ∧
    t.totalFree = s.totalFree + length ∧
    (∃ r : Record, r.last = false ∧ r.next = s.store.freeHead ∧
      t.port = { s.port with requests := s.port.requests ++ [.chainReturn kind { slot := last, record := r }] }) ∧
    t = { s with store := t.store, port := t.port, freeDraws := s.freeDraws + 1 }) ∧
  (∀ (s : State) (c : ControlId),
    (s.segmentOf c = none → s.discardSegment c = s) ∧
    (∀ g, s.segmentOf c = some g →
      let disown : MemRequest → MemRequest := fun r => match r with
        | .append o w => .append (if o = some c then none else o) w
        | .closing o w => .closing (if o = some c then none else o) w
        | other => other
      let posted : State := { s.setSegment c none with port :=
        { requests := s.port.requests.map disown ++ [.closing none (tailWrite g g.reserve)]
          access := s.port.access.map disown } }
      s.discardSegment c = posted.returnChain .discard g.first g.reserve g.count))

/-- LOAD_REPLACEMENT and LOAD_RECORD_SLOT (R107, R121, R122, R183, R184): the replacement step puts the new list in place,
returns the old one as one chain with its return write (ChainsReturn; its free values and LAST clear, log 8), relocates the
cursor and posts DONE, and waits for LIST END, the load's writes, and a fetch or walk of the control; a waiting LIST RECORD
takes a slot when no closed segment and no pass evaluation waits for one (the model's reading of the order of consumers, log
13), and else goes on waiting. CLEAR_LIST_EVENT (R124, R188): with no fetch or walk of the control in flight, the list
returns as one chain, the descriptor is empty, the cursor READY, and DONE stands in the reserved place; otherwise the clear
goes on waiting. LAST clear and next slot 0 in a held tail are the model's choice (log 27), as is that with no load, no
waiting record or no clear nothing happens (log 1). -/
def Obligations.LoadAndClearEvents : Prop :=
  ((∀ (s : State) (l : Load), s.store.load = some l → l.endTaken = true →
     (∀ r ∈ s.port.access.toList ++ s.port.requests, ∀ w slot, r ≠ .loadWrite w ∧ r ≠ .fetch l.control slot) →
     (∀ w, s.cursors.walk = some w → w.control ≠ l.control) →
     ∃ t : State, GoesOnTo (exec .loadReplacement s) t ∧
       t.listOf l.control =
         { head := l.first.getD 0, tail := (l.tail.map (fun x => x.slot)).getD 0, count := l.received } ∧
       (∀ d, d ≠ l.control → t.listOf d = s.listOf d ∧ t.cursorOf d = s.cursorOf d) ∧
       t.totalFree = s.totalFree + (s.listOf l.control).count ∧
       ((s.listOf l.control).count ≠ 0 → t.store.freeHead = (s.listOf l.control).head) ∧
       (let u := listReturned s l.control
        t.store = { u.store with descriptors := t.store.descriptors, load := none } ∧ t.port = u.port ∧
          t.freeDraws = u.freeDraws) ∧
       (l.received ≠ 0 →
         t.cursorOf l.control = { s.cursorOf l.control with state := .relocating, target := none }) ∧
       t.cursors.walk = s.cursors.walk ∧
       t.editor = { s.editor with
         replies := s.editor.replies.erase (.reserved .load) ++ [.held (.done kindListEnd)] } ∧
       t = { s with store := t.store, port := t.port, cursors := t.cursors, editor := t.editor,
                    freeDraws := t.freeDraws }) ∧
   (∀ s : State, s.store.load = none → exec .loadReplacement s = .next s) ∧
   (∀ (s : State) (l : Load), s.store.load = some l →
     (l.endTaken = false ∨ (∃ w, MemRequest.loadWrite w ∈ s.port.access.toList ++ s.port.requests) ∨
       (∃ slot, MemRequest.fetch l.control slot ∈ s.port.access.toList ++ s.port.requests) ∨
       ∃ w, s.cursors.walk = some w ∧ w.control = l.control) → exec .loadReplacement s = .next s) ∧
   (∀ (s : State) (l : Load) (r : LoadRecord) (slot : Slot) (rest : List Slot),
     s.editor.waitingRecord = some r → s.store.load = some l → s.store.freeQueue = slot :: rest →
     s.closingWaiters = 0 → s.pass.run.wait ≠ some .freeSlot →
     ∃ t : State, GoesOnTo (exec .loadRecordSlot s) (t.settlePool s) ∧
       SlotsTaken { s with editor := { s.editor with waitingRecord := none } } t rest 1 ∧
       t.store = { s.store with
         freeQueue := rest, poolLow := t.store.poolLow, refill := t.store.refill
         load := some { l with
           received := l.received + 1
           first := some (l.first.getD slot)
           tail := some { slot := slot, record :=
             if r.kind = 1#8 then { frame := r.frame, kind := .gap, level := 0, last := false, next := 0 }
             else { frame := r.frame, kind := .level, last := false, next := 0
                    level := if 384 < r.level then 384 else if r.level ≤ -4608 then -4608 else r.level } }
           lastFrame := r.frame } } ∧
       t.port = { s.port with requests := s.port.requests ++ (match l.tail with
         | some x => [.loadWrite { slot := x.slot, record := { x.record with last := false, next := slot } }]
         | none => []) } ∧
       t = { s with store := t.store, port := t.port, editor := t.editor }) ∧
   (∀ s : State, s.store.freeQueue = [] ∨ s.closingWaiters ≠ 0 ∨ s.pass.run.wait = some .freeSlot →
     GoesOnTo (exec .loadRecordSlot s) s) ∧
   (∀ s : State, s.editor.waitingRecord = none → GoesOnTo (exec .loadRecordSlot s) s)) ∧
  ((∀ (s : State) (c : ControlId), s.editor.clear = some c → (s.listOf c).count ≠ 0 →
     (∀ r ∈ s.port.access.toList ++ s.port.requests, ∀ slot, r ≠ .fetch c slot) →
     (∀ w, s.cursors.walk = some w → w.control ≠ c) →
     ∃ t : State, GoesOnTo (exec .clearListEvent s) t ∧
       t.listOf c = { head := 0, tail := 0, count := 0 } ∧
       t.cursorOf c = { state := .ready, current := none, lookahead := .endOfList, target := none } ∧
       (∀ d, d ≠ c → t.listOf d = s.listOf d ∧ t.cursorOf d = s.cursorOf d) ∧
       t.totalFree = s.totalFree + (s.listOf c).count ∧ t.store.freeHead = (s.listOf c).head ∧
       (let u := listReturned s c
        t.store = { u.store with descriptors := t.store.descriptors } ∧ t.port = u.port ∧ t.freeDraws = u.freeDraws) ∧
       t.cursors.walk = s.cursors.walk ∧
       t.editor = { s.editor with
         clear := none
         replies := s.editor.replies.erase (.reserved .clear) ++ [.held (.done kindClearList)] } ∧
       t = { s with store := t.store, port := t.port, cursors := t.cursors, editor := t.editor,
                    freeDraws := t.freeDraws }) ∧
   (∀ (s : State) (c : ControlId), s.editor.clear = some c →
     ((∃ slot, MemRequest.fetch c slot ∈ s.port.access.toList ++ s.port.requests) ∨
       ∃ w, s.cursors.walk = some w ∧ w.control = c) → exec .clearListEvent s = .next s) ∧
   (∀ s : State, s.editor.clear = none → exec .clearListEvent s = .next s))

/-- LIST_READ_REQUEST and LIST_READ_COMPLETE (R114, R125, R187): one place is reserved and one record read at a time; a
record in range is posted as RECORD, one below it only releases its place, one above it ends the stream, as does LAST, which
is the model's reading for a record below the range (log 22). That with no read in flight nothing is requested is the
model's choice (log 1). -/
def Obligations.ListReadStreams : Prop :=
  (∀ (s : State) (r : ListRead), s.editor.read = some r → r.atPort = false → s.editor.replies.length < 16 →
    (∀ q ∈ s.port.access.toList ++ s.port.requests, ∀ slot live, q ≠ .listRead slot live) →
    ((∀ a, s.store.splice ≠ .walking a ∧ s.store.splice ≠ .writing a) ∨
      (∀ e rest, s.store.spliceQueue = e :: rest → e.segment.control ≠ r.control)) →
    let requested (slot : Slot) : State := { s with
      editor := { s.editor with
        replies := s.editor.replies ++ [.reserved .record], read := some { r with atPort := true } }
      port := { s.port with requests := s.port.requests ++ [.listRead slot true] } }
    (∀ slot, r.next = some slot → GoesOnTo (exec .listReadRequest s) (requested slot)) ∧
    (r.next = none → (s.listOf r.control).count ≠ 0 →
      GoesOnTo (exec .listReadRequest s) (requested (s.listOf r.control).head)) ∧
    (r.next = none → (s.listOf r.control).count = 0 →
      GoesOnTo (exec .listReadRequest s) { s with editor := { s.editor with
        read := none
        replies := s.editor.replies.erase (.reserved .read) ++ [.held (.endOfRead r.count)] } })) ∧
  (∀ s : State, s.editor.read = none → exec .listReadRequest s = .next s) ∧
  (∀ (s : State) (r : ListRead) (slot : Slot),
    s.port.access = some (.listRead slot true) → s.editor.read = some r →
    let x := Memory.readSlot s.memory slot
    let freed := s.editor.replies.erase (.reserved .record)
    let goesOn (read : Option ListRead) (replies : List ReplyPlace) : Prop :=
      GoesOnTo (exec .listReadComplete s) { s with
        port := { s.port with access := none }
        editor := { s.editor with read := read, replies := replies } }
    let posted : List ReplyPlace := freed ++ [.held (.record x.frame x.kind x.level)]
    let ended (places : List ReplyPlace) (n : Nat) : List ReplyPlace :=
      places.erase (.reserved .read) ++ [.held (.endOfRead n)]
    (r.toFrame < x.frame → goesOn none (ended freed r.count)) ∧
    (r.fromFrame ≤ x.frame → x.frame ≤ r.toFrame → x.last = false →
      goesOn (some { r with next := some x.next, count := r.count + 1, atPort := false }) posted) ∧
    (r.fromFrame ≤ x.frame → x.frame ≤ r.toFrame → x.last = true → goesOn none (ended posted (r.count + 1))) ∧
    (x.frame < r.fromFrame → x.frame ≤ r.toFrame → x.last = false →
      goesOn (some { r with next := some x.next, atPort := false }) freed) ∧
    (x.frame < r.fromFrame → x.frame ≤ r.toFrame → x.last = true → goesOn none (ended freed r.count))) ∧
  (∀ (s : State) (slot : Slot), s.port.access = some (.listRead slot false) →
    GoesOnTo (exec .listReadComplete s) { s with port := { s.port with access := none } })

/-! ## The engine port (chapter 8) -/

/-- R148, R149 and R150, with the word of R199: BLOCK START latches the newest completed table, BLOCK END clears the latch,
and READ puts on the data output the entry of the latched table, or else of the published one, or NONE and 0 above 191. -/
def Obligations.EngineRequestsTaken : Prop :=
  (∀ (s : State) (b : BankId), s.engine.published = some b →
    exec .blockStart s = .next { s with engine := { s.engine with published := none, reading := some b } }) ∧
  (∀ s : State, s.engine.published = none → exec .blockStart s = .next s) ∧
  (∀ s : State, s.engine.reading = none → exec .blockEnd s = .next s) ∧
  (∀ (s : State) (b : BankId), s.engine.reading = some b → s.engine.published = none →
    exec .blockEnd s = .next { s with engine := { s.engine with published := some b, reading := none } }) ∧
  (∀ (s : State) (b z : BankId), s.engine.reading = some b → s.engine.published = some z →
    exec .blockEnd s = .next { s with engine := { s.engine with reading := none } }) ∧
  (∀ (s : State) (index : BitVec 8),
    ∃ word : BitVec 32,
      exec (.engineRead index) s = .next { s with engine := { s.engine with dataOut := word } } ∧
      (∀ (p : Fin 192) (b : BankId), index.toNat = p.val →
        (s.engine.reading = some b ∨ (s.engine.reading = none ∧ s.engine.published = some b)) →
        (s.entryOf b p).coefficient < 16777216 →
        word.extractLsb' 0 24 = BitVec.ofNat 24 (s.entryOf b p).coefficient ∧
        word.extractLsb' 24 4 = (match (s.entryOf b p).stem with
          | some i => BitVec.ofNat 4 i.val
          | none => 15#4) ∧
        word.extractLsb' 28 4 = 0#4) ∧
      (192 ≤ index.toNat → word = 0x0F000000#32))

/-! ## The links (chapters 9, 10 and 11) -/

/-- A frame arriving whole at a surface port (R154 to R157, R162): one that fails a link check is discarded; a valid one
brings the port UP or restarts its silence timer, and is finished, refused or admitted, in the order of R156. Symbols out of
a frame (R195): those before a start of frame, with no frame in progress, and a partial frame that a new start of frame
ends, are discarded; bytes go on from those received before. -/
def Obligations.SurfaceFrameReceived : Prop :=
  (∀ (s : State) (p : SurfaceId) (bytes : List Byte),
    let x := s.surfaceOf p
    let command := Instr.surfaceFrameReceived p
      (LineSymbol.startOfFrame :: (bytes.map LineSymbol.data ++ [LineSymbol.endOfFrame]))
    (parseFrame surfaceLength bytes = none →
      GoesOnTo (exec command s) (s.setSurface p { x with receiving := none })) ∧
    (∀ f : LinkFrame, parseFrame surfaceLength bytes = some f →
      ∃ y : SurfacePort,
        (x.link = .up → y = { x with receiving := none, silenceTimer := some (s.now + 120) }) ∧
        (x.link = .down →
          y = { x with
            receiving := none, link := .up, silenceTimer := some (s.now + 120), followPosition := none
            follow := y.follow
            transportNotice :=
              some { state := s.tracker.transport, frame := s.tracker.currentFrame, onLink := false } } ∧
          ∀ c, tget y.follow c =
            if s.visible p c then some { level := (s.recordOf c).presented, onLink := false } else tget x.follow c) ∧
        (let refused (reason : RefusalReason) : Prop := GoesOnTo (exec command s) (s.setSurface p
          { y with replies := y.replies ++
            (if x.replies.length < 16 then [{ seat := f.seat, message := .refused reason f.kind none }] else []) })
        let mapped : Prop := ∃ i : SeatId, f.seat = i.val + 1 ∧ (s.seatOf i).link = some p
        let takes : Prop := f.kind ∈ [kindHello, kindTouch, kindMove, kindRelease, kindBank, kindMode, kindQuery]
        (f.kind = kindIdle → GoesOnTo (exec command s) (s.setSurface p y)) ∧
        (f.kind ≠ kindIdle → ¬mapped → refused .notMapped) ∧
        (f.kind ≠ kindIdle → mapped → ¬takes → refused .badValue) ∧
        (mapped → takes → 32 ≤ x.inbound.length → refused .full) ∧
        (mapped → takes → x.inbound.length < 32 →
          ∃ b : SeatBody, seatBody f.kind f.payload = some b ∧ b.kind = f.kind ∧
            GoesOnTo (exec command s) (s.setSurface p { y with
              inbound := y.inbound ++ [{ seat := f.seat, body := b }]
              holdOut := if 24 ≤ x.inbound.length + 1 then true else x.holdOut }))))) ∧
  (∀ (s : State) (p : SurfaceId) (before rest : List LineSymbol),
    ((∀ y ∈ before, y ≠ .endOfFrame) →
      exec (.surfaceFrameReceived p (before ++ .startOfFrame :: rest)) s =
        exec (.surfaceFrameReceived p (.startOfFrame :: rest)) s) ∧
    ((s.surfaceOf p).receiving = none → (∀ y ∈ before, y ≠ .startOfFrame) →
      exec (.surfaceFrameReceived p (before ++ rest)) s = exec (.surfaceFrameReceived p rest) s)) ∧
  (∀ (s : State) (p : SurfaceId) (held bytes : List Byte),
    ((s.surfaceOf p).receiving = some held →
      exec (.surfaceFrameReceived p (bytes.map .data ++ [.endOfFrame])) s =
        exec (.surfaceFrameReceived p (.startOfFrame :: ((held ++ bytes).map .data ++ [.endOfFrame]))) s) ∧
    GoesOnTo (exec (.surfaceFrameReceived p (.startOfFrame :: bytes.map .data)) s)
      (s.setSurface p { s.surfaceOf p with receiving := some bytes }))

/-- A frame arriving whole at the editor port (R176, R177): discarded, or the port UP with its timer, and the frame
finished, refused or admitted. Symbols out of a frame, as at a surface port (R195). -/
def Obligations.EditorFrameReceived : Prop :=
  (∀ (s : State) (bytes : List Byte),
    let x := s.editor
    let command := Instr.editorFrameReceived
      (LineSymbol.startOfFrame :: (bytes.map LineSymbol.data ++ [LineSymbol.endOfFrame]))
    (parseFrame editorLength bytes = none → GoesOnTo (exec command s) { s with editor := { x with receiving := none } }) ∧
    (∀ f : LinkFrame, parseFrame editorLength bytes = some f →
      let y : EditorPort :=
        if x.link = .up then { x with receiving := none, silenceTimer := some (s.now + 120) }
        else { x with
          receiving := none, link := .up, silenceTimer := some (s.now + 120)
          flagNotice := if s.flagSet ≠ 0#8 then some false else x.flagNotice
          transportNotice :=
            some { state := s.tracker.transport, frame := s.tracker.currentFrame, onLink := false } }
      let refused (reason : RefusalReason) : Prop := GoesOnTo (exec command s) { s with editor :=
        { y with replies := x.replies ++
          (if x.replies.length < 16 then [.held (.refused reason f.kind none)] else []) } }
      let takes : Prop := f.kind ∈ [kindSetControl, kindSetStem, kindSetSeat, kindSetHub, kindListBegin, kindListRecord,
        kindListEnd, kindReadList, kindClearList, kindStatus, kindClearFlags, kindMixReset, kindLinkReset]
      (f.kind = kindIdle → GoesOnTo (exec command s) { s with editor := y }) ∧
      (f.kind ≠ kindIdle → f.seat ≠ 0 → refused .notMapped) ∧
      (f.kind ≠ kindIdle → f.seat = 0 → ¬takes → refused .badValue) ∧
      (f.seat = 0 → takes → 32 ≤ x.inbound.length → refused .full) ∧
      (f.seat = 0 → takes → x.inbound.length < 32 →
        ∃ c : EditorCommand, editorCommand f.kind f.payload = some c ∧
          GoesOnTo (exec command s) { s with editor := { y with
            inbound := x.inbound ++ [c]
            holdOut := if 24 ≤ x.inbound.length + 1 then true else x.holdOut } }))) ∧
  (∀ (s : State) (before rest : List LineSymbol),
    ((∀ y ∈ before, y ≠ .endOfFrame) →
      exec (.editorFrameReceived (before ++ .startOfFrame :: rest)) s =
        exec (.editorFrameReceived (.startOfFrame :: rest)) s) ∧
    (s.editor.receiving = none → (∀ y ∈ before, y ≠ .startOfFrame) →
      exec (.editorFrameReceived (before ++ rest)) s = exec (.editorFrameReceived rest) s)) ∧
  (∀ (s : State) (held bytes : List Byte),
    (s.editor.receiving = some held →
      exec (.editorFrameReceived (bytes.map .data ++ [.endOfFrame])) s =
        exec (.editorFrameReceived (.startOfFrame :: ((held ++ bytes).map .data ++ [.endOfFrame]))) s) ∧
    GoesOnTo (exec (.editorFrameReceived (.startOfFrame :: bytes.map .data)) s)
      { s with editor := { s.editor with receiving := some bytes } })

/-- The silence of a surface link (R57, R158, R160) and of the editor link (R177, R185). The model's: nothing happens while
a timer is stopped (log 1), the time of an expiry is that of its clock (log 2), a frame under way is finished without effect
(log 9), a frame partly received is kept (log 23), and LAST is clear in the return write of an aborted load's chain (log 8).
-/
def Obligations.SilenceExpires : Prop :=
  (∀ (s : State) (p : SurfaceId) (e : Nat), (s.surfaceOf p).silenceTimer = some e →
    ∃ t : State, GoesOnTo (exec (.silenceExpiry p) s) t ∧
      downPortEmpty (t.surfaceOf p) ∧ (t.surfaceOf p).link = .down ∧ (t.surfaceOf p).linkDown = true ∧
      (t.surfaceOf p).farHold = (s.surfaceOf p).farHold ∧ (t.surfaceOf p).receiving = (s.surfaceOf p).receiving ∧
      (t.surfaceOf p).sending = (s.surfaceOf p).sending.map (fun f => { f with source := .gone }) ∧
      (∀ q, q ≠ p → t.surfaceOf q = s.surfaceOf q) ∧
      (∀ c, t.touchOf c = (s.touchOf c).filter (fun r => (s.seatOf r.holder).link ≠ some p)) ∧
      (∀ i, t.seatOf i =
        if (s.seatOf i).link = some p then { s.seatOf i with heldTouches := 0 } else s.seatOf i) ∧
      (∀ c, t.liveOf c = s.liveOf c) ∧ t.arbiter.staleTimeout = s.arbiter.staleTimeout ∧
      t.editor = { s.editor with flagNotice :=
        (if (s.surfaceOf p).linkDown = false ∧ s.editor.link = .up then some false else s.editor.flagNotice) } ∧
      t = { s with now := max s.now e, arbiter := t.arbiter, surface := t.surface, editor := t.editor }) ∧
  (∀ (s : State) (p : SurfaceId), (s.surfaceOf p).silenceTimer = none → exec (.silenceExpiry p) s = .next s) ∧
  (∀ (s : State) (e : Nat), s.editor.silenceTimer = some e →
    ∃ t : State, exec .editorSilenceExpiry s = .next t ∧
      t.editor = { s.editor with
        link := .down, silenceTimer := none, inbound := [], holdOut := false, replies := [], flagNotice := none
        transportNotice := none, read := none, clear := none, waitingRecord := none, sending := t.editor.sending } ∧
      t.editor.sending = s.editor.sending.map (fun f => { f with source := .gone }) ∧
      (∀ l, s.store.load = some l → LoadAborted s (readsDropped s.port) l t) ∧
      (s.store.load = none → t.store = s.store ∧ t.port = readsDropped s.port) ∧
      t = { s with now := max s.now e, store := t.store, port := t.port, editor := t.editor }) ∧
  (∀ s : State, s.editor.silenceTimer = none → exec .editorSilenceExpiry s = .next s)

/-- What the transmit arbiter of a surface port begins when the port is UP, its link free and its far hold dropped: the head
reply, else the lowest-numbered control's notice, else the transport notice, else the follow entry after the follow
position, each marked as the entry on the link (R169 to R171). The editor port's arbiter begins the first held reply, past
reserved places; else FLAGS with the seven flags as they stand; else the transport notice (R179). Otherwise nothing changes.
FAR_HOLD_CHANGE sets the line, and the arbiter chooses. That it chooses in the event that drops the hold is the model's
reading (log 9). -/
def Obligations.ArbiterChooses : Prop :=
  (∀ (s : State) (p : SurfaceId) (raised : Bool),
    exec (.farHoldChange (.surface p) raised) s =
      .next (s.setSurface p (SurfacePort.transmit { s.surfaceOf p with farHold := raised }))) ∧
  (∀ (s : State) (raised : Bool),
    exec (.farHoldChange .editor raised) s =
      .next (State.transmitEditor { s with editor := { s.editor with farHold := raised } })) ∧
  (∀ x : SurfacePort,
    let free : Prop := x.link = .up ∧ x.sending = none ∧ x.farHold = false
    let begins (y : SurfacePort) (source : TxSource) (m : OutMessage) (seat : Nat) : Prop :=
      x.transmit = { y with sending := some { source := source, bytes := m.bytes seat } }
    (¬free → x.transmit = x) ∧
    (free →
      (∀ r rest, x.replies = r :: rest → begins x .reply r.message r.seat) ∧
      (∀ c e, x.replies = [] → tget x.notices c = some e → (∀ d, d < c → tget x.notices d = none) →
        begins { x with notices := tset x.notices c (some { e with onLink := true }) }
          (.notice c) (e.notice.message c) (e.seat.val + 1)) ∧
      (∀ n, x.replies = [] → (∀ d, tget x.notices d = none) → x.transportNotice = some n →
        begins { x with transportNotice := some { n with onLink := true } } .transport (.transport n.state n.frame) 0) ∧
      (∀ c e, x.replies = [] → (∀ d, tget x.notices d = none) → x.transportNotice = none → tget x.follow c = some e →
        ((∃ q, x.followPosition = some q ∧ q < c ∧ ∀ d, q < d → d < c → tget x.follow d = none) ∨
          ((∀ q d, x.followPosition = some q → q < d → tget x.follow d = none) ∧
            ∀ d, d < c → tget x.follow d = none)) →
        begins { x with follow := tset x.follow c (some { e with onLink := true }) }
          (.follow c e.level) (.follow c e.level) 0) ∧
      (x.replies = [] → (∀ d, tget x.notices d = none) → x.transportNotice = none → (∀ d, tget x.follow d = none) →
        x.transmit = x))) ∧
  (∀ s : State,
    let x := s.editor
    let free : Prop := x.link = .up ∧ x.sending = none ∧ x.farHold = false
    let begins (y : EditorPort) (source : TxSource) (m : OutMessage) : Prop :=
      s.transmitEditor = { s with editor := { y with sending := some { source := source, bytes := m.bytes 0 } } }
    let nothingHeld : Prop := ∀ r ∈ x.replies, ∃ o, r = .reserved o
    (¬free → s.transmitEditor = s) ∧
    (free →
      (∀ front back m, x.replies = front ++ .held m :: back → (∀ r ∈ front, ∃ o, r = .reserved o) → begins x .reply m) ∧
      (nothingHeld → x.flagNotice ≠ none → begins { x with flagNotice := some true } .flags (.flags s.flagSet)) ∧
      (∀ n, nothingHeld → x.flagNotice = none → x.transportNotice = some n →
        begins { x with transportNotice := some { n with onLink := true } } .transport (.transport n.state n.frame)) ∧
      (nothingHeld → x.flagNotice = none → x.transportNotice = none → s.transmitEditor = s)))

/-- The end of a transmission (R164, R169, R171, R179): the entry of the frame leaves its collection, unless it was replaced
meanwhile; a FOLLOW writes the follow position and the last-sent table; the link is free, and the arbiter chooses again, so
the next frame is the one ArbiterChooses gives, or none. The model's: with nothing being sent nothing happens (log 1), the
end of a frame whose port went DOWN changes no collection (log 9), and a flag notice or transport notice renewed meanwhile
stays (log 10). -/
def Obligations.FramesSent : Prop :=
  (∀ (s : State) (p : SurfaceId) (bytes : List Byte),
    let x := s.surfaceOf p
    let y : SurfacePort := { x with sending := none }
    let ends (source : TxSource) (z : SurfacePort) : Prop :=
      x.sending = some { source := source, bytes := bytes } → exec (.surfaceFrameSent p) s = .next (s.setSurface p z.transmit)
    ends .reply { y with replies := x.replies.tail } ∧
    (∀ c e, tget x.notices c = some e →
      ends (.notice c) (if e.onLink then { y with notices := tset x.notices c none } else y)) ∧
    (∀ n, x.transportNotice = some n → ends .transport (if n.onLink then { y with transportNotice := none } else y)) ∧
    (∀ c l, ends (.follow c l) { y with
      followPosition := some c, lastSent := tset x.lastSent c (some l)
      follow := match tget x.follow c with
        | some e => if e.onLink then tset x.follow c none else x.follow
        | none => x.follow }) ∧
    ends .gone y) ∧
  (∀ (s : State) (p : SurfaceId), (s.surfaceOf p).sending = none → exec (.surfaceFrameSent p) s = .next s) ∧
  (∀ (s : State) (bytes : List Byte),
    let x := s.editor
    let y : EditorPort := { x with sending := none }
    let ends (source : TxSource) (z : EditorPort) : Prop :=
      x.sending = some { source := source, bytes := bytes } →
        exec .editorFrameSent s = .next (State.transmitEditor { s with editor := z })
    (∀ (front back : List ReplyPlace) (m : OutMessage), x.replies = front ++ .held m :: back →
      (∀ r ∈ front, ∃ o, r = .reserved o) → ends .reply { y with replies := front ++ back }) ∧
    ends .flags (if x.flagNotice = some true then { y with flagNotice := none } else y) ∧
    (∀ n, x.transportNotice = some n → ends .transport (if n.onLink then { y with transportNotice := none } else y)) ∧
    ends .gone y) ∧
  (∀ s : State, s.editor.sending = none → exec .editorFrameSent s = .next s)

/-- A frame under way is finished: every command but its own FRAME_SENT keeps it, and where its port goes DOWN it loses only
the entry it was made from (R158, R159, R170, R177, R179; the entry, log 9). At POWER_ON_RESET it is dropped, the model's
choice (log 25). -/
def Obligations.FrameUnderWayKept : Prop :=
  (∀ (c : Instr) (s t : State) (p : SurfaceId) (f : Transmission),
    c ≠ .surfaceFrameSent p → c ≠ .powerOnReset → (s.surfaceOf p).sending = some f → exec c s = .next t →
    (t.surfaceOf p).sending = some f ∨
      ((t.surfaceOf p).link = .down ∧ (t.surfaceOf p).sending = some { f with source := .gone })) ∧
  (∀ (c : Instr) (s t : State) (f : Transmission),
    c ≠ .editorFrameSent → c ≠ .powerOnReset → s.editor.sending = some f → exec c s = .next t →
    t.editor.sending = some f ∨ (t.editor.link = .down ∧ t.editor.sending = some { f with source := .gone })) ∧
  (∀ (s t : State) (p : SurfaceId), exec .powerOnReset s = .next t →
    (t.surfaceOf p).sending = none ∧ t.editor.sending = none)

/-! ## Editor commands (chapter 10) -/

/-- SET CONTROL and SET STEM (R11, R14 to R17, R180): checked whole; when taken, every field carried takes its value, every
other is kept, and DONE is posted; paths that become SAFE have their segments closed at once. -/
def Obligations.ConfigurationCommandsTaken : Prop :=
  (∀ (s : State) (f : SetControlFields) (c : ControlId),
    HandedToPart s (.setControl f) → f.control.toNat = c.val →
    let legal : Prop :=
      (f.hasMode = true → f.mode.toNat ≤ 4) ∧ (f.hasGlide = true → f.glide.toNat ≤ 63) ∧
      (f.hasStem = true → f.stem.toNat ≤ 11 ∨ f.stem.toNat = 255) ∧
      (f.hasGroupA = true → f.groupA.toNat ≤ 15 ∨ f.groupA.toNat = 255) ∧
      (f.hasGroupB = true → f.groupB.toNat ≤ 15 ∨ f.groupB.toNat = 255) ∧
      (c.val < 16 → (f.hasStem = true → f.stem.toNat = 255) ∧ (f.hasGroupA = true → f.groupA.toNat = 255) ∧
        (f.hasGroupB = true → f.groupB.toNat = 255))
    let taken : State := { s with editor := tookCommand s.editor [] }
    (legal →
      ∃ x : ControlConfig,
        (f.hasMode = true → modeCode x.mode = f.mode) ∧ (f.hasMode = false → x.mode = (s.configOf c).mode) ∧
        (f.hasGlide = true → x.glideFrames = f.glide.toNat) ∧
        (f.hasGlide = false → x.glideFrames = (s.configOf c).glideFrames) ∧
        (f.hasStem = true → x.stem.map Fin.val = if f.stem.toNat = 255 then none else some f.stem.toNat) ∧
        (f.hasStem = false → x.stem = (s.configOf c).stem) ∧
        (f.hasGroupA = true → x.groupA.map Fin.val = if f.groupA.toNat = 255 then none else some f.groupA.toNat) ∧
        (f.hasGroupA = false → x.groupA = (s.configOf c).groupA) ∧
        (f.hasGroupB = true → x.groupB.map Fin.val = if f.groupB.toNat = 255 then none else some f.groupB.toNat) ∧
        (f.hasGroupB = false → x.groupB = (s.configOf c).groupB) ∧
        (let u := taken.setConfig c x
         let v := if u.isSafe c = true ∧ s.isSafe c = false then (u.closeOutside c).endBarredPunchIn else u
         let w := v.settlePool taken
         GoesOnTo (exec .setControl s)
           { w with editor := { w.editor with replies := w.editor.replies ++ [.held (.done kindSetControl)] } })) ∧
    (¬legal → GoesOnTo (exec .setControl s) { s with
      editor := tookCommand s.editor [.held (.refused .badValue kindSetControl (some f.control))] })) ∧
  (∀ (s : State) (f : SetControlFields), HandedToPart s (.setControl f) → 207 < f.control.toNat →
    GoesOnTo (exec .setControl s) { s with
      editor := tookCommand s.editor [.held (.refused .noControl kindSetControl (some f.control))] }) ∧
  (∀ (s : State) (stem safe : Byte), HandedToPart s (.setStem stem safe) →
    let taken : State := { s with editor := tookCommand s.editor [] }
    (∀ i : StemId, stem.toNat = i.val → safe.toNat ≤ 1 →
      let u := { taken with pass := { s.pass with safe := tset s.pass.safe i (safe.toNat == 1) } }
      let members (c : ControlId) : Bool := decide (16 ≤ c.val) && (s.configOf c).stem == some i
      let v := if safe.toNat = 1 ∧ tget s.pass.safe i = false then (u.closeWhere members).endBarredPunchIn else u
      let w := v.settlePool taken
      GoesOnTo (exec .setStem s)
        { w with editor := { w.editor with replies := w.editor.replies ++ [.held (.done kindSetStem)] } }) ∧
    (11 < stem.toNat ∨ 1 < safe.toNat → GoesOnTo (exec .setStem s) { s with
      editor := tookCommand s.editor [.held (.refused .badValue kindSetStem none)] }))

/-- SET SEAT and SET HUB (R22, R41, R57, R168, R181): a remap releases the seat's touches, writes link and rank, and sets
the bank base to 0; the same link only takes the rank. SET HUB writes its four settings together or is refused. -/
def Obligations.SeatAndHubSettingsTaken : Prop :=
  (∀ (s : State) (seat link rank : Byte), HandedToPart s (.setSeat seat link rank) →
    let refused (reason : RefusalReason) : Prop :=
      GoesOnTo (exec .setSeat s) { s with editor := tookCommand s.editor [.held (.refused reason kindSetSeat none)] }
    let legal : Prop := (1 ≤ seat.toNat ∧ seat.toNat ≤ 8) ∧ (link.toNat ≤ 3 ∨ link.toNat = 255) ∧ rank.toNat ≤ 3
    (¬legal → refused .badValue) ∧
    (∀ (i : SeatId) (l : Option SurfaceId), legal → seat.toNat = i.val + 1 →
      l.map Fin.val = (if link.toNat = 255 then none else some link.toNat) →
      let others (p : SurfaceId) : Nat :=
        (List.finRange 8).countP (fun j => decide (j ≠ i) && (s.seatOf j).link == some p)
      (∀ p, l = some p → 3 ≤ others p → refused .full) ∧
      ((∀ p, l = some p → others p < 3) →
        ∃ t : State, GoesOnTo (exec .setSeat s) t ∧
          ((s.seatOf i).link = l →
            t = { s.setSeat i { s.seatOf i with rank := rank.toNat } with
                  editor := tookCommand s.editor [.held (.done kindSetSeat)] }) ∧
          ((s.seatOf i).link ≠ l →
            t.seatOf i = { link := l, rank := rank.toNat, bankBase := 0, heldTouches := 0 } ∧
            (∀ j, j ≠ i → t.seatOf j = s.seatOf j) ∧
            (∀ c, t.touchOf c = (s.touchOf c).filter (fun r => r.holder ≠ i)) ∧
            (∀ c, t.liveOf c = s.liveOf c) ∧ t.arbiter.staleTimeout = s.arbiter.staleTimeout ∧
            (∀ q : SurfaceId, (t.surfaceOf q) = { s.surfaceOf q with follow := (t.surfaceOf q).follow } ∧
              ∀ c, tget (t.surfaceOf q).follow c =
                if (s.surfaceOf q).link = .up ∧ t.visible q c = true ∧ s.visible q c = false then
                  some { level := (s.recordOf c).presented, onLink := false }
                else if (s.surfaceOf q).link = .up ∧ t.visible q c = false ∧ s.visible q c = true then none
                else tget (s.surfaceOf q).follow c) ∧
            t = { s with arbiter := t.arbiter, surface := t.surface,
                         editor := tookCommand s.editor [.held (.done kindSetSeat)] })))) ∧
  (∀ (s : State) (rate acquire limit : Byte) (stale : Nat), HandedToPart s (.setHub rate acquire limit stale) →
    let rolling := s.tracker.transport = .play ∨ s.tracker.transport = .freewheel
    let legal := (rate.toNat = 24 ∨ rate.toNat = 25 ∨ rate.toNat = 30) ∧ (1 ≤ acquire.toNat ∧ acquire.toNat ≤ 8) ∧
      limit.toNat ≤ 30 ∧ stale ≤ 4095
    let answered (m : OutMessage) := tookCommand s.editor [.held m]
    (rolling → GoesOnTo (exec .setHub s) { s with editor := answered (.refused .rolling kindSetHub none) }) ∧
    (¬rolling → ¬legal → GoesOnTo (exec .setHub s) { s with editor := answered (.refused .badValue kindSetHub none) }) ∧
    (¬rolling → legal → GoesOnTo (exec .setHub s) { s with
      tracker := { s.tracker with
        rate := rate.toNat, acquireCount := acquire.toNat, freewheelLimit := limit.toNat }
      arbiter := { s.arbiter with staleTimeout := stale }
      editor := answered (.done kindSetHub) }))

/-- LIST BEGIN (R182): refused by its table in order, or a load begins with its outcome place reserved. LIST RECORD (R121,
R183): refused, aborting the load, given a slot, or waiting for one and stalling the port. LIST END (R122, R184): refused,
aborting the load with COUNT, or the held tail posted with LAST. An aborted load's chain returns with one write, that of the
held tail (R123); LAST clear in it is the model's reading (log 8). That a record waits while a closed segment or the pass
waits for a slot, whatever the queue holds, is the model's reading (log 13). The last frame 0 of a load without a record,
and LAST clear and next slot 0 in a held tail, are the model's choice (log 27). -/
def Obligations.ListLoadCommandsTaken : Prop :=
  (∀ (s : State) (control : Byte) (count : Nat), HandedToPart s (.listBegin control count) →
    let refused (reason : RefusalReason) : Prop := GoesOnTo (exec .listBegin s)
      { s with editor := tookCommand s.editor [.held (.refused reason kindListBegin (some control))] }
    (207 < control.toNat → refused .noControl) ∧
    (∀ c : ControlId, control.toNat = c.val →
      let busy : Prop := s.store.load ≠ none ∨ s.spliceQueued c = true ∨ ∃ r, s.editor.read = some r ∧ r.control = c
      (count = 0 → refused .badValue) ∧
      (count ≠ 0 → s.store.storeState ≠ .ready → refused .notReady) ∧
      (count ≠ 0 → s.store.storeState = .ready → s.tracker.transport ≠ .stopped → refused .rolling) ∧
      (count ≠ 0 → s.store.storeState = .ready → s.tracker.transport = .stopped → busy → refused .busy) ∧
      (count ≠ 0 → s.store.storeState = .ready → s.tracker.transport = .stopped → ¬busy →
        GoesOnTo (exec .listBegin s) { s with
          store := { s.store with
            load := some { control := c, expected := count, received := 0, first := none, tail := none, lastFrame := 0,
                           endTaken := false } }
          editor := tookCommand s.editor [.reserved .load] }))) ∧
  (∀ (s : State) (r : LoadRecord), HandedToPart s (.listRecord r) →
    let taken : State := { s with editor := tookCommand s.editor [] }
    let refused (reason : RefusalReason) : Prop := GoesOnTo (exec .listRecord s)
      { s with editor := tookCommand s.editor [.held (.refused reason kindListRecord none)] }
    let aborted (l : Load) (reason : AbortReason) : Prop :=
      ∃ t : State, GoesOnTo (exec .listRecord s) t ∧ LoadAborted s s.port l t ∧
        t = { s with
          store := t.store, port := t.port
          editor := { tookCommand s.editor [] with
            replies := s.editor.replies.erase (.reserved .load) ++ [.held (.aborted kindListBegin reason)] } }
    (s.store.load = none → refused .noLoad) ∧
    (∀ l, s.store.load = some l →
      (l.endTaken = true → refused .noLoad) ∧
      (l.endTaken = false →
        let legal : Prop := r.kind.toNat ≤ 1 ∧ r.frame ≤ 16777215
        (¬legal → refused .badValue) ∧
        (legal → l.received = l.expected → refused .count) ∧
        (legal → l.received ≠ l.expected → 0 < l.received → r.frame ≤ l.lastFrame → aborted l .order) ∧
        (legal → l.received ≠ l.expected → (l.received = 0 ∨ l.lastFrame < r.frame) → s.totalFree = 0 →
          aborted l .pool) ∧
        (∀ slot rest, legal → l.received ≠ l.expected → (l.received = 0 ∨ l.lastFrame < r.frame) →
          s.store.freeQueue = slot :: rest → s.closingWaiters = 0 → s.pass.run.wait ≠ some .freeSlot →
          ∃ t : State, GoesOnTo (exec .listRecord s) (t.settlePool taken) ∧ SlotsTaken taken t rest 1 ∧
            t.store = { s.store with
              freeQueue := rest, poolLow := t.store.poolLow, refill := t.store.refill
              load := some { l with
                received := l.received + 1
                first := some (l.first.getD slot)
                tail := some { slot := slot, record :=
                  if r.kind = 1#8 then { frame := r.frame, kind := .gap, level := 0, last := false, next := 0 }
                  else { frame := r.frame, kind := .level, last := false, next := 0
                         level := if 384 < r.level then 384 else if r.level ≤ -4608 then -4608 else r.level } }
                lastFrame := r.frame } } ∧
            t.port = { s.port with requests := s.port.requests ++ (match l.tail with
              | some x => [.loadWrite { slot := x.slot, record := { x.record with last := false, next := slot } }]
              | none => []) } ∧
            t = { taken with store := t.store, port := t.port, editor := t.editor }) ∧
        (legal → l.received ≠ l.expected → (l.received = 0 ∨ l.lastFrame < r.frame) → s.totalFree ≠ 0 →
          (s.store.freeQueue = [] ∨ s.closingWaiters ≠ 0 ∨ s.pass.run.wait = some .freeSlot) →
          GoesOnTo (exec .listRecord s)
            { s with editor := { tookCommand s.editor [] with waitingRecord := some r } })))) ∧
  (∀ s : State, HandedToPart s .listEnd →
    let refused : Prop := GoesOnTo (exec .listEnd s)
      { s with editor := tookCommand s.editor [.held (.refused .noLoad kindListEnd none)] }
    (s.store.load = none → refused) ∧
    (∀ l, s.store.load = some l →
      (l.endTaken = true → refused) ∧
      (l.endTaken = false → l.received ≠ l.expected →
        ∃ t : State, GoesOnTo (exec .listEnd s) t ∧ LoadAborted s s.port l t ∧
          t = { s with
            store := t.store, port := t.port
            editor := { tookCommand s.editor [] with
              replies := s.editor.replies.erase (.reserved .load) ++ [.held (.aborted kindListBegin .count)] } }) ∧
      (∀ h, l.endTaken = false → l.received = l.expected → l.tail = some h →
        GoesOnTo (exec .listEnd s) { s with
          store := { s.store with load := some { l with endTaken := true } }
          port := { s.port with requests := s.port.requests ++
            [.loadWrite { slot := h.slot, record := { h.record with last := true, next := 0 } }] }
          editor := tookCommand s.editor [] })))

/-- READ LIST and CLEAR LIST (R124, R186 to R188): refused by their tables in order; a read begins with its outcome place
reserved; a clear is done at its take, the list returned as one chain with its return write (ChainsReturn; its free values
and LAST clear, log 8), unless a fetch or walk of the control is in flight, when it waits and stalls. -/
def Obligations.ReadAndClearListTaken : Prop :=
  (∀ (s : State) (control : Byte) (lo hi : Frame), HandedToPart s (.readList control lo hi) →
    let refused (reason : RefusalReason) : Prop := GoesOnTo (exec .readList s)
      { s with editor := tookCommand s.editor [.held (.refused reason kindReadList (some control))] }
    (207 < control.toNat → refused .noControl) ∧
    (∀ c : ControlId, control.toNat = c.val →
      let legal : Prop := lo ≤ 16777215 ∧ hi ≤ 16777215 ∧ lo ≤ hi
      let busy : Prop := s.editor.read ≠ none ∨ ∃ l, s.store.load = some l ∧ l.control = c
      (¬legal → refused .badValue) ∧
      (legal → s.tracker.transport ≠ .stopped → refused .rolling) ∧
      (legal → s.tracker.transport = .stopped → busy → refused .busy) ∧
      (legal → s.tracker.transport = .stopped → ¬busy → (s.listOf c).count ≠ 0 →
        GoesOnTo (exec .readList s) { s with editor := { tookCommand s.editor [.reserved .read] with
          read := some { control := c, fromFrame := lo, toFrame := hi, next := none, count := 0, atPort := false } } }) ∧
      (legal → s.tracker.transport = .stopped → ¬busy → (s.listOf c).count = 0 → s.spliceRunning c = false →
        ReplyPlace.reserved .read ∉ s.editor.replies →
        GoesOnTo (exec .readList s) { s with editor := tookCommand s.editor [.held (.endOfRead 0)] }))) ∧
  (∀ (s : State) (control : Byte), HandedToPart s (.clearList control) →
    let refused (reason : RefusalReason) : Prop := GoesOnTo (exec .clearList s)
      { s with editor := tookCommand s.editor [.held (.refused reason kindClearList (some control))] }
    (207 < control.toNat → refused .noControl) ∧
    (∀ c : ControlId, control.toNat = c.val →
      let busy : Prop := s.store.load ≠ none ∨ s.spliceQueued c = true ∨ ∃ r, s.editor.read = some r ∧ r.control = c
      let admitted : Prop := s.store.storeState = .ready ∧ s.tracker.transport = .stopped ∧ ¬busy
      let engaged : Prop := s.fetchInFlight c = true ∨ ∃ w, s.cursors.walk = some w ∧ w.control = c
      (s.store.storeState ≠ .ready → refused .notReady) ∧
      (s.store.storeState = .ready → s.tracker.transport ≠ .stopped → refused .rolling) ∧
      (s.store.storeState = .ready → s.tracker.transport = .stopped → busy → refused .busy) ∧
      (admitted → (s.listOf c).count = 0 →
        GoesOnTo (exec .clearList s)
          { s.setCursor c { state := .ready, current := none, lookahead := .endOfList, target := none } with
            editor := tookCommand s.editor [.held (.done kindClearList)] }) ∧
      (admitted → (s.listOf c).count ≠ 0 → engaged →
        GoesOnTo (exec .clearList s)
          { s with editor := { tookCommand s.editor [.reserved .clear] with clear := some c } }) ∧
      (admitted → (s.listOf c).count ≠ 0 → ¬engaged →
        ∃ t : State, GoesOnTo (exec .clearList s) t ∧ t.listOf c = { head := 0, tail := 0, count := 0 } ∧
          t.cursorOf c = { state := .ready, current := none, lookahead := .endOfList, target := none } ∧
          (∀ d, d ≠ c → t.listOf d = s.listOf d ∧ t.cursorOf d = s.cursorOf d) ∧
          t.totalFree = s.totalFree + (s.listOf c).count ∧ t.store.freeHead = (s.listOf c).head ∧
          (let u := listReturned s c
           t.store = { u.store with descriptors := t.store.descriptors } ∧ t.port = u.port ∧ t.freeDraws = u.freeDraws) ∧
          t.cursors.walk = s.cursors.walk ∧
          t = { s with store := t.store, port := t.port, cursors := t.cursors, freeDraws := t.freeDraws,
                       editor := tookCommand s.editor [.held (.done kindClearList)] })))

/-- STATUS and CLEAR FLAGS (R189, R190, R194, R197): STATUS posts what stands at its take and changes nothing; CLEAR FLAGS
clears the flags named, keeps the others, and posts DONE. -/
def Obligations.StatusAndClearFlagsTaken : Prop :=
  (∀ s : State, HandedToPart s .status →
    ∃ r : StatusReport,
      r.transport = s.tracker.transport ∧ r.currentFrame = s.tracker.currentFrame ∧
      (r.ready = true ↔ s.store.storeState = .ready) ∧ r.totalFree = s.store.freeQueue.length + s.store.memoryCount ∧
      r.spliceLength = s.store.spliceQueue.length ∧
      r.relocateSize = (List.finRange 208).countP (fun c => (s.cursorOf c).state == .relocating) ∧
      (∀ p : SurfaceId, r.links.getLsbD p.val = ((s.surfaceOf p).link == .up)) ∧
      r.links.getLsbD 4 = (s.editor.link == .up) ∧
      (r.flags.getLsbD 0 = s.tracker.lockLost ∧ r.flags.getLsbD 1 = s.tracker.passOverrun ∧
        r.flags.getLsbD 2 = s.store.poolLow ∧ ∀ p : SurfaceId, r.flags.getLsbD (3 + p.val) = (s.surfaceOf p).linkDown) ∧
      GoesOnTo (exec .status s) { s with editor := tookCommand s.editor [.held (.status r)] }) ∧
  (∀ (s : State) (set : Byte), HandedToPart s (.clearFlags set) →
    GoesOnTo (exec .clearFlags s) { s with
      tracker := { s.tracker with
        lockLost := if set.getLsbD 0 then false else s.tracker.lockLost
        passOverrun := if set.getLsbD 1 then false else s.tracker.passOverrun }
      store := { s.store with poolLow := if set.getLsbD 2 then false else s.store.poolLow }
      surface := tbuild (fun p => { s.surfaceOf p with
        linkDown := if set.getLsbD (3 + p.val) then false else (s.surfaceOf p).linkDown })
      editor := tookCommand s.editor [.held (.done kindClearFlags)] })

/-- MIX RESET (R58, R82, R83, R100, R152, R192): touches, pass, evaluation records, open segments, load, bar and flags are
reset, every cursor but a PARKED one relocates, and the rest is kept. Each discarded segment leaves its closing write and
the return write of its chain at the memory port (ChainsReturn says what a discard does), a load returns its chain with one
write, and walk reads at the port will be dropped; their order among the segments is the model's choice (log 17), and LAST
clear in a return write is its reading (log 8). -/
def Obligations.MixResetTaken : Prop :=
  ∀ s : State, HandedToPart s .mixReset →
    ∃ t : State, GoesOnTo (exec .mixReset s) t ∧
      (∀ c, t.touchOf c = none ∧ t.liveOf c = s.liveOf c ∧ t.segmentOf c = none ∧ t.listOf c = s.listOf c ∧
        t.recordOf c = { presented := -4608, effective := -4608, storedUsed := none, trimOffset := 0, glide := none,
                         latch := false, latePunch := false, previousMode := (s.recordOf c).previousMode,
                         previousHeld := false, evaluatedFrame := none }) ∧
      (∀ i, t.seatOf i = { s.seatOf i with heldTouches := 0 }) ∧ t.arbiter.staleTimeout = s.arbiter.staleTimeout ∧
      t.pass.run = { inFlight := false, frame := none, position := none, wait := none, underWay := none } ∧
      t.pass.config = s.pass.config ∧ t.pass.safe = s.pass.safe ∧ t.writer.closeAllBar = false ∧
      t.engine = { s.engine with building := none } ∧
      t.tracker = { s.tracker with pendingFrame := none, lockLost := false, passOverrun := false } ∧
      t.store.poolLow = false ∧ t.store.load = none ∧ t.store.spliceQueue = s.store.spliceQueue ∧
      t.store.splice = s.store.splice ∧ t.store.freeQueue = s.store.freeQueue ∧
      t.store.storeState = s.store.storeState ∧
      t.totalFree = s.totalFree + ((List.finRange 208).map (fun c => match s.segmentOf c with
        | some g => g.count
        | none => 0)).sum + (match s.store.load with
          | some l => if l.first.isSome ∧ l.tail.isSome then l.received else 0
          | none => 0) ∧
      (∀ c, (s.cursorOf c).state ≠ .parked →
        t.cursorOf c = if (s.listOf c).count = 0 then
            { state := .ready, current := none, lookahead := .endOfList, target := none }
          else { s.cursorOf c with state := .relocating, target := none }) ∧
      (∀ c, (s.cursorOf c).state = .parked → t.cursorOf c = s.cursorOf c) ∧ t.cursors.walk = none ∧
      (let discarded := (List.finRange 208).foldl State.discardSegment s
       let left : State := { discarded with store := { discarded.store with poolLow := false } }
       (s.store.load = none →
         t.store = left.store ∧ t.port = walksDropped discarded.port ∧ t.freeDraws = discarded.freeDraws) ∧
       (∀ l, s.store.load = some l →
         LoadAborted left (walksDropped discarded.port) l t ∧ t.freeDraws = discarded.freeDraws)) ∧
      (∀ c g, s.segmentOf c = some g → .closing none (tailWrite g g.reserve) ∈ t.port.requests ∧
        ∃ r : Record, r.last = false ∧ .chainReturn .discard { slot := g.reserve, record := r } ∈ t.port.requests) ∧
      (∀ p, t.surfaceOf p = { s.surfaceOf p with linkDown := false }) ∧
      (s.store.load = none → t.editor = tookCommand s.editor [.held (.done kindMixReset)]) ∧
      (s.store.load ≠ none → t.editor = { tookCommand s.editor [] with
        waitingRecord := none
        replies := s.editor.replies.erase (.reserved .load) ++
          [.held (.aborted kindListBegin .reset), .held (.done kindMixReset)] }) ∧
      t.memory = s.memory ∧ t.now = s.now ∧ t.pending = s.pending

/-- LINK RESET (R159, R177, R193): a surface port takes its DOWN state with its seats' touches released, LINK_DOWN and every
other port kept, and DONE is posted; port 4 is the editor port's own DOWN, with no reply: a load is aborted and its chain
returned with one write, and list reads at the memory port will be dropped; any other number is refused. That a frame under
way loses its entry (log 9), that a frame partly received is kept (log 23), and LAST clear in the return write of an aborted
load's chain (log 8) are the model's readings. -/
def Obligations.LinkResetTaken : Prop :=
  ∀ (s : State) (port : Byte), HandedToPart s (.linkReset port) →
    (∀ p : SurfaceId, port.toNat = p.val →
      ∃ t : State, GoesOnTo (exec .linkReset s) t ∧
        downPortEmpty (t.surfaceOf p) ∧ (t.surfaceOf p).link = .down ∧
        (t.surfaceOf p).linkDown = (s.surfaceOf p).linkDown ∧ (t.surfaceOf p).farHold = (s.surfaceOf p).farHold ∧
        (t.surfaceOf p).receiving = (s.surfaceOf p).receiving ∧
        (t.surfaceOf p).sending = (s.surfaceOf p).sending.map (fun f => { f with source := .gone }) ∧
        (∀ q, q ≠ p → t.surfaceOf q = s.surfaceOf q) ∧
        (∀ c, t.touchOf c = (s.touchOf c).filter (fun r => (s.seatOf r.holder).link ≠ some p)) ∧
        (∀ i, t.seatOf i =
          if (s.seatOf i).link = some p then { s.seatOf i with heldTouches := 0 } else s.seatOf i) ∧
        (∀ c, t.liveOf c = s.liveOf c) ∧ t.arbiter.staleTimeout = s.arbiter.staleTimeout ∧
        t = { s with arbiter := t.arbiter, surface := t.surface,
                     editor := tookCommand s.editor [.held (.done kindLinkReset)] }) ∧
    (port.toNat = 4 →
      ∃ t : State, GoesOnTo (exec .linkReset s) t ∧
        t.editor = { s.editor with
          link := .down, silenceTimer := none, inbound := [], holdOut := false, replies := [], flagNotice := none
          transportNotice := none, read := none, clear := none, waitingRecord := none
          sending := s.editor.sending.map (fun f => { f with source := .gone }) } ∧
        (∀ l, s.store.load = some l → LoadAborted s (readsDropped s.port) l t) ∧
        (s.store.load = none → t.store = s.store ∧ t.port = readsDropped s.port) ∧
        t = { s with store := t.store, port := t.port, editor := t.editor }) ∧
    (4 < port.toNat → GoesOnTo (exec .linkReset s)
      { s with editor := tookCommand s.editor [.held (.refused .badValue kindLinkReset none)] })

/-! ## Formats (chapter 11) and invariants of every step -/

/-- R154 and R195: the frame made for a seat number, a kind and a payload passes the link checks of a receiver that knows
the kind's length, and reads as just these; and whatever passes is a frame whose fields agree, its CRC included. Bits 7 to 4
of the seat byte are sent as 0. The CRC starts from 0xFFFF and divides by x^16 + x^12 + x^5 + 1, most significant bit of
each byte first, neither reflected nor inverted. -/
def Obligations.LinkFrameRoundTrip : Prop :=
  (∀ (lengthOf : Byte → Option Nat) (seat : Nat) (kind : Byte) (payload : List Byte),
    seat < 16 → payload.length < 256 → (lengthOf kind = none ∨ lengthOf kind = some payload.length) →
    parseFrame lengthOf (frameBytes seat kind payload) = some { seat := seat, kind := kind, payload := payload }) ∧
  (∀ (lengthOf : Byte → Option Nat) (bs : List Byte) (f : LinkFrame), parseFrame lengthOf bs = some f →
    f.seat < 16 ∧ f.payload.length < 256 ∧ (lengthOf f.kind = none ∨ lengthOf f.kind = some f.payload.length) ∧
    ∃ first : Byte, first.toNat % 16 = f.seat ∧
      bs = (first :: f.kind :: byteOf f.payload.length :: f.payload) ++
        bytes2 (crc16 (first :: f.kind :: byteOf f.payload.length :: f.payload)).toNat) ∧
  (∀ (seat : Nat) (kind : Byte) (payload : List Byte), seat < 16 →
    (frameBytes seat kind payload).head? = some (BitVec.ofNat 8 seat)) ∧
  (let shift (crc : BitVec 16) : BitVec 16 := if crc.getLsbD 15 then (crc <<< 1) ^^^ 0x1021#16 else crc <<< 1
   crc16 [] = 0xFFFF#16 ∧
   ∀ (bs : List Byte) (b : Byte), crc16 (bs ++ [b]) =
     shift (shift (shift (shift (shift (shift (shift (shift (crc16 bs ^^^ (b.setWidth 16 <<< 8))))))))))

/-- The codes of R194, and the kind codes, lengths and payloads of R196 and R197: what each inbound payload carries, that no
other kind or length carries anything, and the bytes of each message sent, high byte first. -/
def Obligations.MessagesFormatted : Prop :=
  ([kindHello, kindIdle, kindTouch, kindMove, kindRelease, kindBank, kindMode, kindQuery] =
     [0x01#8, 0x02#8, 0x03#8, 0x04#8, 0x05#8, 0x06#8, 0x07#8, 0x08#8] ∧
   [kindSetControl, kindSetStem, kindSetSeat, kindSetHub, kindListBegin, kindListRecord, kindListEnd, kindReadList,
     kindClearList, kindStatus, kindClearFlags, kindMixReset, kindLinkReset] =
     [0x41#8, 0x42#8, 0x43#8, 0x44#8, 0x45#8, 0x46#8, 0x47#8, 0x48#8, 0x49#8, 0x4A#8, 0x4B#8, 0x4C#8, 0x4D#8] ∧
   [Mode.off, .read, .touch, .latch, .trim].map modeCode = [0#8, 1#8, 2#8, 3#8, 4#8] ∧
   [Transport.stopped, .chase, .play, .freewheel].map transportCode = [0#8, 1#8, 2#8, 3#8] ∧
   [CursorState.ready, .fetching, .relocating, .parked].map cursorCode = [0#8, 1#8, 2#8, 3#8] ∧
   [RecordKind.level, .gap].map kindCode = [0#8, 1#8] ∧
   [RefusalReason.notMapped, .full, .badValue, .noControl, .notHolder, .touchHeld, .notReady, .rolling, .busy, .noLoad,
     .count].map refusalCode = [1#8, 2#8, 3#8, 4#8, 5#8, 6#8, 7#8, 8#8, 9#8, 10#8, 11#8] ∧
   [AbortReason.order, .pool, .count, .rolling, .reset].map abortCode = [1#8, 2#8, 3#8, 4#8, 5#8] ∧
   [NoticeReason.latePunch, .poolLow, .truncated].map noticeCode = [1#8, 2#8, 3#8]) ∧
  (∀ a b c d e f g : Byte,
    let pair (hi lo : Byte) : Nat := hi.toNat * 256 + lo.toNat
    let triple (hi mid lo : Byte) : Nat := hi.toNat * 65536 + mid.toNat * 256 + lo.toNat
    let level (hi lo : Byte) : Int := if pair hi lo < 32768 then pair hi lo else (pair hi lo : Int) - 65536
    (seatBody kindHello [] = some .hello ∧ seatBody kindTouch [a] = some (.touch a.toNat) ∧
      seatBody kindMove [a, b, c] = some (.move a.toNat (level b c)) ∧
      seatBody kindRelease [a] = some (.release a.toNat) ∧ seatBody kindBank [a, b] = some (.bank (pair a b)) ∧
      seatBody kindMode [a, b] = some (.mode a.toNat b) ∧ seatBody kindQuery [a] = some (.query a.toNat)) ∧
    (editorCommand kindSetControl [a, b, c, d, e, f, g] = some (.setControl
        { control := a, presence := b, mode := c, stem := d, groupA := e, groupB := f, glide := g }) ∧
      editorCommand kindSetStem [a, b] = some (.setStem a b) ∧
      editorCommand kindSetSeat [a, b, c] = some (.setSeat a b c) ∧
      editorCommand kindSetHub [a, b, c, d, e] = some (.setHub a b c (pair d e)) ∧
      editorCommand kindListBegin [a, b, c] = some (.listBegin a (pair b c)) ∧
      editorCommand kindListRecord [a, b, c, d, e, f] =
        some (.listRecord { frame := triple a b c, kind := d, level := level e f }) ∧
      editorCommand kindListEnd [] = some .listEnd ∧
      editorCommand kindReadList [a, b, c, d, e, f, g] = some (.readList a (triple b c d) (triple e f g)) ∧
      editorCommand kindClearList [a] = some (.clearList a) ∧ editorCommand kindStatus [] = some .status ∧
      editorCommand kindClearFlags [a] = some (.clearFlags a) ∧ editorCommand kindMixReset [] = some .mixReset ∧
      editorCommand kindLinkReset [a] = some (.linkReset a)) ∧
    (∀ x : SetControlFields, x.presence = a →
      x.hasMode = a.getLsbD 0 ∧ x.hasStem = a.getLsbD 1 ∧ x.hasGroupA = a.getLsbD 2 ∧ x.hasGroupB = a.getLsbD 3 ∧
        x.hasGlide = a.getLsbD 4)) ∧
  ((∀ kind, surfaceLength kind =
     if kind ∈ [kindHello, kindIdle] then some 0 else if kind ∈ [kindTouch, kindRelease, kindQuery] then some 1
     else if kind ∈ [kindBank, kindMode] then some 2 else if kind = kindMove then some 3 else none) ∧
   (∀ kind, editorLength kind =
     if kind ∈ [kindIdle, kindListEnd, kindStatus, kindMixReset] then some 0
     else if kind ∈ [kindClearList, kindClearFlags, kindLinkReset] then some 1 else if kind = kindSetStem then some 2
     else if kind ∈ [kindSetSeat, kindListBegin] then some 3 else if kind = kindSetHub then some 5
     else if kind = kindListRecord then some 6 else if kind ∈ [kindSetControl, kindReadList] then some 7 else none) ∧
   (∀ kind payload b, seatBody kind payload = some b →
     surfaceLength kind = some payload.length ∧ kind ≠ kindIdle ∧ b.kind = kind) ∧
   (∀ kind payload c, editorCommand kind payload = some c →
     editorLength kind = some payload.length ∧ kind ≠ kindIdle)) ∧
  (∀ (seat n : Nat) (c : ControlId) (i : SeatId) (l : Level) (frame : Frame) (kind : Byte),
    let sends (m : OutMessage) (code : Byte) (payload : List Byte) : Prop := m.bytes seat = frameBytes seat code payload
    let control : Byte := BitVec.ofNat 8 c.val
    let seatNumber : Byte := BitVec.ofNat 8 (i.val + 1)
    let level : List Byte := [(BitVec.ofInt 16 l).extractLsb' 8 8, (BitVec.ofInt 16 l).extractLsb' 0 8]
    let three (k : Nat) : List Byte := [BitVec.ofNat 8 (k / 65536), BitVec.ofNat 8 (k / 256), BitVec.ofNat 8 k]
    (sends (.grant c) 0x21#8 [control] ∧ sends (.lost c i) 0x22#8 [control, seatNumber] ∧
      sends (.released c) 0x23#8 [control] ∧
      (∀ r : ControlState, r.control = c → r.presented = l → sends (.state r) 0x24#8 (control :: modeCode r.mode :: level ++
        [match r.holder with
          | some h => BitVec.ofNat 8 (h.val + 1)
          | none => 0#8, if r.segmentOpen then 1#8 else 0#8, cursorCode r.cursor])) ∧
      (∀ reason, sends (.refused reason kind none) 0x25#8 [refusalCode reason, kind, 255#8] ∧
        ∀ b, sends (.refused reason kind (some b)) 0x25#8 [refusalCode reason, kind, b]) ∧
      sends (.taken c i) 0x26#8 [control, seatNumber] ∧ sends (.stale c) 0x27#8 [control] ∧
      (∀ reason, sends (.notice c reason) 0x28#8 [control, noticeCode reason]) ∧
      (∀ x, sends (.transport x frame) 0x29#8 (transportCode x :: three frame)) ∧
      sends (.follow c l) 0x2A#8 (control :: level)) ∧
    (sends (.done kind) 0x61#8 [kind] ∧ (∀ reason, sends (.aborted kind reason) 0x62#8 [kind, abortCode reason]) ∧
      (∀ k, sends (.record frame k l) 0x63#8 (three frame ++ kindCode k :: level)) ∧
      sends (.endOfRead n) 0x64#8 (three n) ∧
      (∀ r : StatusReport, sends (.status r) 0x65#8 (transportCode r.transport :: three r.currentFrame ++
        (if r.ready then 1#8 else 0#8) :: three r.totalFree ++
        [BitVec.ofNat 8 r.spliceLength, BitVec.ofNat 8 r.relocateSize, r.links, r.flags])) ∧
      sends (.flags kind) 0x66#8 [kind]) ∧
    (SeatNotice.message c (.taken i) = .taken c i ∧ SeatNotice.message c .stale = .stale c ∧
      SeatNotice.message c .latePunch = .notice c .latePunch ∧ SeatNotice.message c .poolLow = .notice c .poolLow ∧
      SeatNotice.message c .truncated = .notice c .truncated))

/-- R198: a record written to a slot reads back with its frame, kind, LAST, level (0 for GAP) and next slot (0 with LAST),
every byte outside the slot reads as before, and so does the record of every other slot. -/
def Obligations.RecordSlotRoundTrip : Prop :=
  ∀ (m : Memory) (slot : Slot) (r : Record), Memory.wf m = true →
    r.frame ≤ 16777215 → -4608 ≤ r.level → r.level ≤ 384 →
    Memory.readSlot (Memory.writeSlot m slot r) slot =
      { r with
        level := if r.kind = .gap then 0 else r.level
        next := if r.last then 0 else r.next } ∧
    (∀ a, (a < Memory.slotAddress slot ∨ Memory.slotAddress slot + 16 ≤ a) →
      Memory.read (Memory.writeSlot m slot r) a = Memory.read m a) ∧
    (∀ other, other ≠ slot → Memory.readSlot (Memory.writeSlot m slot r) other = Memory.readSlot m other)

/-- Every step keeps record memory in its canonical form. -/
def Obligations.StepKeepsMemoryCanonical : Prop :=
  ∀ s t : State, MemoryCanonical s → step s = .next t → MemoryCanonical t

/-- Every step keeps the bank roles legal (R143) and the tracker's numbers in their ranges (R21, R22, R35). -/
def Obligations.StepKeepsRolesAndTracker : Prop :=
  ∀ s t : State, RolesLegal s → TrackerLegal s → step s = .next t → RolesLegal t ∧ TrackerLegal t

/-- Every step keeps the inbound and reply queues of the surface ports, the inbound queue of the editor port, the free slot
queue and the append queue within their capacities (R84, R105, R153, R175); the editor port's reply queue and the splice
queue are in the two statements that follow. -/
def Obligations.StepKeepsQueuesBounded : Prop :=
  ∀ s t : State, QueuesBounded s → step s = .next t → QueuesBounded t

/-- Every step keeps the splice queue at one closed segment of a control at most, so at 208 at most, and every open segment
at its own control, with no splice of it queued (R99, R112). -/
def Obligations.StepKeepsSegmentsPlaced : Prop :=
  ∀ s t : State, SegmentsPlaced s → step s = .next t → SegmentsPlaced t

/-- Every step keeps the editor port's reply queue at 16 places at most, with just one reserved for each operation in flight
(R175, R178, R187). -/
def Obligations.StepKeepsReplyPlaces : Prop :=
  ∀ s t : State, ReplyPlacesHeld s → step s = .next t → ReplyPlacesHeld t

/-- Every step keeps each seat's held-touches count equal to the number of records that name it (R42). -/
def Obligations.StepKeepsHeldCountsExact : Prop :=
  ∀ s t : State, HeldCountsExact s → step s = .next t → HeldCountsExact t

/-- Every step keeps every DOWN surface port empty (R158, R159, R169). -/
def Obligations.StepKeepsDownPortsEmpty : Prop :=
  ∀ s t : State, DownPortsEmpty s → step s = .next t → DownPortsEmpty t

/-- Every step leaves no port idle that could send: where a port is UP, its link free and its far hold dropped, nothing waits
(R169, R179). So each command begins the frames that its arbiters choose. That they choose in the event that lets them is the
model's reading (log 9). -/
def Obligations.StepKeepsLinksBusy : Prop :=
  ∀ s t : State, ArbitersDone s → step s = .next t → ArbitersDone t
end

