-- ==== Sys2Proof/Laws/State.lean ====
section
/-! SUPPORT. What each field holds after each update of the state, so that no proof unfolds a record update: one lemma per
updater for the parts it leaves alone, one per field for the part it changes, and reading a table after writing it. -/

namespace Sys2Proof.Machine

/-! ## Tables -/

@[simp] theorem tget_tset_self {α : Type} {n : Nat} (v : Vector α n) (i : Fin n) (x : α) : tget (tset v i x) i = x := by
  simp [tget, tset]

@[simp] theorem tget_tset_ne {α : Type} {n : Nat} (v : Vector α n) {i j : Fin n} (h : i ≠ j) (x : α) :
    tget (tset v i x) j = tget v j := by
  have h2 : i.val ≠ j.val := fun e => h (Fin.ext e)
  simp [tget, tset, h2]

theorem tget_tset {α : Type} {n : Nat} (v : Vector α n) (i j : Fin n) (x : α) :
    tget (tset v i x) j = if i = j then x else tget v j := by
  by_cases h : i = j
  · subst h
    simp
  · simp [h]

@[simp] theorem tget_tbuild {α : Type} {n : Nat} (f : Fin n → α) (i : Fin n) : tget (tbuild f) i = f i := by
  simp [tget, tbuild]

@[simp] theorem tget_replicate {α : Type} {n : Nat} (x : α) (i : Fin n) : tget (Vector.replicate n x) i = x := by
  simp [tget]

theorem table_ext {α : Type} {n : Nat} {v w : Vector α n} (h : ∀ i : Fin n, tget v i = tget w i) : v = w := by
  apply Vector.ext
  intro i hi
  exact h ⟨i, hi⟩

namespace State

/-! ## setSeat -/

@[simp] theorem setSeat_frame (s : State) (i : SeatId) (x : Seat) :
    (s.setSeat i x).pending = s.pending ∧ (s.setSeat i x).now = s.now ∧ (s.setSeat i x).tracker = s.tracker ∧
    (s.setSeat i x).pass = s.pass ∧ (s.setSeat i x).writer = s.writer ∧ (s.setSeat i x).store = s.store ∧
    (s.setSeat i x).memory = s.memory ∧ (s.setSeat i x).port = s.port ∧ (s.setSeat i x).cursors = s.cursors ∧
    (s.setSeat i x).engine = s.engine ∧ (s.setSeat i x).surface = s.surface ∧ (s.setSeat i x).editor = s.editor ∧
    (s.setSeat i x).freeDraws = s.freeDraws := by
  exact ⟨rfl, rfl, rfl, rfl, rfl, rfl, rfl, rfl, rfl, rfl, rfl, rfl, rfl⟩

@[simp] theorem setSeat_arbiter_seats (s : State) (i : SeatId) (x : Seat) : (s.setSeat i x).arbiter.seats = tset s.arbiter.seats i x := rfl
@[simp] theorem setSeat_arbiter_touches (s : State) (i : SeatId) (x : Seat) : (s.setSeat i x).arbiter.touches = s.arbiter.touches := rfl
@[simp] theorem setSeat_arbiter_live (s : State) (i : SeatId) (x : Seat) : (s.setSeat i x).arbiter.live = s.arbiter.live := rfl
@[simp] theorem setSeat_arbiter_staleTimeout (s : State) (i : SeatId) (x : Seat) : (s.setSeat i x).arbiter.staleTimeout = s.arbiter.staleTimeout := rfl

/-! ## setTouch -/

@[simp] theorem setTouch_frame (s : State) (c : ControlId) (x : Option Touch) :
    (s.setTouch c x).pending = s.pending ∧ (s.setTouch c x).now = s.now ∧ (s.setTouch c x).tracker = s.tracker ∧
    (s.setTouch c x).pass = s.pass ∧ (s.setTouch c x).writer = s.writer ∧ (s.setTouch c x).store = s.store ∧
    (s.setTouch c x).memory = s.memory ∧ (s.setTouch c x).port = s.port ∧ (s.setTouch c x).cursors = s.cursors ∧
    (s.setTouch c x).engine = s.engine ∧ (s.setTouch c x).surface = s.surface ∧ (s.setTouch c x).editor = s.editor ∧
    (s.setTouch c x).freeDraws = s.freeDraws := by
  exact ⟨rfl, rfl, rfl, rfl, rfl, rfl, rfl, rfl, rfl, rfl, rfl, rfl, rfl⟩

@[simp] theorem setTouch_arbiter_seats (s : State) (c : ControlId) (x : Option Touch) : (s.setTouch c x).arbiter.seats = s.arbiter.seats := rfl
@[simp] theorem setTouch_arbiter_touches (s : State) (c : ControlId) (x : Option Touch) : (s.setTouch c x).arbiter.touches = tset s.arbiter.touches c x := rfl
@[simp] theorem setTouch_arbiter_live (s : State) (c : ControlId) (x : Option Touch) : (s.setTouch c x).arbiter.live = s.arbiter.live := rfl
@[simp] theorem setTouch_arbiter_staleTimeout (s : State) (c : ControlId) (x : Option Touch) : (s.setTouch c x).arbiter.staleTimeout = s.arbiter.staleTimeout := rfl

/-! ## setLive -/

@[simp] theorem setLive_frame (s : State) (c : ControlId) (l : Level) :
    (s.setLive c l).pending = s.pending ∧ (s.setLive c l).now = s.now ∧ (s.setLive c l).tracker = s.tracker ∧
    (s.setLive c l).pass = s.pass ∧ (s.setLive c l).writer = s.writer ∧ (s.setLive c l).store = s.store ∧
    (s.setLive c l).memory = s.memory ∧ (s.setLive c l).port = s.port ∧ (s.setLive c l).cursors = s.cursors ∧
    (s.setLive c l).engine = s.engine ∧ (s.setLive c l).surface = s.surface ∧ (s.setLive c l).editor = s.editor ∧
    (s.setLive c l).freeDraws = s.freeDraws := by
  exact ⟨rfl, rfl, rfl, rfl, rfl, rfl, rfl, rfl, rfl, rfl, rfl, rfl, rfl⟩

@[simp] theorem setLive_arbiter_seats (s : State) (c : ControlId) (l : Level) : (s.setLive c l).arbiter.seats = s.arbiter.seats := rfl
@[simp] theorem setLive_arbiter_touches (s : State) (c : ControlId) (l : Level) : (s.setLive c l).arbiter.touches = s.arbiter.touches := rfl
@[simp] theorem setLive_arbiter_live (s : State) (c : ControlId) (l : Level) : (s.setLive c l).arbiter.live = tset s.arbiter.live c l := rfl
@[simp] theorem setLive_arbiter_staleTimeout (s : State) (c : ControlId) (l : Level) : (s.setLive c l).arbiter.staleTimeout = s.arbiter.staleTimeout := rfl

/-! ## setConfig -/

@[simp] theorem setConfig_frame (s : State) (c : ControlId) (x : ControlConfig) :
    (s.setConfig c x).pending = s.pending ∧ (s.setConfig c x).now = s.now ∧ (s.setConfig c x).tracker = s.tracker ∧
    (s.setConfig c x).arbiter = s.arbiter ∧ (s.setConfig c x).writer = s.writer ∧ (s.setConfig c x).store = s.store ∧
    (s.setConfig c x).memory = s.memory ∧ (s.setConfig c x).port = s.port ∧ (s.setConfig c x).cursors = s.cursors ∧
    (s.setConfig c x).engine = s.engine ∧ (s.setConfig c x).surface = s.surface ∧ (s.setConfig c x).editor = s.editor ∧
    (s.setConfig c x).freeDraws = s.freeDraws := by
  exact ⟨rfl, rfl, rfl, rfl, rfl, rfl, rfl, rfl, rfl, rfl, rfl, rfl, rfl⟩

@[simp] theorem setConfig_pass_config (s : State) (c : ControlId) (x : ControlConfig) : (s.setConfig c x).pass.config = tset s.pass.config c x := rfl
@[simp] theorem setConfig_pass_safe (s : State) (c : ControlId) (x : ControlConfig) : (s.setConfig c x).pass.safe = s.pass.safe := rfl
@[simp] theorem setConfig_pass_records (s : State) (c : ControlId) (x : ControlConfig) : (s.setConfig c x).pass.records = s.pass.records := rfl
@[simp] theorem setConfig_pass_run (s : State) (c : ControlId) (x : ControlConfig) : (s.setConfig c x).pass.run = s.pass.run := rfl

/-! ## setRecord -/

@[simp] theorem setRecord_frame (s : State) (c : ControlId) (x : EvalRecord) :
    (s.setRecord c x).pending = s.pending ∧ (s.setRecord c x).now = s.now ∧ (s.setRecord c x).tracker = s.tracker ∧
    (s.setRecord c x).arbiter = s.arbiter ∧ (s.setRecord c x).writer = s.writer ∧ (s.setRecord c x).store = s.store ∧
    (s.setRecord c x).memory = s.memory ∧ (s.setRecord c x).port = s.port ∧ (s.setRecord c x).cursors = s.cursors ∧
    (s.setRecord c x).engine = s.engine ∧ (s.setRecord c x).surface = s.surface ∧ (s.setRecord c x).editor = s.editor ∧
    (s.setRecord c x).freeDraws = s.freeDraws := by
  exact ⟨rfl, rfl, rfl, rfl, rfl, rfl, rfl, rfl, rfl, rfl, rfl, rfl, rfl⟩

@[simp] theorem setRecord_pass_config (s : State) (c : ControlId) (x : EvalRecord) : (s.setRecord c x).pass.config = s.pass.config := rfl
@[simp] theorem setRecord_pass_safe (s : State) (c : ControlId) (x : EvalRecord) : (s.setRecord c x).pass.safe = s.pass.safe := rfl
@[simp] theorem setRecord_pass_records (s : State) (c : ControlId) (x : EvalRecord) : (s.setRecord c x).pass.records = tset s.pass.records c x := rfl
@[simp] theorem setRecord_pass_run (s : State) (c : ControlId) (x : EvalRecord) : (s.setRecord c x).pass.run = s.pass.run := rfl

/-! ## setRun -/

@[simp] theorem setRun_frame (s : State) (x : PassRun) :
    (s.setRun x).pending = s.pending ∧ (s.setRun x).now = s.now ∧ (s.setRun x).tracker = s.tracker ∧
    (s.setRun x).arbiter = s.arbiter ∧ (s.setRun x).writer = s.writer ∧ (s.setRun x).store = s.store ∧
    (s.setRun x).memory = s.memory ∧ (s.setRun x).port = s.port ∧ (s.setRun x).cursors = s.cursors ∧
    (s.setRun x).engine = s.engine ∧ (s.setRun x).surface = s.surface ∧ (s.setRun x).editor = s.editor ∧
    (s.setRun x).freeDraws = s.freeDraws := by
  exact ⟨rfl, rfl, rfl, rfl, rfl, rfl, rfl, rfl, rfl, rfl, rfl, rfl, rfl⟩

@[simp] theorem setRun_pass_config (s : State) (x : PassRun) : (s.setRun x).pass.config = s.pass.config := rfl
@[simp] theorem setRun_pass_safe (s : State) (x : PassRun) : (s.setRun x).pass.safe = s.pass.safe := rfl
@[simp] theorem setRun_pass_records (s : State) (x : PassRun) : (s.setRun x).pass.records = s.pass.records := rfl
@[simp] theorem setRun_pass_run (s : State) (x : PassRun) : (s.setRun x).pass.run = x := rfl

/-! ## setSafe -/

@[simp] theorem setSafe_frame (s : State) (i : StemId) (b : Bool) :
    (s.setSafe i b).pending = s.pending ∧ (s.setSafe i b).now = s.now ∧ (s.setSafe i b).tracker = s.tracker ∧
    (s.setSafe i b).arbiter = s.arbiter ∧ (s.setSafe i b).writer = s.writer ∧ (s.setSafe i b).store = s.store ∧
    (s.setSafe i b).memory = s.memory ∧ (s.setSafe i b).port = s.port ∧ (s.setSafe i b).cursors = s.cursors ∧
    (s.setSafe i b).engine = s.engine ∧ (s.setSafe i b).surface = s.surface ∧ (s.setSafe i b).editor = s.editor ∧
    (s.setSafe i b).freeDraws = s.freeDraws := by
  exact ⟨rfl, rfl, rfl, rfl, rfl, rfl, rfl, rfl, rfl, rfl, rfl, rfl, rfl⟩

@[simp] theorem setSafe_pass_config (s : State) (i : StemId) (b : Bool) : (s.setSafe i b).pass.config = s.pass.config := rfl
@[simp] theorem setSafe_pass_safe (s : State) (i : StemId) (b : Bool) : (s.setSafe i b).pass.safe = tset s.pass.safe i b := rfl
@[simp] theorem setSafe_pass_records (s : State) (i : StemId) (b : Bool) : (s.setSafe i b).pass.records = s.pass.records := rfl
@[simp] theorem setSafe_pass_run (s : State) (i : StemId) (b : Bool) : (s.setSafe i b).pass.run = s.pass.run := rfl

/-! ## setSegment -/

@[simp] theorem setSegment_frame (s : State) (c : ControlId) (x : Option Segment) :
    (s.setSegment c x).pending = s.pending ∧ (s.setSegment c x).now = s.now ∧ (s.setSegment c x).tracker = s.tracker ∧
    (s.setSegment c x).arbiter = s.arbiter ∧ (s.setSegment c x).pass = s.pass ∧ (s.setSegment c x).store = s.store ∧
    (s.setSegment c x).memory = s.memory ∧ (s.setSegment c x).port = s.port ∧ (s.setSegment c x).cursors = s.cursors ∧
    (s.setSegment c x).engine = s.engine ∧ (s.setSegment c x).surface = s.surface ∧ (s.setSegment c x).editor = s.editor ∧
    (s.setSegment c x).freeDraws = s.freeDraws := by
  exact ⟨rfl, rfl, rfl, rfl, rfl, rfl, rfl, rfl, rfl, rfl, rfl, rfl, rfl⟩

@[simp] theorem setSegment_writer_segments (s : State) (c : ControlId) (x : Option Segment) : (s.setSegment c x).writer.segments = tset s.writer.segments c x := rfl
@[simp] theorem setSegment_writer_closeAllBar (s : State) (c : ControlId) (x : Option Segment) : (s.setSegment c x).writer.closeAllBar = s.writer.closeAllBar := rfl

/-! ## setList -/

@[simp] theorem setList_frame (s : State) (c : ControlId) (x : Descriptor) :
    (s.setList c x).pending = s.pending ∧ (s.setList c x).now = s.now ∧ (s.setList c x).tracker = s.tracker ∧
    (s.setList c x).arbiter = s.arbiter ∧ (s.setList c x).pass = s.pass ∧ (s.setList c x).writer = s.writer ∧
    (s.setList c x).memory = s.memory ∧ (s.setList c x).port = s.port ∧ (s.setList c x).cursors = s.cursors ∧
    (s.setList c x).engine = s.engine ∧ (s.setList c x).surface = s.surface ∧ (s.setList c x).editor = s.editor ∧
    (s.setList c x).freeDraws = s.freeDraws := by
  exact ⟨rfl, rfl, rfl, rfl, rfl, rfl, rfl, rfl, rfl, rfl, rfl, rfl, rfl⟩

@[simp] theorem setList_store_descriptors (s : State) (c : ControlId) (x : Descriptor) : (s.setList c x).store.descriptors = tset s.store.descriptors c x := rfl
@[simp] theorem setList_store_freeHead (s : State) (c : ControlId) (x : Descriptor) : (s.setList c x).store.freeHead = s.store.freeHead := rfl
@[simp] theorem setList_store_memoryCount (s : State) (c : ControlId) (x : Descriptor) : (s.setList c x).store.memoryCount = s.store.memoryCount := rfl
@[simp] theorem setList_store_freeQueue (s : State) (c : ControlId) (x : Descriptor) : (s.setList c x).store.freeQueue = s.store.freeQueue := rfl
@[simp] theorem setList_store_refill (s : State) (c : ControlId) (x : Descriptor) : (s.setList c x).store.refill = s.store.refill := rfl
@[simp] theorem setList_store_poolLow (s : State) (c : ControlId) (x : Descriptor) : (s.setList c x).store.poolLow = s.store.poolLow := rfl
@[simp] theorem setList_store_storeState (s : State) (c : ControlId) (x : Descriptor) : (s.setList c x).store.storeState = s.store.storeState := rfl
@[simp] theorem setList_store_spliceQueue (s : State) (c : ControlId) (x : Descriptor) : (s.setList c x).store.spliceQueue = s.store.spliceQueue := rfl
@[simp] theorem setList_store_splice (s : State) (c : ControlId) (x : Descriptor) : (s.setList c x).store.splice = s.store.splice := rfl
@[simp] theorem setList_store_load (s : State) (c : ControlId) (x : Descriptor) : (s.setList c x).store.load = s.store.load := rfl

/-! ## setSpliceQueue -/

@[simp] theorem setSpliceQueue_frame (s : State) (q : List ClosedSegment) :
    (s.setSpliceQueue q).pending = s.pending ∧ (s.setSpliceQueue q).now = s.now ∧ (s.setSpliceQueue q).tracker = s.tracker ∧
    (s.setSpliceQueue q).arbiter = s.arbiter ∧ (s.setSpliceQueue q).pass = s.pass ∧ (s.setSpliceQueue q).writer = s.writer ∧
    (s.setSpliceQueue q).memory = s.memory ∧ (s.setSpliceQueue q).port = s.port ∧ (s.setSpliceQueue q).cursors = s.cursors ∧
    (s.setSpliceQueue q).engine = s.engine ∧ (s.setSpliceQueue q).surface = s.surface ∧ (s.setSpliceQueue q).editor = s.editor ∧
    (s.setSpliceQueue q).freeDraws = s.freeDraws := by
  exact ⟨rfl, rfl, rfl, rfl, rfl, rfl, rfl, rfl, rfl, rfl, rfl, rfl, rfl⟩

@[simp] theorem setSpliceQueue_store_descriptors (s : State) (q : List ClosedSegment) : (s.setSpliceQueue q).store.descriptors = s.store.descriptors := rfl
@[simp] theorem setSpliceQueue_store_freeHead (s : State) (q : List ClosedSegment) : (s.setSpliceQueue q).store.freeHead = s.store.freeHead := rfl
@[simp] theorem setSpliceQueue_store_memoryCount (s : State) (q : List ClosedSegment) : (s.setSpliceQueue q).store.memoryCount = s.store.memoryCount := rfl
@[simp] theorem setSpliceQueue_store_freeQueue (s : State) (q : List ClosedSegment) : (s.setSpliceQueue q).store.freeQueue = s.store.freeQueue := rfl
@[simp] theorem setSpliceQueue_store_refill (s : State) (q : List ClosedSegment) : (s.setSpliceQueue q).store.refill = s.store.refill := rfl
@[simp] theorem setSpliceQueue_store_poolLow (s : State) (q : List ClosedSegment) : (s.setSpliceQueue q).store.poolLow = s.store.poolLow := rfl
@[simp] theorem setSpliceQueue_store_storeState (s : State) (q : List ClosedSegment) : (s.setSpliceQueue q).store.storeState = s.store.storeState := rfl
@[simp] theorem setSpliceQueue_store_spliceQueue (s : State) (q : List ClosedSegment) : (s.setSpliceQueue q).store.spliceQueue = q := rfl
@[simp] theorem setSpliceQueue_store_splice (s : State) (q : List ClosedSegment) : (s.setSpliceQueue q).store.splice = s.store.splice := rfl
@[simp] theorem setSpliceQueue_store_load (s : State) (q : List ClosedSegment) : (s.setSpliceQueue q).store.load = s.store.load := rfl

/-! ## setLoad -/

@[simp] theorem setLoad_frame (s : State) (x : Option Load) :
    (s.setLoad x).pending = s.pending ∧ (s.setLoad x).now = s.now ∧ (s.setLoad x).tracker = s.tracker ∧
    (s.setLoad x).arbiter = s.arbiter ∧ (s.setLoad x).pass = s.pass ∧ (s.setLoad x).writer = s.writer ∧
    (s.setLoad x).memory = s.memory ∧ (s.setLoad x).port = s.port ∧ (s.setLoad x).cursors = s.cursors ∧
    (s.setLoad x).engine = s.engine ∧ (s.setLoad x).surface = s.surface ∧ (s.setLoad x).editor = s.editor ∧
    (s.setLoad x).freeDraws = s.freeDraws := by
  exact ⟨rfl, rfl, rfl, rfl, rfl, rfl, rfl, rfl, rfl, rfl, rfl, rfl, rfl⟩

@[simp] theorem setLoad_store_descriptors (s : State) (x : Option Load) : (s.setLoad x).store.descriptors = s.store.descriptors := rfl
@[simp] theorem setLoad_store_freeHead (s : State) (x : Option Load) : (s.setLoad x).store.freeHead = s.store.freeHead := rfl
@[simp] theorem setLoad_store_memoryCount (s : State) (x : Option Load) : (s.setLoad x).store.memoryCount = s.store.memoryCount := rfl
@[simp] theorem setLoad_store_freeQueue (s : State) (x : Option Load) : (s.setLoad x).store.freeQueue = s.store.freeQueue := rfl
@[simp] theorem setLoad_store_refill (s : State) (x : Option Load) : (s.setLoad x).store.refill = s.store.refill := rfl
@[simp] theorem setLoad_store_poolLow (s : State) (x : Option Load) : (s.setLoad x).store.poolLow = s.store.poolLow := rfl
@[simp] theorem setLoad_store_storeState (s : State) (x : Option Load) : (s.setLoad x).store.storeState = s.store.storeState := rfl
@[simp] theorem setLoad_store_spliceQueue (s : State) (x : Option Load) : (s.setLoad x).store.spliceQueue = s.store.spliceQueue := rfl
@[simp] theorem setLoad_store_splice (s : State) (x : Option Load) : (s.setLoad x).store.splice = s.store.splice := rfl
@[simp] theorem setLoad_store_load (s : State) (x : Option Load) : (s.setLoad x).store.load = x := rfl

/-! ## setRefill -/

@[simp] theorem setRefill_frame (s : State) (x : Refill) :
    (s.setRefill x).pending = s.pending ∧ (s.setRefill x).now = s.now ∧ (s.setRefill x).tracker = s.tracker ∧
    (s.setRefill x).arbiter = s.arbiter ∧ (s.setRefill x).pass = s.pass ∧ (s.setRefill x).writer = s.writer ∧
    (s.setRefill x).memory = s.memory ∧ (s.setRefill x).port = s.port ∧ (s.setRefill x).cursors = s.cursors ∧
    (s.setRefill x).engine = s.engine ∧ (s.setRefill x).surface = s.surface ∧ (s.setRefill x).editor = s.editor ∧
    (s.setRefill x).freeDraws = s.freeDraws := by
  exact ⟨rfl, rfl, rfl, rfl, rfl, rfl, rfl, rfl, rfl, rfl, rfl, rfl, rfl⟩

@[simp] theorem setRefill_store_descriptors (s : State) (x : Refill) : (s.setRefill x).store.descriptors = s.store.descriptors := rfl
@[simp] theorem setRefill_store_freeHead (s : State) (x : Refill) : (s.setRefill x).store.freeHead = s.store.freeHead := rfl
@[simp] theorem setRefill_store_memoryCount (s : State) (x : Refill) : (s.setRefill x).store.memoryCount = s.store.memoryCount := rfl
@[simp] theorem setRefill_store_freeQueue (s : State) (x : Refill) : (s.setRefill x).store.freeQueue = s.store.freeQueue := rfl
@[simp] theorem setRefill_store_refill (s : State) (x : Refill) : (s.setRefill x).store.refill = x := rfl
@[simp] theorem setRefill_store_poolLow (s : State) (x : Refill) : (s.setRefill x).store.poolLow = s.store.poolLow := rfl
@[simp] theorem setRefill_store_storeState (s : State) (x : Refill) : (s.setRefill x).store.storeState = s.store.storeState := rfl
@[simp] theorem setRefill_store_spliceQueue (s : State) (x : Refill) : (s.setRefill x).store.spliceQueue = s.store.spliceQueue := rfl
@[simp] theorem setRefill_store_splice (s : State) (x : Refill) : (s.setRefill x).store.splice = s.store.splice := rfl
@[simp] theorem setRefill_store_load (s : State) (x : Refill) : (s.setRefill x).store.load = s.store.load := rfl

/-! ## setFreeQueue -/

@[simp] theorem setFreeQueue_frame (s : State) (q : List Slot) :
    (s.setFreeQueue q).pending = s.pending ∧ (s.setFreeQueue q).now = s.now ∧ (s.setFreeQueue q).tracker = s.tracker ∧
    (s.setFreeQueue q).arbiter = s.arbiter ∧ (s.setFreeQueue q).pass = s.pass ∧ (s.setFreeQueue q).writer = s.writer ∧
    (s.setFreeQueue q).memory = s.memory ∧ (s.setFreeQueue q).port = s.port ∧ (s.setFreeQueue q).cursors = s.cursors ∧
    (s.setFreeQueue q).engine = s.engine ∧ (s.setFreeQueue q).surface = s.surface ∧ (s.setFreeQueue q).editor = s.editor ∧
    (s.setFreeQueue q).freeDraws = s.freeDraws := by
  exact ⟨rfl, rfl, rfl, rfl, rfl, rfl, rfl, rfl, rfl, rfl, rfl, rfl, rfl⟩

@[simp] theorem setFreeQueue_store_descriptors (s : State) (q : List Slot) : (s.setFreeQueue q).store.descriptors = s.store.descriptors := rfl
@[simp] theorem setFreeQueue_store_freeHead (s : State) (q : List Slot) : (s.setFreeQueue q).store.freeHead = s.store.freeHead := rfl
@[simp] theorem setFreeQueue_store_memoryCount (s : State) (q : List Slot) : (s.setFreeQueue q).store.memoryCount = s.store.memoryCount := rfl
@[simp] theorem setFreeQueue_store_freeQueue (s : State) (q : List Slot) : (s.setFreeQueue q).store.freeQueue = q := rfl
@[simp] theorem setFreeQueue_store_refill (s : State) (q : List Slot) : (s.setFreeQueue q).store.refill = s.store.refill := rfl
@[simp] theorem setFreeQueue_store_poolLow (s : State) (q : List Slot) : (s.setFreeQueue q).store.poolLow = s.store.poolLow := rfl
@[simp] theorem setFreeQueue_store_storeState (s : State) (q : List Slot) : (s.setFreeQueue q).store.storeState = s.store.storeState := rfl
@[simp] theorem setFreeQueue_store_spliceQueue (s : State) (q : List Slot) : (s.setFreeQueue q).store.spliceQueue = s.store.spliceQueue := rfl
@[simp] theorem setFreeQueue_store_splice (s : State) (q : List Slot) : (s.setFreeQueue q).store.splice = s.store.splice := rfl
@[simp] theorem setFreeQueue_store_load (s : State) (q : List Slot) : (s.setFreeQueue q).store.load = s.store.load := rfl

/-! ## setSplice -/

@[simp] theorem setSplice_frame (s : State) (x : SpliceState) :
    (s.setSplice x).pending = s.pending ∧ (s.setSplice x).now = s.now ∧ (s.setSplice x).tracker = s.tracker ∧
    (s.setSplice x).arbiter = s.arbiter ∧ (s.setSplice x).pass = s.pass ∧ (s.setSplice x).writer = s.writer ∧
    (s.setSplice x).memory = s.memory ∧ (s.setSplice x).port = s.port ∧ (s.setSplice x).cursors = s.cursors ∧
    (s.setSplice x).engine = s.engine ∧ (s.setSplice x).surface = s.surface ∧ (s.setSplice x).editor = s.editor ∧
    (s.setSplice x).freeDraws = s.freeDraws := by
  exact ⟨rfl, rfl, rfl, rfl, rfl, rfl, rfl, rfl, rfl, rfl, rfl, rfl, rfl⟩

@[simp] theorem setSplice_store_descriptors (s : State) (x : SpliceState) : (s.setSplice x).store.descriptors = s.store.descriptors := rfl
@[simp] theorem setSplice_store_freeHead (s : State) (x : SpliceState) : (s.setSplice x).store.freeHead = s.store.freeHead := rfl
@[simp] theorem setSplice_store_memoryCount (s : State) (x : SpliceState) : (s.setSplice x).store.memoryCount = s.store.memoryCount := rfl
@[simp] theorem setSplice_store_freeQueue (s : State) (x : SpliceState) : (s.setSplice x).store.freeQueue = s.store.freeQueue := rfl
@[simp] theorem setSplice_store_refill (s : State) (x : SpliceState) : (s.setSplice x).store.refill = s.store.refill := rfl
@[simp] theorem setSplice_store_poolLow (s : State) (x : SpliceState) : (s.setSplice x).store.poolLow = s.store.poolLow := rfl
@[simp] theorem setSplice_store_storeState (s : State) (x : SpliceState) : (s.setSplice x).store.storeState = s.store.storeState := rfl
@[simp] theorem setSplice_store_spliceQueue (s : State) (x : SpliceState) : (s.setSplice x).store.spliceQueue = s.store.spliceQueue := rfl
@[simp] theorem setSplice_store_splice (s : State) (x : SpliceState) : (s.setSplice x).store.splice = x := rfl
@[simp] theorem setSplice_store_load (s : State) (x : SpliceState) : (s.setSplice x).store.load = s.store.load := rfl

/-! ## postRequest -/

@[simp] theorem postRequest_frame (s : State) (r : MemRequest) :
    (s.postRequest r).pending = s.pending ∧ (s.postRequest r).now = s.now ∧ (s.postRequest r).tracker = s.tracker ∧
    (s.postRequest r).arbiter = s.arbiter ∧ (s.postRequest r).pass = s.pass ∧ (s.postRequest r).writer = s.writer ∧
    (s.postRequest r).store = s.store ∧ (s.postRequest r).memory = s.memory ∧ (s.postRequest r).cursors = s.cursors ∧
    (s.postRequest r).engine = s.engine ∧ (s.postRequest r).surface = s.surface ∧ (s.postRequest r).editor = s.editor ∧
    (s.postRequest r).freeDraws = s.freeDraws := by
  exact ⟨rfl, rfl, rfl, rfl, rfl, rfl, rfl, rfl, rfl, rfl, rfl, rfl, rfl⟩

@[simp] theorem postRequest_port_requests (s : State) (r : MemRequest) : (s.postRequest r).port.requests = s.port.requests ++ [r] := rfl
@[simp] theorem postRequest_port_access (s : State) (r : MemRequest) : (s.postRequest r).port.access = s.port.access := rfl

/-! ## endAccess -/

@[simp] theorem endAccess_frame (s : State) :
    (s.endAccess).pending = s.pending ∧ (s.endAccess).now = s.now ∧ (s.endAccess).tracker = s.tracker ∧
    (s.endAccess).arbiter = s.arbiter ∧ (s.endAccess).pass = s.pass ∧ (s.endAccess).writer = s.writer ∧
    (s.endAccess).store = s.store ∧ (s.endAccess).memory = s.memory ∧ (s.endAccess).cursors = s.cursors ∧
    (s.endAccess).engine = s.engine ∧ (s.endAccess).surface = s.surface ∧ (s.endAccess).editor = s.editor ∧
    (s.endAccess).freeDraws = s.freeDraws := by
  exact ⟨rfl, rfl, rfl, rfl, rfl, rfl, rfl, rfl, rfl, rfl, rfl, rfl, rfl⟩

@[simp] theorem endAccess_port_requests (s : State) : (s.endAccess).port.requests = s.port.requests := rfl
@[simp] theorem endAccess_port_access (s : State) : (s.endAccess).port.access = none := rfl

/-! ## setCursor -/

@[simp] theorem setCursor_frame (s : State) (c : ControlId) (x : Cursor) :
    (s.setCursor c x).pending = s.pending ∧ (s.setCursor c x).now = s.now ∧ (s.setCursor c x).tracker = s.tracker ∧
    (s.setCursor c x).arbiter = s.arbiter ∧ (s.setCursor c x).pass = s.pass ∧ (s.setCursor c x).writer = s.writer ∧
    (s.setCursor c x).store = s.store ∧ (s.setCursor c x).memory = s.memory ∧ (s.setCursor c x).port = s.port ∧
    (s.setCursor c x).engine = s.engine ∧ (s.setCursor c x).surface = s.surface ∧ (s.setCursor c x).editor = s.editor ∧
    (s.setCursor c x).freeDraws = s.freeDraws := by
  exact ⟨rfl, rfl, rfl, rfl, rfl, rfl, rfl, rfl, rfl, rfl, rfl, rfl, rfl⟩

@[simp] theorem setCursor_cursors_table (s : State) (c : ControlId) (x : Cursor) : (s.setCursor c x).cursors.table = tset s.cursors.table c x := rfl
@[simp] theorem setCursor_cursors_walk (s : State) (c : ControlId) (x : Cursor) : (s.setCursor c x).cursors.walk = s.cursors.walk := rfl

/-! ## setWalk -/

@[simp] theorem setWalk_frame (s : State) (x : Option Walk) :
    (s.setWalk x).pending = s.pending ∧ (s.setWalk x).now = s.now ∧ (s.setWalk x).tracker = s.tracker ∧
    (s.setWalk x).arbiter = s.arbiter ∧ (s.setWalk x).pass = s.pass ∧ (s.setWalk x).writer = s.writer ∧
    (s.setWalk x).store = s.store ∧ (s.setWalk x).memory = s.memory ∧ (s.setWalk x).port = s.port ∧
    (s.setWalk x).engine = s.engine ∧ (s.setWalk x).surface = s.surface ∧ (s.setWalk x).editor = s.editor ∧
    (s.setWalk x).freeDraws = s.freeDraws := by
  exact ⟨rfl, rfl, rfl, rfl, rfl, rfl, rfl, rfl, rfl, rfl, rfl, rfl, rfl⟩

@[simp] theorem setWalk_cursors_table (s : State) (x : Option Walk) : (s.setWalk x).cursors.table = s.cursors.table := rfl
@[simp] theorem setWalk_cursors_walk (s : State) (x : Option Walk) : (s.setWalk x).cursors.walk = x := rfl

/-! ## setEntry -/

@[simp] theorem setEntry_frame (s : State) (b : BankId) (p : Fin 192) (e : Entry) :
    (s.setEntry b p e).pending = s.pending ∧ (s.setEntry b p e).now = s.now ∧ (s.setEntry b p e).tracker = s.tracker ∧
    (s.setEntry b p e).arbiter = s.arbiter ∧ (s.setEntry b p e).pass = s.pass ∧ (s.setEntry b p e).writer = s.writer ∧
    (s.setEntry b p e).store = s.store ∧ (s.setEntry b p e).memory = s.memory ∧ (s.setEntry b p e).port = s.port ∧
    (s.setEntry b p e).cursors = s.cursors ∧ (s.setEntry b p e).surface = s.surface ∧ (s.setEntry b p e).editor = s.editor ∧
    (s.setEntry b p e).freeDraws = s.freeDraws := by
  exact ⟨rfl, rfl, rfl, rfl, rfl, rfl, rfl, rfl, rfl, rfl, rfl, rfl, rfl⟩

@[simp] theorem setEntry_engine_published (s : State) (b : BankId) (p : Fin 192) (e : Entry) : (s.setEntry b p e).engine.published = s.engine.published := rfl
@[simp] theorem setEntry_engine_reading (s : State) (b : BankId) (p : Fin 192) (e : Entry) : (s.setEntry b p e).engine.reading = s.engine.reading := rfl
@[simp] theorem setEntry_engine_building (s : State) (b : BankId) (p : Fin 192) (e : Entry) : (s.setEntry b p e).engine.building = s.engine.building := rfl
@[simp] theorem setEntry_engine_dataOut (s : State) (b : BankId) (p : Fin 192) (e : Entry) : (s.setEntry b p e).engine.dataOut = s.engine.dataOut := rfl
@[simp] theorem setEntry_engine_framePublished (s : State) (b : BankId) (p : Fin 192) (e : Entry) : (s.setEntry b p e).engine.framePublished = s.engine.framePublished := rfl

/-! ## setSurface -/

@[simp] theorem setSurface_frame (s : State) (p : SurfaceId) (x : SurfacePort) :
    (s.setSurface p x).pending = s.pending ∧ (s.setSurface p x).now = s.now ∧ (s.setSurface p x).tracker = s.tracker ∧
    (s.setSurface p x).arbiter = s.arbiter ∧ (s.setSurface p x).pass = s.pass ∧ (s.setSurface p x).writer = s.writer ∧
    (s.setSurface p x).store = s.store ∧ (s.setSurface p x).memory = s.memory ∧ (s.setSurface p x).port = s.port ∧
    (s.setSurface p x).cursors = s.cursors ∧ (s.setSurface p x).engine = s.engine ∧ (s.setSurface p x).editor = s.editor ∧
    (s.setSurface p x).freeDraws = s.freeDraws := by
  exact ⟨rfl, rfl, rfl, rfl, rfl, rfl, rfl, rfl, rfl, rfl, rfl, rfl, rfl⟩

/-! ## setEditor -/

@[simp] theorem setEditor_frame (s : State) (x : EditorPort) :
    (s.setEditor x).pending = s.pending ∧ (s.setEditor x).now = s.now ∧ (s.setEditor x).tracker = s.tracker ∧
    (s.setEditor x).arbiter = s.arbiter ∧ (s.setEditor x).pass = s.pass ∧ (s.setEditor x).writer = s.writer ∧
    (s.setEditor x).store = s.store ∧ (s.setEditor x).memory = s.memory ∧ (s.setEditor x).port = s.port ∧
    (s.setEditor x).cursors = s.cursors ∧ (s.setEditor x).engine = s.engine ∧ (s.setEditor x).surface = s.surface ∧
    (s.setEditor x).freeDraws = s.freeDraws := by
  exact ⟨rfl, rfl, rfl, rfl, rfl, rfl, rfl, rfl, rfl, rfl, rfl, rfl, rfl⟩

/-! ## setTracker -/

@[simp] theorem setTracker_frame (s : State) (x : Tracker) :
    (s.setTracker x).pending = s.pending ∧ (s.setTracker x).now = s.now ∧ (s.setTracker x).arbiter = s.arbiter ∧
    (s.setTracker x).pass = s.pass ∧ (s.setTracker x).writer = s.writer ∧ (s.setTracker x).store = s.store ∧
    (s.setTracker x).memory = s.memory ∧ (s.setTracker x).port = s.port ∧ (s.setTracker x).cursors = s.cursors ∧
    (s.setTracker x).engine = s.engine ∧ (s.setTracker x).surface = s.surface ∧ (s.setTracker x).editor = s.editor ∧
    (s.setTracker x).freeDraws = s.freeDraws := by
  exact ⟨rfl, rfl, rfl, rfl, rfl, rfl, rfl, rfl, rfl, rfl, rfl, rfl, rfl⟩

/-! ## setPendingFrame -/

@[simp] theorem setPendingFrame_frame (s : State) (x : Option Frame) :
    (s.setPendingFrame x).pending = s.pending ∧ (s.setPendingFrame x).now = s.now ∧ (s.setPendingFrame x).arbiter = s.arbiter ∧
    (s.setPendingFrame x).pass = s.pass ∧ (s.setPendingFrame x).writer = s.writer ∧ (s.setPendingFrame x).store = s.store ∧
    (s.setPendingFrame x).memory = s.memory ∧ (s.setPendingFrame x).port = s.port ∧ (s.setPendingFrame x).cursors = s.cursors ∧
    (s.setPendingFrame x).engine = s.engine ∧ (s.setPendingFrame x).surface = s.surface ∧ (s.setPendingFrame x).editor = s.editor ∧
    (s.setPendingFrame x).freeDraws = s.freeDraws := by
  exact ⟨rfl, rfl, rfl, rfl, rfl, rfl, rfl, rfl, rfl, rfl, rfl, rfl, rfl⟩

@[simp] theorem setPendingFrame_tracker_transport (s : State) (x : Option Frame) : (s.setPendingFrame x).tracker.transport = s.tracker.transport := rfl
@[simp] theorem setPendingFrame_tracker_currentFrame (s : State) (x : Option Frame) : (s.setPendingFrame x).tracker.currentFrame = s.tracker.currentFrame := rfl
@[simp] theorem setPendingFrame_tracker_runCount (s : State) (x : Option Frame) : (s.setPendingFrame x).tracker.runCount = s.tracker.runCount := rfl
@[simp] theorem setPendingFrame_tracker_freewheelCount (s : State) (x : Option Frame) : (s.setPendingFrame x).tracker.freewheelCount = s.tracker.freewheelCount := rfl
@[simp] theorem setPendingFrame_tracker_frameTimer (s : State) (x : Option Frame) : (s.setPendingFrame x).tracker.frameTimer = s.tracker.frameTimer := rfl
@[simp] theorem setPendingFrame_tracker_lockLost (s : State) (x : Option Frame) : (s.setPendingFrame x).tracker.lockLost = s.tracker.lockLost := rfl
@[simp] theorem setPendingFrame_tracker_passOverrun (s : State) (x : Option Frame) : (s.setPendingFrame x).tracker.passOverrun = s.tracker.passOverrun := rfl
@[simp] theorem setPendingFrame_tracker_rate (s : State) (x : Option Frame) : (s.setPendingFrame x).tracker.rate = s.tracker.rate := rfl
@[simp] theorem setPendingFrame_tracker_acquireCount (s : State) (x : Option Frame) : (s.setPendingFrame x).tracker.acquireCount = s.tracker.acquireCount := rfl
@[simp] theorem setPendingFrame_tracker_freewheelLimit (s : State) (x : Option Frame) : (s.setPendingFrame x).tracker.freewheelLimit = s.tracker.freewheelLimit := rfl
@[simp] theorem setPendingFrame_tracker_pendingFrame (s : State) (x : Option Frame) : (s.setPendingFrame x).tracker.pendingFrame = x := rfl

@[simp] theorem setSurface_surface (s : State) (p : SurfaceId) (x : SurfacePort) :
    (s.setSurface p x).surface = tset s.surface p x := rfl
@[simp] theorem setEditor_editor (s : State) (x : EditorPort) : (s.setEditor x).editor = x := rfl
@[simp] theorem setTracker_tracker (s : State) (x : Tracker) : (s.setTracker x).tracker = x := rfl

/-! ## Reading what was written -/

@[simp] theorem seatOf_setSeat_self (s : State) (i : SeatId) (x : Seat) : (s.setSeat i x).seatOf i = x := by
  simp [seatOf]
@[simp] theorem seatOf_setSeat_ne (s : State) {i d : SeatId} (h : i ≠ d) (x : Seat) : (s.setSeat i x).seatOf d = s.seatOf d := by
  simp [seatOf, h]
@[simp] theorem touchOf_setTouch_self (s : State) (c : ControlId) (x : Option Touch) : (s.setTouch c x).touchOf c = x := by
  simp [touchOf]
@[simp] theorem touchOf_setTouch_ne (s : State) {c d : ControlId} (h : c ≠ d) (x : Option Touch) : (s.setTouch c x).touchOf d = s.touchOf d := by
  simp [touchOf, h]
@[simp] theorem liveOf_setLive_self (s : State) (c : ControlId) (x : Level) : (s.setLive c x).liveOf c = x := by
  simp [liveOf]
@[simp] theorem liveOf_setLive_ne (s : State) {c d : ControlId} (h : c ≠ d) (x : Level) : (s.setLive c x).liveOf d = s.liveOf d := by
  simp [liveOf, h]
@[simp] theorem configOf_setConfig_self (s : State) (c : ControlId) (x : ControlConfig) : (s.setConfig c x).configOf c = x := by
  simp [configOf]
@[simp] theorem configOf_setConfig_ne (s : State) {c d : ControlId} (h : c ≠ d) (x : ControlConfig) : (s.setConfig c x).configOf d = s.configOf d := by
  simp [configOf, h]
@[simp] theorem recordOf_setRecord_self (s : State) (c : ControlId) (x : EvalRecord) : (s.setRecord c x).recordOf c = x := by
  simp [recordOf]
@[simp] theorem recordOf_setRecord_ne (s : State) {c d : ControlId} (h : c ≠ d) (x : EvalRecord) : (s.setRecord c x).recordOf d = s.recordOf d := by
  simp [recordOf, h]
@[simp] theorem segmentOf_setSegment_self (s : State) (c : ControlId) (x : Option Segment) : (s.setSegment c x).segmentOf c = x := by
  simp [segmentOf]
@[simp] theorem segmentOf_setSegment_ne (s : State) {c d : ControlId} (h : c ≠ d) (x : Option Segment) : (s.setSegment c x).segmentOf d = s.segmentOf d := by
  simp [segmentOf, h]
@[simp] theorem listOf_setList_self (s : State) (c : ControlId) (x : Descriptor) : (s.setList c x).listOf c = x := by
  simp [listOf]
@[simp] theorem listOf_setList_ne (s : State) {c d : ControlId} (h : c ≠ d) (x : Descriptor) : (s.setList c x).listOf d = s.listOf d := by
  simp [listOf, h]
@[simp] theorem cursorOf_setCursor_self (s : State) (c : ControlId) (x : Cursor) : (s.setCursor c x).cursorOf c = x := by
  simp [cursorOf]
@[simp] theorem cursorOf_setCursor_ne (s : State) {c d : ControlId} (h : c ≠ d) (x : Cursor) : (s.setCursor c x).cursorOf d = s.cursorOf d := by
  simp [cursorOf, h]
@[simp] theorem surfaceOf_setSurface_self (s : State) (p : SurfaceId) (x : SurfacePort) : (s.setSurface p x).surfaceOf p = x := by
  simp [surfaceOf]
@[simp] theorem surfaceOf_setSurface_ne (s : State) {p d : SurfaceId} (h : p ≠ d) (x : SurfacePort) : (s.setSurface p x).surfaceOf d = s.surfaceOf d := by
  simp [surfaceOf, h]

/-! ## Reading one table after writing another -/

@[simp] theorem seatOf_setTouch (s : State) (c : ControlId) (x : Option Touch) (k : SeatId) : (s.setTouch c x).seatOf k = s.seatOf k := rfl
@[simp] theorem seatOf_setLive (s : State) (c : ControlId) (l : Level) (k : SeatId) : (s.setLive c l).seatOf k = s.seatOf k := rfl
@[simp] theorem seatOf_setConfig (s : State) (c : ControlId) (x : ControlConfig) (k : SeatId) : (s.setConfig c x).seatOf k = s.seatOf k := rfl
@[simp] theorem seatOf_setRecord (s : State) (c : ControlId) (x : EvalRecord) (k : SeatId) : (s.setRecord c x).seatOf k = s.seatOf k := rfl
@[simp] theorem seatOf_setRun (s : State) (x : PassRun) (k : SeatId) : (s.setRun x).seatOf k = s.seatOf k := rfl
@[simp] theorem seatOf_setSafe (s : State) (i : StemId) (b : Bool) (k : SeatId) : (s.setSafe i b).seatOf k = s.seatOf k := rfl
@[simp] theorem seatOf_setSegment (s : State) (c : ControlId) (x : Option Segment) (k : SeatId) : (s.setSegment c x).seatOf k = s.seatOf k := rfl
@[simp] theorem seatOf_setList (s : State) (c : ControlId) (x : Descriptor) (k : SeatId) : (s.setList c x).seatOf k = s.seatOf k := rfl
@[simp] theorem seatOf_setSpliceQueue (s : State) (q : List ClosedSegment) (k : SeatId) : (s.setSpliceQueue q).seatOf k = s.seatOf k := rfl
@[simp] theorem seatOf_setLoad (s : State) (x : Option Load) (k : SeatId) : (s.setLoad x).seatOf k = s.seatOf k := rfl
@[simp] theorem seatOf_setRefill (s : State) (x : Refill) (k : SeatId) : (s.setRefill x).seatOf k = s.seatOf k := rfl
@[simp] theorem seatOf_setFreeQueue (s : State) (q : List Slot) (k : SeatId) : (s.setFreeQueue q).seatOf k = s.seatOf k := rfl
@[simp] theorem seatOf_setSplice (s : State) (x : SpliceState) (k : SeatId) : (s.setSplice x).seatOf k = s.seatOf k := rfl
@[simp] theorem seatOf_postRequest (s : State) (r : MemRequest) (k : SeatId) : (s.postRequest r).seatOf k = s.seatOf k := rfl
@[simp] theorem seatOf_endAccess (s : State) (k : SeatId) : (s.endAccess).seatOf k = s.seatOf k := rfl
@[simp] theorem seatOf_setCursor (s : State) (c : ControlId) (x : Cursor) (k : SeatId) : (s.setCursor c x).seatOf k = s.seatOf k := rfl
@[simp] theorem seatOf_setWalk (s : State) (x : Option Walk) (k : SeatId) : (s.setWalk x).seatOf k = s.seatOf k := rfl
@[simp] theorem seatOf_setEntry (s : State) (b : BankId) (p : Fin 192) (e : Entry) (k : SeatId) : (s.setEntry b p e).seatOf k = s.seatOf k := rfl
@[simp] theorem seatOf_setSurface (s : State) (p : SurfaceId) (x : SurfacePort) (k : SeatId) : (s.setSurface p x).seatOf k = s.seatOf k := rfl
@[simp] theorem seatOf_setEditor (s : State) (x : EditorPort) (k : SeatId) : (s.setEditor x).seatOf k = s.seatOf k := rfl
@[simp] theorem seatOf_setTracker (s : State) (x : Tracker) (k : SeatId) : (s.setTracker x).seatOf k = s.seatOf k := rfl
@[simp] theorem seatOf_setPendingFrame (s : State) (x : Option Frame) (k : SeatId) : (s.setPendingFrame x).seatOf k = s.seatOf k := rfl
@[simp] theorem touchOf_setSeat (s : State) (i : SeatId) (x : Seat) (k : ControlId) : (s.setSeat i x).touchOf k = s.touchOf k := rfl
@[simp] theorem touchOf_setLive (s : State) (c : ControlId) (l : Level) (k : ControlId) : (s.setLive c l).touchOf k = s.touchOf k := rfl
@[simp] theorem touchOf_setConfig (s : State) (c : ControlId) (x : ControlConfig) (k : ControlId) : (s.setConfig c x).touchOf k = s.touchOf k := rfl
@[simp] theorem touchOf_setRecord (s : State) (c : ControlId) (x : EvalRecord) (k : ControlId) : (s.setRecord c x).touchOf k = s.touchOf k := rfl
@[simp] theorem touchOf_setRun (s : State) (x : PassRun) (k : ControlId) : (s.setRun x).touchOf k = s.touchOf k := rfl
@[simp] theorem touchOf_setSafe (s : State) (i : StemId) (b : Bool) (k : ControlId) : (s.setSafe i b).touchOf k = s.touchOf k := rfl
@[simp] theorem touchOf_setSegment (s : State) (c : ControlId) (x : Option Segment) (k : ControlId) : (s.setSegment c x).touchOf k = s.touchOf k := rfl
@[simp] theorem touchOf_setList (s : State) (c : ControlId) (x : Descriptor) (k : ControlId) : (s.setList c x).touchOf k = s.touchOf k := rfl
@[simp] theorem touchOf_setSpliceQueue (s : State) (q : List ClosedSegment) (k : ControlId) : (s.setSpliceQueue q).touchOf k = s.touchOf k := rfl
@[simp] theorem touchOf_setLoad (s : State) (x : Option Load) (k : ControlId) : (s.setLoad x).touchOf k = s.touchOf k := rfl
@[simp] theorem touchOf_setRefill (s : State) (x : Refill) (k : ControlId) : (s.setRefill x).touchOf k = s.touchOf k := rfl
@[simp] theorem touchOf_setFreeQueue (s : State) (q : List Slot) (k : ControlId) : (s.setFreeQueue q).touchOf k = s.touchOf k := rfl
@[simp] theorem touchOf_setSplice (s : State) (x : SpliceState) (k : ControlId) : (s.setSplice x).touchOf k = s.touchOf k := rfl
@[simp] theorem touchOf_postRequest (s : State) (r : MemRequest) (k : ControlId) : (s.postRequest r).touchOf k = s.touchOf k := rfl
@[simp] theorem touchOf_endAccess (s : State) (k : ControlId) : (s.endAccess).touchOf k = s.touchOf k := rfl
@[simp] theorem touchOf_setCursor (s : State) (c : ControlId) (x : Cursor) (k : ControlId) : (s.setCursor c x).touchOf k = s.touchOf k := rfl
@[simp] theorem touchOf_setWalk (s : State) (x : Option Walk) (k : ControlId) : (s.setWalk x).touchOf k = s.touchOf k := rfl
@[simp] theorem touchOf_setEntry (s : State) (b : BankId) (p : Fin 192) (e : Entry) (k : ControlId) : (s.setEntry b p e).touchOf k = s.touchOf k := rfl
@[simp] theorem touchOf_setSurface (s : State) (p : SurfaceId) (x : SurfacePort) (k : ControlId) : (s.setSurface p x).touchOf k = s.touchOf k := rfl
@[simp] theorem touchOf_setEditor (s : State) (x : EditorPort) (k : ControlId) : (s.setEditor x).touchOf k = s.touchOf k := rfl
@[simp] theorem touchOf_setTracker (s : State) (x : Tracker) (k : ControlId) : (s.setTracker x).touchOf k = s.touchOf k := rfl
@[simp] theorem touchOf_setPendingFrame (s : State) (x : Option Frame) (k : ControlId) : (s.setPendingFrame x).touchOf k = s.touchOf k := rfl
@[simp] theorem liveOf_setSeat (s : State) (i : SeatId) (x : Seat) (k : ControlId) : (s.setSeat i x).liveOf k = s.liveOf k := rfl
@[simp] theorem liveOf_setTouch (s : State) (c : ControlId) (x : Option Touch) (k : ControlId) : (s.setTouch c x).liveOf k = s.liveOf k := rfl
@[simp] theorem liveOf_setConfig (s : State) (c : ControlId) (x : ControlConfig) (k : ControlId) : (s.setConfig c x).liveOf k = s.liveOf k := rfl
@[simp] theorem liveOf_setRecord (s : State) (c : ControlId) (x : EvalRecord) (k : ControlId) : (s.setRecord c x).liveOf k = s.liveOf k := rfl
@[simp] theorem liveOf_setRun (s : State) (x : PassRun) (k : ControlId) : (s.setRun x).liveOf k = s.liveOf k := rfl
@[simp] theorem liveOf_setSafe (s : State) (i : StemId) (b : Bool) (k : ControlId) : (s.setSafe i b).liveOf k = s.liveOf k := rfl
@[simp] theorem liveOf_setSegment (s : State) (c : ControlId) (x : Option Segment) (k : ControlId) : (s.setSegment c x).liveOf k = s.liveOf k := rfl
@[simp] theorem liveOf_setList (s : State) (c : ControlId) (x : Descriptor) (k : ControlId) : (s.setList c x).liveOf k = s.liveOf k := rfl
@[simp] theorem liveOf_setSpliceQueue (s : State) (q : List ClosedSegment) (k : ControlId) : (s.setSpliceQueue q).liveOf k = s.liveOf k := rfl
@[simp] theorem liveOf_setLoad (s : State) (x : Option Load) (k : ControlId) : (s.setLoad x).liveOf k = s.liveOf k := rfl
@[simp] theorem liveOf_setRefill (s : State) (x : Refill) (k : ControlId) : (s.setRefill x).liveOf k = s.liveOf k := rfl
@[simp] theorem liveOf_setFreeQueue (s : State) (q : List Slot) (k : ControlId) : (s.setFreeQueue q).liveOf k = s.liveOf k := rfl
@[simp] theorem liveOf_setSplice (s : State) (x : SpliceState) (k : ControlId) : (s.setSplice x).liveOf k = s.liveOf k := rfl
@[simp] theorem liveOf_postRequest (s : State) (r : MemRequest) (k : ControlId) : (s.postRequest r).liveOf k = s.liveOf k := rfl
@[simp] theorem liveOf_endAccess (s : State) (k : ControlId) : (s.endAccess).liveOf k = s.liveOf k := rfl
@[simp] theorem liveOf_setCursor (s : State) (c : ControlId) (x : Cursor) (k : ControlId) : (s.setCursor c x).liveOf k = s.liveOf k := rfl
@[simp] theorem liveOf_setWalk (s : State) (x : Option Walk) (k : ControlId) : (s.setWalk x).liveOf k = s.liveOf k := rfl
@[simp] theorem liveOf_setEntry (s : State) (b : BankId) (p : Fin 192) (e : Entry) (k : ControlId) : (s.setEntry b p e).liveOf k = s.liveOf k := rfl
@[simp] theorem liveOf_setSurface (s : State) (p : SurfaceId) (x : SurfacePort) (k : ControlId) : (s.setSurface p x).liveOf k = s.liveOf k := rfl
@[simp] theorem liveOf_setEditor (s : State) (x : EditorPort) (k : ControlId) : (s.setEditor x).liveOf k = s.liveOf k := rfl
@[simp] theorem liveOf_setTracker (s : State) (x : Tracker) (k : ControlId) : (s.setTracker x).liveOf k = s.liveOf k := rfl
@[simp] theorem liveOf_setPendingFrame (s : State) (x : Option Frame) (k : ControlId) : (s.setPendingFrame x).liveOf k = s.liveOf k := rfl
@[simp] theorem configOf_setSeat (s : State) (i : SeatId) (x : Seat) (k : ControlId) : (s.setSeat i x).configOf k = s.configOf k := rfl
@[simp] theorem configOf_setTouch (s : State) (c : ControlId) (x : Option Touch) (k : ControlId) : (s.setTouch c x).configOf k = s.configOf k := rfl
@[simp] theorem configOf_setLive (s : State) (c : ControlId) (l : Level) (k : ControlId) : (s.setLive c l).configOf k = s.configOf k := rfl
@[simp] theorem configOf_setRecord (s : State) (c : ControlId) (x : EvalRecord) (k : ControlId) : (s.setRecord c x).configOf k = s.configOf k := rfl
@[simp] theorem configOf_setRun (s : State) (x : PassRun) (k : ControlId) : (s.setRun x).configOf k = s.configOf k := rfl
@[simp] theorem configOf_setSafe (s : State) (i : StemId) (b : Bool) (k : ControlId) : (s.setSafe i b).configOf k = s.configOf k := rfl
@[simp] theorem configOf_setSegment (s : State) (c : ControlId) (x : Option Segment) (k : ControlId) : (s.setSegment c x).configOf k = s.configOf k := rfl
@[simp] theorem configOf_setList (s : State) (c : ControlId) (x : Descriptor) (k : ControlId) : (s.setList c x).configOf k = s.configOf k := rfl
@[simp] theorem configOf_setSpliceQueue (s : State) (q : List ClosedSegment) (k : ControlId) : (s.setSpliceQueue q).configOf k = s.configOf k := rfl
@[simp] theorem configOf_setLoad (s : State) (x : Option Load) (k : ControlId) : (s.setLoad x).configOf k = s.configOf k := rfl
@[simp] theorem configOf_setRefill (s : State) (x : Refill) (k : ControlId) : (s.setRefill x).configOf k = s.configOf k := rfl
@[simp] theorem configOf_setFreeQueue (s : State) (q : List Slot) (k : ControlId) : (s.setFreeQueue q).configOf k = s.configOf k := rfl
@[simp] theorem configOf_setSplice (s : State) (x : SpliceState) (k : ControlId) : (s.setSplice x).configOf k = s.configOf k := rfl
@[simp] theorem configOf_postRequest (s : State) (r : MemRequest) (k : ControlId) : (s.postRequest r).configOf k = s.configOf k := rfl
@[simp] theorem configOf_endAccess (s : State) (k : ControlId) : (s.endAccess).configOf k = s.configOf k := rfl
@[simp] theorem configOf_setCursor (s : State) (c : ControlId) (x : Cursor) (k : ControlId) : (s.setCursor c x).configOf k = s.configOf k := rfl
@[simp] theorem configOf_setWalk (s : State) (x : Option Walk) (k : ControlId) : (s.setWalk x).configOf k = s.configOf k := rfl
@[simp] theorem configOf_setEntry (s : State) (b : BankId) (p : Fin 192) (e : Entry) (k : ControlId) : (s.setEntry b p e).configOf k = s.configOf k := rfl
@[simp] theorem configOf_setSurface (s : State) (p : SurfaceId) (x : SurfacePort) (k : ControlId) : (s.setSurface p x).configOf k = s.configOf k := rfl
@[simp] theorem configOf_setEditor (s : State) (x : EditorPort) (k : ControlId) : (s.setEditor x).configOf k = s.configOf k := rfl
@[simp] theorem configOf_setTracker (s : State) (x : Tracker) (k : ControlId) : (s.setTracker x).configOf k = s.configOf k := rfl
@[simp] theorem configOf_setPendingFrame (s : State) (x : Option Frame) (k : ControlId) : (s.setPendingFrame x).configOf k = s.configOf k := rfl
@[simp] theorem recordOf_setSeat (s : State) (i : SeatId) (x : Seat) (k : ControlId) : (s.setSeat i x).recordOf k = s.recordOf k := rfl
@[simp] theorem recordOf_setTouch (s : State) (c : ControlId) (x : Option Touch) (k : ControlId) : (s.setTouch c x).recordOf k = s.recordOf k := rfl
@[simp] theorem recordOf_setLive (s : State) (c : ControlId) (l : Level) (k : ControlId) : (s.setLive c l).recordOf k = s.recordOf k := rfl
@[simp] theorem recordOf_setConfig (s : State) (c : ControlId) (x : ControlConfig) (k : ControlId) : (s.setConfig c x).recordOf k = s.recordOf k := rfl
@[simp] theorem recordOf_setRun (s : State) (x : PassRun) (k : ControlId) : (s.setRun x).recordOf k = s.recordOf k := rfl
@[simp] theorem recordOf_setSafe (s : State) (i : StemId) (b : Bool) (k : ControlId) : (s.setSafe i b).recordOf k = s.recordOf k := rfl
@[simp] theorem recordOf_setSegment (s : State) (c : ControlId) (x : Option Segment) (k : ControlId) : (s.setSegment c x).recordOf k = s.recordOf k := rfl
@[simp] theorem recordOf_setList (s : State) (c : ControlId) (x : Descriptor) (k : ControlId) : (s.setList c x).recordOf k = s.recordOf k := rfl
@[simp] theorem recordOf_setSpliceQueue (s : State) (q : List ClosedSegment) (k : ControlId) : (s.setSpliceQueue q).recordOf k = s.recordOf k := rfl
@[simp] theorem recordOf_setLoad (s : State) (x : Option Load) (k : ControlId) : (s.setLoad x).recordOf k = s.recordOf k := rfl
@[simp] theorem recordOf_setRefill (s : State) (x : Refill) (k : ControlId) : (s.setRefill x).recordOf k = s.recordOf k := rfl
@[simp] theorem recordOf_setFreeQueue (s : State) (q : List Slot) (k : ControlId) : (s.setFreeQueue q).recordOf k = s.recordOf k := rfl
@[simp] theorem recordOf_setSplice (s : State) (x : SpliceState) (k : ControlId) : (s.setSplice x).recordOf k = s.recordOf k := rfl
@[simp] theorem recordOf_postRequest (s : State) (r : MemRequest) (k : ControlId) : (s.postRequest r).recordOf k = s.recordOf k := rfl
@[simp] theorem recordOf_endAccess (s : State) (k : ControlId) : (s.endAccess).recordOf k = s.recordOf k := rfl
@[simp] theorem recordOf_setCursor (s : State) (c : ControlId) (x : Cursor) (k : ControlId) : (s.setCursor c x).recordOf k = s.recordOf k := rfl
@[simp] theorem recordOf_setWalk (s : State) (x : Option Walk) (k : ControlId) : (s.setWalk x).recordOf k = s.recordOf k := rfl
@[simp] theorem recordOf_setEntry (s : State) (b : BankId) (p : Fin 192) (e : Entry) (k : ControlId) : (s.setEntry b p e).recordOf k = s.recordOf k := rfl
@[simp] theorem recordOf_setSurface (s : State) (p : SurfaceId) (x : SurfacePort) (k : ControlId) : (s.setSurface p x).recordOf k = s.recordOf k := rfl
@[simp] theorem recordOf_setEditor (s : State) (x : EditorPort) (k : ControlId) : (s.setEditor x).recordOf k = s.recordOf k := rfl
@[simp] theorem recordOf_setTracker (s : State) (x : Tracker) (k : ControlId) : (s.setTracker x).recordOf k = s.recordOf k := rfl
@[simp] theorem recordOf_setPendingFrame (s : State) (x : Option Frame) (k : ControlId) : (s.setPendingFrame x).recordOf k = s.recordOf k := rfl
@[simp] theorem segmentOf_setSeat (s : State) (i : SeatId) (x : Seat) (k : ControlId) : (s.setSeat i x).segmentOf k = s.segmentOf k := rfl
@[simp] theorem segmentOf_setTouch (s : State) (c : ControlId) (x : Option Touch) (k : ControlId) : (s.setTouch c x).segmentOf k = s.segmentOf k := rfl
@[simp] theorem segmentOf_setLive (s : State) (c : ControlId) (l : Level) (k : ControlId) : (s.setLive c l).segmentOf k = s.segmentOf k := rfl
@[simp] theorem segmentOf_setConfig (s : State) (c : ControlId) (x : ControlConfig) (k : ControlId) : (s.setConfig c x).segmentOf k = s.segmentOf k := rfl
@[simp] theorem segmentOf_setRecord (s : State) (c : ControlId) (x : EvalRecord) (k : ControlId) : (s.setRecord c x).segmentOf k = s.segmentOf k := rfl
@[simp] theorem segmentOf_setRun (s : State) (x : PassRun) (k : ControlId) : (s.setRun x).segmentOf k = s.segmentOf k := rfl
@[simp] theorem segmentOf_setSafe (s : State) (i : StemId) (b : Bool) (k : ControlId) : (s.setSafe i b).segmentOf k = s.segmentOf k := rfl
@[simp] theorem segmentOf_setList (s : State) (c : ControlId) (x : Descriptor) (k : ControlId) : (s.setList c x).segmentOf k = s.segmentOf k := rfl
@[simp] theorem segmentOf_setSpliceQueue (s : State) (q : List ClosedSegment) (k : ControlId) : (s.setSpliceQueue q).segmentOf k = s.segmentOf k := rfl
@[simp] theorem segmentOf_setLoad (s : State) (x : Option Load) (k : ControlId) : (s.setLoad x).segmentOf k = s.segmentOf k := rfl
@[simp] theorem segmentOf_setRefill (s : State) (x : Refill) (k : ControlId) : (s.setRefill x).segmentOf k = s.segmentOf k := rfl
@[simp] theorem segmentOf_setFreeQueue (s : State) (q : List Slot) (k : ControlId) : (s.setFreeQueue q).segmentOf k = s.segmentOf k := rfl
@[simp] theorem segmentOf_setSplice (s : State) (x : SpliceState) (k : ControlId) : (s.setSplice x).segmentOf k = s.segmentOf k := rfl
@[simp] theorem segmentOf_postRequest (s : State) (r : MemRequest) (k : ControlId) : (s.postRequest r).segmentOf k = s.segmentOf k := rfl
@[simp] theorem segmentOf_endAccess (s : State) (k : ControlId) : (s.endAccess).segmentOf k = s.segmentOf k := rfl
@[simp] theorem segmentOf_setCursor (s : State) (c : ControlId) (x : Cursor) (k : ControlId) : (s.setCursor c x).segmentOf k = s.segmentOf k := rfl
@[simp] theorem segmentOf_setWalk (s : State) (x : Option Walk) (k : ControlId) : (s.setWalk x).segmentOf k = s.segmentOf k := rfl
@[simp] theorem segmentOf_setEntry (s : State) (b : BankId) (p : Fin 192) (e : Entry) (k : ControlId) : (s.setEntry b p e).segmentOf k = s.segmentOf k := rfl
@[simp] theorem segmentOf_setSurface (s : State) (p : SurfaceId) (x : SurfacePort) (k : ControlId) : (s.setSurface p x).segmentOf k = s.segmentOf k := rfl
@[simp] theorem segmentOf_setEditor (s : State) (x : EditorPort) (k : ControlId) : (s.setEditor x).segmentOf k = s.segmentOf k := rfl
@[simp] theorem segmentOf_setTracker (s : State) (x : Tracker) (k : ControlId) : (s.setTracker x).segmentOf k = s.segmentOf k := rfl
@[simp] theorem segmentOf_setPendingFrame (s : State) (x : Option Frame) (k : ControlId) : (s.setPendingFrame x).segmentOf k = s.segmentOf k := rfl
@[simp] theorem listOf_setSeat (s : State) (i : SeatId) (x : Seat) (k : ControlId) : (s.setSeat i x).listOf k = s.listOf k := rfl
@[simp] theorem listOf_setTouch (s : State) (c : ControlId) (x : Option Touch) (k : ControlId) : (s.setTouch c x).listOf k = s.listOf k := rfl
@[simp] theorem listOf_setLive (s : State) (c : ControlId) (l : Level) (k : ControlId) : (s.setLive c l).listOf k = s.listOf k := rfl
@[simp] theorem listOf_setConfig (s : State) (c : ControlId) (x : ControlConfig) (k : ControlId) : (s.setConfig c x).listOf k = s.listOf k := rfl
@[simp] theorem listOf_setRecord (s : State) (c : ControlId) (x : EvalRecord) (k : ControlId) : (s.setRecord c x).listOf k = s.listOf k := rfl
@[simp] theorem listOf_setRun (s : State) (x : PassRun) (k : ControlId) : (s.setRun x).listOf k = s.listOf k := rfl
@[simp] theorem listOf_setSafe (s : State) (i : StemId) (b : Bool) (k : ControlId) : (s.setSafe i b).listOf k = s.listOf k := rfl
@[simp] theorem listOf_setSegment (s : State) (c : ControlId) (x : Option Segment) (k : ControlId) : (s.setSegment c x).listOf k = s.listOf k := rfl
@[simp] theorem listOf_setSpliceQueue (s : State) (q : List ClosedSegment) (k : ControlId) : (s.setSpliceQueue q).listOf k = s.listOf k := rfl
@[simp] theorem listOf_setLoad (s : State) (x : Option Load) (k : ControlId) : (s.setLoad x).listOf k = s.listOf k := rfl
@[simp] theorem listOf_setRefill (s : State) (x : Refill) (k : ControlId) : (s.setRefill x).listOf k = s.listOf k := rfl
@[simp] theorem listOf_setFreeQueue (s : State) (q : List Slot) (k : ControlId) : (s.setFreeQueue q).listOf k = s.listOf k := rfl
@[simp] theorem listOf_setSplice (s : State) (x : SpliceState) (k : ControlId) : (s.setSplice x).listOf k = s.listOf k := rfl
@[simp] theorem listOf_postRequest (s : State) (r : MemRequest) (k : ControlId) : (s.postRequest r).listOf k = s.listOf k := rfl
@[simp] theorem listOf_endAccess (s : State) (k : ControlId) : (s.endAccess).listOf k = s.listOf k := rfl
@[simp] theorem listOf_setCursor (s : State) (c : ControlId) (x : Cursor) (k : ControlId) : (s.setCursor c x).listOf k = s.listOf k := rfl
@[simp] theorem listOf_setWalk (s : State) (x : Option Walk) (k : ControlId) : (s.setWalk x).listOf k = s.listOf k := rfl
@[simp] theorem listOf_setEntry (s : State) (b : BankId) (p : Fin 192) (e : Entry) (k : ControlId) : (s.setEntry b p e).listOf k = s.listOf k := rfl
@[simp] theorem listOf_setSurface (s : State) (p : SurfaceId) (x : SurfacePort) (k : ControlId) : (s.setSurface p x).listOf k = s.listOf k := rfl
@[simp] theorem listOf_setEditor (s : State) (x : EditorPort) (k : ControlId) : (s.setEditor x).listOf k = s.listOf k := rfl
@[simp] theorem listOf_setTracker (s : State) (x : Tracker) (k : ControlId) : (s.setTracker x).listOf k = s.listOf k := rfl
@[simp] theorem listOf_setPendingFrame (s : State) (x : Option Frame) (k : ControlId) : (s.setPendingFrame x).listOf k = s.listOf k := rfl
@[simp] theorem cursorOf_setSeat (s : State) (i : SeatId) (x : Seat) (k : ControlId) : (s.setSeat i x).cursorOf k = s.cursorOf k := rfl
@[simp] theorem cursorOf_setTouch (s : State) (c : ControlId) (x : Option Touch) (k : ControlId) : (s.setTouch c x).cursorOf k = s.cursorOf k := rfl
@[simp] theorem cursorOf_setLive (s : State) (c : ControlId) (l : Level) (k : ControlId) : (s.setLive c l).cursorOf k = s.cursorOf k := rfl
@[simp] theorem cursorOf_setConfig (s : State) (c : ControlId) (x : ControlConfig) (k : ControlId) : (s.setConfig c x).cursorOf k = s.cursorOf k := rfl
@[simp] theorem cursorOf_setRecord (s : State) (c : ControlId) (x : EvalRecord) (k : ControlId) : (s.setRecord c x).cursorOf k = s.cursorOf k := rfl
@[simp] theorem cursorOf_setRun (s : State) (x : PassRun) (k : ControlId) : (s.setRun x).cursorOf k = s.cursorOf k := rfl
@[simp] theorem cursorOf_setSafe (s : State) (i : StemId) (b : Bool) (k : ControlId) : (s.setSafe i b).cursorOf k = s.cursorOf k := rfl
@[simp] theorem cursorOf_setSegment (s : State) (c : ControlId) (x : Option Segment) (k : ControlId) : (s.setSegment c x).cursorOf k = s.cursorOf k := rfl
@[simp] theorem cursorOf_setList (s : State) (c : ControlId) (x : Descriptor) (k : ControlId) : (s.setList c x).cursorOf k = s.cursorOf k := rfl
@[simp] theorem cursorOf_setSpliceQueue (s : State) (q : List ClosedSegment) (k : ControlId) : (s.setSpliceQueue q).cursorOf k = s.cursorOf k := rfl
@[simp] theorem cursorOf_setLoad (s : State) (x : Option Load) (k : ControlId) : (s.setLoad x).cursorOf k = s.cursorOf k := rfl
@[simp] theorem cursorOf_setRefill (s : State) (x : Refill) (k : ControlId) : (s.setRefill x).cursorOf k = s.cursorOf k := rfl
@[simp] theorem cursorOf_setFreeQueue (s : State) (q : List Slot) (k : ControlId) : (s.setFreeQueue q).cursorOf k = s.cursorOf k := rfl
@[simp] theorem cursorOf_setSplice (s : State) (x : SpliceState) (k : ControlId) : (s.setSplice x).cursorOf k = s.cursorOf k := rfl
@[simp] theorem cursorOf_postRequest (s : State) (r : MemRequest) (k : ControlId) : (s.postRequest r).cursorOf k = s.cursorOf k := rfl
@[simp] theorem cursorOf_endAccess (s : State) (k : ControlId) : (s.endAccess).cursorOf k = s.cursorOf k := rfl
@[simp] theorem cursorOf_setWalk (s : State) (x : Option Walk) (k : ControlId) : (s.setWalk x).cursorOf k = s.cursorOf k := rfl
@[simp] theorem cursorOf_setEntry (s : State) (b : BankId) (p : Fin 192) (e : Entry) (k : ControlId) : (s.setEntry b p e).cursorOf k = s.cursorOf k := rfl
@[simp] theorem cursorOf_setSurface (s : State) (p : SurfaceId) (x : SurfacePort) (k : ControlId) : (s.setSurface p x).cursorOf k = s.cursorOf k := rfl
@[simp] theorem cursorOf_setEditor (s : State) (x : EditorPort) (k : ControlId) : (s.setEditor x).cursorOf k = s.cursorOf k := rfl
@[simp] theorem cursorOf_setTracker (s : State) (x : Tracker) (k : ControlId) : (s.setTracker x).cursorOf k = s.cursorOf k := rfl
@[simp] theorem cursorOf_setPendingFrame (s : State) (x : Option Frame) (k : ControlId) : (s.setPendingFrame x).cursorOf k = s.cursorOf k := rfl
@[simp] theorem surfaceOf_setSeat (s : State) (i : SeatId) (x : Seat) (k : SurfaceId) : (s.setSeat i x).surfaceOf k = s.surfaceOf k := rfl
@[simp] theorem surfaceOf_setTouch (s : State) (c : ControlId) (x : Option Touch) (k : SurfaceId) : (s.setTouch c x).surfaceOf k = s.surfaceOf k := rfl
@[simp] theorem surfaceOf_setLive (s : State) (c : ControlId) (l : Level) (k : SurfaceId) : (s.setLive c l).surfaceOf k = s.surfaceOf k := rfl
@[simp] theorem surfaceOf_setConfig (s : State) (c : ControlId) (x : ControlConfig) (k : SurfaceId) : (s.setConfig c x).surfaceOf k = s.surfaceOf k := rfl
@[simp] theorem surfaceOf_setRecord (s : State) (c : ControlId) (x : EvalRecord) (k : SurfaceId) : (s.setRecord c x).surfaceOf k = s.surfaceOf k := rfl
@[simp] theorem surfaceOf_setRun (s : State) (x : PassRun) (k : SurfaceId) : (s.setRun x).surfaceOf k = s.surfaceOf k := rfl
@[simp] theorem surfaceOf_setSafe (s : State) (i : StemId) (b : Bool) (k : SurfaceId) : (s.setSafe i b).surfaceOf k = s.surfaceOf k := rfl
@[simp] theorem surfaceOf_setSegment (s : State) (c : ControlId) (x : Option Segment) (k : SurfaceId) : (s.setSegment c x).surfaceOf k = s.surfaceOf k := rfl
@[simp] theorem surfaceOf_setList (s : State) (c : ControlId) (x : Descriptor) (k : SurfaceId) : (s.setList c x).surfaceOf k = s.surfaceOf k := rfl
@[simp] theorem surfaceOf_setSpliceQueue (s : State) (q : List ClosedSegment) (k : SurfaceId) : (s.setSpliceQueue q).surfaceOf k = s.surfaceOf k := rfl
@[simp] theorem surfaceOf_setLoad (s : State) (x : Option Load) (k : SurfaceId) : (s.setLoad x).surfaceOf k = s.surfaceOf k := rfl
@[simp] theorem surfaceOf_setRefill (s : State) (x : Refill) (k : SurfaceId) : (s.setRefill x).surfaceOf k = s.surfaceOf k := rfl
@[simp] theorem surfaceOf_setFreeQueue (s : State) (q : List Slot) (k : SurfaceId) : (s.setFreeQueue q).surfaceOf k = s.surfaceOf k := rfl
@[simp] theorem surfaceOf_setSplice (s : State) (x : SpliceState) (k : SurfaceId) : (s.setSplice x).surfaceOf k = s.surfaceOf k := rfl
@[simp] theorem surfaceOf_postRequest (s : State) (r : MemRequest) (k : SurfaceId) : (s.postRequest r).surfaceOf k = s.surfaceOf k := rfl
@[simp] theorem surfaceOf_endAccess (s : State) (k : SurfaceId) : (s.endAccess).surfaceOf k = s.surfaceOf k := rfl
@[simp] theorem surfaceOf_setCursor (s : State) (c : ControlId) (x : Cursor) (k : SurfaceId) : (s.setCursor c x).surfaceOf k = s.surfaceOf k := rfl
@[simp] theorem surfaceOf_setWalk (s : State) (x : Option Walk) (k : SurfaceId) : (s.setWalk x).surfaceOf k = s.surfaceOf k := rfl
@[simp] theorem surfaceOf_setEntry (s : State) (b : BankId) (p : Fin 192) (e : Entry) (k : SurfaceId) : (s.setEntry b p e).surfaceOf k = s.surfaceOf k := rfl
@[simp] theorem surfaceOf_setEditor (s : State) (x : EditorPort) (k : SurfaceId) : (s.setEditor x).surfaceOf k = s.surfaceOf k := rfl
@[simp] theorem surfaceOf_setTracker (s : State) (x : Tracker) (k : SurfaceId) : (s.setTracker x).surfaceOf k = s.surfaceOf k := rfl
@[simp] theorem surfaceOf_setPendingFrame (s : State) (x : Option Frame) (k : SurfaceId) : (s.setPendingFrame x).surfaceOf k = s.surfaceOf k := rfl

/-! ## Questions that read one part only -/

theorem seatOf_congr {s t : State} (h : t.arbiter = s.arbiter) (c : SeatId) : t.seatOf c = s.seatOf c := by
  simp [seatOf, h]
theorem touchOf_congr {s t : State} (h : t.arbiter = s.arbiter) (c : ControlId) : t.touchOf c = s.touchOf c := by
  simp [touchOf, h]
theorem liveOf_congr {s t : State} (h : t.arbiter = s.arbiter) (c : ControlId) : t.liveOf c = s.liveOf c := by
  simp [liveOf, h]
theorem configOf_congr {s t : State} (h : t.pass = s.pass) (c : ControlId) : t.configOf c = s.configOf c := by
  simp [configOf, h]
theorem recordOf_congr {s t : State} (h : t.pass = s.pass) (c : ControlId) : t.recordOf c = s.recordOf c := by
  simp [recordOf, h]
theorem segmentOf_congr {s t : State} (h : t.writer = s.writer) (c : ControlId) : t.segmentOf c = s.segmentOf c := by
  simp [segmentOf, h]
theorem listOf_congr {s t : State} (h : t.store = s.store) (c : ControlId) : t.listOf c = s.listOf c := by
  simp [listOf, h]
theorem cursorOf_congr {s t : State} (h : t.cursors = s.cursors) (c : ControlId) : t.cursorOf c = s.cursorOf c := by
  simp [cursorOf, h]
theorem surfaceOf_congr {s t : State} (h : t.surface = s.surface) (c : SurfaceId) : t.surfaceOf c = s.surfaceOf c := by
  simp [surfaceOf, h]

end State

end Sys2Proof.Machine
end

