-- ==== Sys2Proof/Laws/Frames.lean ====
section
/-! SUPPORT. What each shared operation leaves alone: one lemma per operation, whose equations are simp lemmas, so that a
proof about a step rewrites the parts the step does not reach and never unfolds the operation. -/

namespace Sys2Proof.Machine.State

/-! ## Flags -/

@[simp] theorem flagRise_frame (s : State) :
    (s.flagRise).pending = s.pending ∧ (s.flagRise).now = s.now ∧ (s.flagRise).tracker = s.tracker ∧
    (s.flagRise).arbiter = s.arbiter ∧ (s.flagRise).pass = s.pass ∧ (s.flagRise).writer = s.writer ∧
    (s.flagRise).store = s.store ∧ (s.flagRise).memory = s.memory ∧ (s.flagRise).port = s.port ∧
    (s.flagRise).cursors = s.cursors ∧ (s.flagRise).engine = s.engine ∧ (s.flagRise).surface = s.surface ∧
    (s.flagRise).freeDraws = s.freeDraws := by
  unfold flagRise
  repeat' split
  all_goals simp

@[simp] theorem raiseLockLost_frame (s : State) :
    (s.raiseLockLost).pending = s.pending ∧ (s.raiseLockLost).now = s.now ∧ (s.raiseLockLost).arbiter = s.arbiter ∧
    (s.raiseLockLost).pass = s.pass ∧ (s.raiseLockLost).writer = s.writer ∧ (s.raiseLockLost).store = s.store ∧
    (s.raiseLockLost).memory = s.memory ∧ (s.raiseLockLost).port = s.port ∧ (s.raiseLockLost).cursors = s.cursors ∧
    (s.raiseLockLost).engine = s.engine ∧ (s.raiseLockLost).surface = s.surface ∧ (s.raiseLockLost).freeDraws = s.freeDraws := by
  unfold raiseLockLost
  repeat' split
  all_goals simp

@[simp] theorem raisePassOverrun_frame (s : State) :
    (s.raisePassOverrun).pending = s.pending ∧ (s.raisePassOverrun).now = s.now ∧ (s.raisePassOverrun).arbiter = s.arbiter ∧
    (s.raisePassOverrun).pass = s.pass ∧ (s.raisePassOverrun).writer = s.writer ∧ (s.raisePassOverrun).store = s.store ∧
    (s.raisePassOverrun).memory = s.memory ∧ (s.raisePassOverrun).port = s.port ∧ (s.raisePassOverrun).cursors = s.cursors ∧
    (s.raisePassOverrun).engine = s.engine ∧ (s.raisePassOverrun).surface = s.surface ∧ (s.raisePassOverrun).freeDraws = s.freeDraws := by
  unfold raisePassOverrun
  repeat' split
  all_goals simp

@[simp] theorem raisePoolLow_frame (s : State) :
    (s.raisePoolLow).pending = s.pending ∧ (s.raisePoolLow).now = s.now ∧ (s.raisePoolLow).tracker = s.tracker ∧
    (s.raisePoolLow).arbiter = s.arbiter ∧ (s.raisePoolLow).pass = s.pass ∧ (s.raisePoolLow).writer = s.writer ∧
    (s.raisePoolLow).memory = s.memory ∧ (s.raisePoolLow).port = s.port ∧ (s.raisePoolLow).cursors = s.cursors ∧
    (s.raisePoolLow).engine = s.engine ∧ (s.raisePoolLow).surface = s.surface ∧ (s.raisePoolLow).freeDraws = s.freeDraws := by
  unfold raisePoolLow
  repeat' split
  all_goals simp

@[simp] theorem raiseLinkDown_frame (s : State) (p : SurfaceId) :
    (s.raiseLinkDown p).pending = s.pending ∧ (s.raiseLinkDown p).now = s.now ∧ (s.raiseLinkDown p).tracker = s.tracker ∧
    (s.raiseLinkDown p).arbiter = s.arbiter ∧ (s.raiseLinkDown p).pass = s.pass ∧ (s.raiseLinkDown p).writer = s.writer ∧
    (s.raiseLinkDown p).store = s.store ∧ (s.raiseLinkDown p).memory = s.memory ∧ (s.raiseLinkDown p).port = s.port ∧
    (s.raiseLinkDown p).cursors = s.cursors ∧ (s.raiseLinkDown p).engine = s.engine ∧ (s.raiseLinkDown p).freeDraws = s.freeDraws := by
  unfold raiseLinkDown
  repeat' split
  all_goals simp

@[simp] theorem clearFlagSet_frame (s : State) (set : Byte) :
    (s.clearFlagSet set).pending = s.pending ∧ (s.clearFlagSet set).now = s.now ∧ (s.clearFlagSet set).arbiter = s.arbiter ∧
    (s.clearFlagSet set).pass = s.pass ∧ (s.clearFlagSet set).writer = s.writer ∧ (s.clearFlagSet set).memory = s.memory ∧
    (s.clearFlagSet set).port = s.port ∧ (s.clearFlagSet set).cursors = s.cursors ∧ (s.clearFlagSet set).engine = s.engine ∧
    (s.clearFlagSet set).editor = s.editor ∧ (s.clearFlagSet set).freeDraws = s.freeDraws := by
  unfold clearFlagSet
  simp

/-! ## Ports -/

@[simp] theorem whenUp_frame (s : State) (p : SurfaceId) (f : SurfacePort → SurfacePort) :
    (s.whenUp p f).pending = s.pending ∧ (s.whenUp p f).now = s.now ∧ (s.whenUp p f).tracker = s.tracker ∧
    (s.whenUp p f).arbiter = s.arbiter ∧ (s.whenUp p f).pass = s.pass ∧ (s.whenUp p f).writer = s.writer ∧
    (s.whenUp p f).store = s.store ∧ (s.whenUp p f).memory = s.memory ∧ (s.whenUp p f).port = s.port ∧
    (s.whenUp p f).cursors = s.cursors ∧ (s.whenUp p f).engine = s.engine ∧ (s.whenUp p f).editor = s.editor ∧
    (s.whenUp p f).freeDraws = s.freeDraws := by
  unfold whenUp
  repeat' split
  all_goals simp

@[simp] theorem postReply_frame (s : State) (p : SurfaceId) (seat : Nat) (m : OutMessage) :
    (s.postReply p seat m).pending = s.pending ∧ (s.postReply p seat m).now = s.now ∧ (s.postReply p seat m).tracker = s.tracker ∧
    (s.postReply p seat m).arbiter = s.arbiter ∧ (s.postReply p seat m).pass = s.pass ∧ (s.postReply p seat m).writer = s.writer ∧
    (s.postReply p seat m).store = s.store ∧ (s.postReply p seat m).memory = s.memory ∧ (s.postReply p seat m).port = s.port ∧
    (s.postReply p seat m).cursors = s.cursors ∧ (s.postReply p seat m).engine = s.engine ∧ (s.postReply p seat m).editor = s.editor ∧
    (s.postReply p seat m).freeDraws = s.freeDraws := by
  unfold postReply
  simp

@[simp] theorem postNotice_frame (s : State) (i : SeatId) (c : ControlId) (n : SeatNotice) :
    (s.postNotice i c n).pending = s.pending ∧ (s.postNotice i c n).now = s.now ∧ (s.postNotice i c n).tracker = s.tracker ∧
    (s.postNotice i c n).arbiter = s.arbiter ∧ (s.postNotice i c n).pass = s.pass ∧ (s.postNotice i c n).writer = s.writer ∧
    (s.postNotice i c n).store = s.store ∧ (s.postNotice i c n).memory = s.memory ∧ (s.postNotice i c n).port = s.port ∧
    (s.postNotice i c n).cursors = s.cursors ∧ (s.postNotice i c n).engine = s.engine ∧ (s.postNotice i c n).editor = s.editor ∧
    (s.postNotice i c n).freeDraws = s.freeDraws := by
  unfold postNotice
  repeat' split
  all_goals simp

@[simp] theorem postTransportTo_frame (s : State) (p : SurfaceId) :
    (s.postTransportTo p).pending = s.pending ∧ (s.postTransportTo p).now = s.now ∧ (s.postTransportTo p).tracker = s.tracker ∧
    (s.postTransportTo p).arbiter = s.arbiter ∧ (s.postTransportTo p).pass = s.pass ∧ (s.postTransportTo p).writer = s.writer ∧
    (s.postTransportTo p).store = s.store ∧ (s.postTransportTo p).memory = s.memory ∧ (s.postTransportTo p).port = s.port ∧
    (s.postTransportTo p).cursors = s.cursors ∧ (s.postTransportTo p).engine = s.engine ∧ (s.postTransportTo p).editor = s.editor ∧
    (s.postTransportTo p).freeDraws = s.freeDraws := by
  unfold postTransportTo
  simp

@[simp] theorem postTransportToEditor_frame (s : State) :
    (s.postTransportToEditor).pending = s.pending ∧ (s.postTransportToEditor).now = s.now ∧ (s.postTransportToEditor).tracker = s.tracker ∧
    (s.postTransportToEditor).arbiter = s.arbiter ∧ (s.postTransportToEditor).pass = s.pass ∧ (s.postTransportToEditor).writer = s.writer ∧
    (s.postTransportToEditor).store = s.store ∧ (s.postTransportToEditor).memory = s.memory ∧ (s.postTransportToEditor).port = s.port ∧
    (s.postTransportToEditor).cursors = s.cursors ∧ (s.postTransportToEditor).engine = s.engine ∧ (s.postTransportToEditor).surface = s.surface ∧
    (s.postTransportToEditor).freeDraws = s.freeDraws := by
  unfold postTransportToEditor
  repeat' split
  all_goals simp

@[simp] theorem postTransport_frame (s : State) :
    (s.postTransport).pending = s.pending ∧ (s.postTransport).now = s.now ∧ (s.postTransport).tracker = s.tracker ∧
    (s.postTransport).arbiter = s.arbiter ∧ (s.postTransport).pass = s.pass ∧ (s.postTransport).writer = s.writer ∧
    (s.postTransport).store = s.store ∧ (s.postTransport).memory = s.memory ∧ (s.postTransport).port = s.port ∧
    (s.postTransport).cursors = s.cursors ∧ (s.postTransport).engine = s.engine ∧ (s.postTransport).freeDraws = s.freeDraws := by
  unfold postTransport
  simp

@[simp] theorem fillFollow_frame (s : State) (p : SurfaceId) :
    (s.fillFollow p).pending = s.pending ∧ (s.fillFollow p).now = s.now ∧ (s.fillFollow p).tracker = s.tracker ∧
    (s.fillFollow p).arbiter = s.arbiter ∧ (s.fillFollow p).pass = s.pass ∧ (s.fillFollow p).writer = s.writer ∧
    (s.fillFollow p).store = s.store ∧ (s.fillFollow p).memory = s.memory ∧ (s.fillFollow p).port = s.port ∧
    (s.fillFollow p).cursors = s.cursors ∧ (s.fillFollow p).engine = s.engine ∧ (s.fillFollow p).editor = s.editor ∧
    (s.fillFollow p).freeDraws = s.freeDraws := by
  unfold fillFollow
  simp

@[simp] theorem adjustVisibility_frame (s : State) (b : State) (p : SurfaceId) :
    (s.adjustVisibility b p).pending = s.pending ∧ (s.adjustVisibility b p).now = s.now ∧ (s.adjustVisibility b p).tracker = s.tracker ∧
    (s.adjustVisibility b p).arbiter = s.arbiter ∧ (s.adjustVisibility b p).pass = s.pass ∧ (s.adjustVisibility b p).writer = s.writer ∧
    (s.adjustVisibility b p).store = s.store ∧ (s.adjustVisibility b p).memory = s.memory ∧ (s.adjustVisibility b p).port = s.port ∧
    (s.adjustVisibility b p).cursors = s.cursors ∧ (s.adjustVisibility b p).engine = s.engine ∧ (s.adjustVisibility b p).editor = s.editor ∧
    (s.adjustVisibility b p).freeDraws = s.freeDraws := by
  unfold adjustVisibility
  simp

@[simp] theorem feedFollowAt_frame (s : State) (c : ControlId) (l : Level) (first : Bool) (p : SurfaceId) :
    (s.feedFollowAt c l first p).pending = s.pending ∧ (s.feedFollowAt c l first p).now = s.now ∧ (s.feedFollowAt c l first p).tracker = s.tracker ∧
    (s.feedFollowAt c l first p).arbiter = s.arbiter ∧ (s.feedFollowAt c l first p).pass = s.pass ∧ (s.feedFollowAt c l first p).writer = s.writer ∧
    (s.feedFollowAt c l first p).store = s.store ∧ (s.feedFollowAt c l first p).memory = s.memory ∧ (s.feedFollowAt c l first p).port = s.port ∧
    (s.feedFollowAt c l first p).cursors = s.cursors ∧ (s.feedFollowAt c l first p).engine = s.engine ∧ (s.feedFollowAt c l first p).editor = s.editor ∧
    (s.feedFollowAt c l first p).freeDraws = s.freeDraws := by
  unfold feedFollowAt
  repeat' split
  all_goals simp

@[simp] theorem feedFollow_frame (s : State) (c : ControlId) (l : Level) (first : Bool) :
    (s.feedFollow c l first).pending = s.pending ∧ (s.feedFollow c l first).now = s.now ∧ (s.feedFollow c l first).tracker = s.tracker ∧
    (s.feedFollow c l first).arbiter = s.arbiter ∧ (s.feedFollow c l first).pass = s.pass ∧ (s.feedFollow c l first).writer = s.writer ∧
    (s.feedFollow c l first).store = s.store ∧ (s.feedFollow c l first).memory = s.memory ∧ (s.feedFollow c l first).port = s.port ∧
    (s.feedFollow c l first).cursors = s.cursors ∧ (s.feedFollow c l first).engine = s.engine ∧ (s.feedFollow c l first).editor = s.editor ∧
    (s.feedFollow c l first).freeDraws = s.freeDraws := by
  unfold feedFollow
  simp

@[simp] theorem transmitAt_frame (s : State) (p : SurfaceId) :
    (s.transmitAt p).pending = s.pending ∧ (s.transmitAt p).now = s.now ∧ (s.transmitAt p).tracker = s.tracker ∧
    (s.transmitAt p).arbiter = s.arbiter ∧ (s.transmitAt p).pass = s.pass ∧ (s.transmitAt p).writer = s.writer ∧
    (s.transmitAt p).store = s.store ∧ (s.transmitAt p).memory = s.memory ∧ (s.transmitAt p).port = s.port ∧
    (s.transmitAt p).cursors = s.cursors ∧ (s.transmitAt p).engine = s.engine ∧ (s.transmitAt p).editor = s.editor ∧
    (s.transmitAt p).freeDraws = s.freeDraws := by
  unfold transmitAt
  simp

@[simp] theorem removeTouch_frame (s : State) (c : ControlId) :
    (s.removeTouch c).pending = s.pending ∧ (s.removeTouch c).now = s.now ∧ (s.removeTouch c).tracker = s.tracker ∧
    (s.removeTouch c).pass = s.pass ∧ (s.removeTouch c).writer = s.writer ∧ (s.removeTouch c).store = s.store ∧
    (s.removeTouch c).memory = s.memory ∧ (s.removeTouch c).port = s.port ∧ (s.removeTouch c).cursors = s.cursors ∧
    (s.removeTouch c).engine = s.engine ∧ (s.removeTouch c).surface = s.surface ∧ (s.removeTouch c).editor = s.editor ∧
    (s.removeTouch c).freeDraws = s.freeDraws := by
  unfold removeTouch
  repeat' split
  all_goals simp

@[simp] theorem isolate_frame (s : State) (f : SeatId → Bool) :
    (s.isolate f).pending = s.pending ∧ (s.isolate f).now = s.now ∧ (s.isolate f).tracker = s.tracker ∧
    (s.isolate f).pass = s.pass ∧ (s.isolate f).writer = s.writer ∧ (s.isolate f).store = s.store ∧
    (s.isolate f).memory = s.memory ∧ (s.isolate f).port = s.port ∧ (s.isolate f).cursors = s.cursors ∧
    (s.isolate f).engine = s.engine ∧ (s.isolate f).surface = s.surface ∧ (s.isolate f).editor = s.editor ∧
    (s.isolate f).freeDraws = s.freeDraws := by
  unfold isolate
  simp

@[simp] theorem isolatePort_frame (s : State) (p : SurfaceId) :
    (s.isolatePort p).pending = s.pending ∧ (s.isolatePort p).now = s.now ∧ (s.isolatePort p).tracker = s.tracker ∧
    (s.isolatePort p).pass = s.pass ∧ (s.isolatePort p).writer = s.writer ∧ (s.isolatePort p).store = s.store ∧
    (s.isolatePort p).memory = s.memory ∧ (s.isolatePort p).port = s.port ∧ (s.isolatePort p).cursors = s.cursors ∧
    (s.isolatePort p).engine = s.engine ∧ (s.isolatePort p).surface = s.surface ∧ (s.isolatePort p).editor = s.editor ∧
    (s.isolatePort p).freeDraws = s.freeDraws := by
  unfold isolatePort
  simp

@[simp] theorem surfaceDown_frame (s : State) (p : SurfaceId) :
    (s.surfaceDown p).pending = s.pending ∧ (s.surfaceDown p).now = s.now ∧ (s.surfaceDown p).tracker = s.tracker ∧
    (s.surfaceDown p).pass = s.pass ∧ (s.surfaceDown p).writer = s.writer ∧ (s.surfaceDown p).store = s.store ∧
    (s.surfaceDown p).memory = s.memory ∧ (s.surfaceDown p).port = s.port ∧ (s.surfaceDown p).cursors = s.cursors ∧
    (s.surfaceDown p).engine = s.engine ∧ (s.surfaceDown p).editor = s.editor ∧ (s.surfaceDown p).freeDraws = s.freeDraws := by
  unfold surfaceDown
  simp

@[simp] theorem surfaceUp_frame (s : State) (p : SurfaceId) :
    (s.surfaceUp p).pending = s.pending ∧ (s.surfaceUp p).now = s.now ∧ (s.surfaceUp p).tracker = s.tracker ∧
    (s.surfaceUp p).arbiter = s.arbiter ∧ (s.surfaceUp p).pass = s.pass ∧ (s.surfaceUp p).writer = s.writer ∧
    (s.surfaceUp p).store = s.store ∧ (s.surfaceUp p).memory = s.memory ∧ (s.surfaceUp p).port = s.port ∧
    (s.surfaceUp p).cursors = s.cursors ∧ (s.surfaceUp p).engine = s.engine ∧ (s.surfaceUp p).editor = s.editor ∧
    (s.surfaceUp p).freeDraws = s.freeDraws := by
  unfold surfaceUp
  simp

@[simp] theorem postEditor_frame (s : State) (m : OutMessage) :
    (s.postEditor m).pending = s.pending ∧ (s.postEditor m).now = s.now ∧ (s.postEditor m).tracker = s.tracker ∧
    (s.postEditor m).arbiter = s.arbiter ∧ (s.postEditor m).pass = s.pass ∧ (s.postEditor m).writer = s.writer ∧
    (s.postEditor m).store = s.store ∧ (s.postEditor m).memory = s.memory ∧ (s.postEditor m).port = s.port ∧
    (s.postEditor m).cursors = s.cursors ∧ (s.postEditor m).engine = s.engine ∧ (s.postEditor m).surface = s.surface ∧
    (s.postEditor m).freeDraws = s.freeDraws := by
  unfold postEditor
  simp

@[simp] theorem reservePlace_frame (s : State) (x : PlaceOwner) :
    (s.reservePlace x).pending = s.pending ∧ (s.reservePlace x).now = s.now ∧ (s.reservePlace x).tracker = s.tracker ∧
    (s.reservePlace x).arbiter = s.arbiter ∧ (s.reservePlace x).pass = s.pass ∧ (s.reservePlace x).writer = s.writer ∧
    (s.reservePlace x).store = s.store ∧ (s.reservePlace x).memory = s.memory ∧ (s.reservePlace x).port = s.port ∧
    (s.reservePlace x).cursors = s.cursors ∧ (s.reservePlace x).engine = s.engine ∧ (s.reservePlace x).surface = s.surface ∧
    (s.reservePlace x).freeDraws = s.freeDraws := by
  unfold reservePlace
  simp

@[simp] theorem releasePlace_frame (s : State) (x : PlaceOwner) :
    (s.releasePlace x).pending = s.pending ∧ (s.releasePlace x).now = s.now ∧ (s.releasePlace x).tracker = s.tracker ∧
    (s.releasePlace x).arbiter = s.arbiter ∧ (s.releasePlace x).pass = s.pass ∧ (s.releasePlace x).writer = s.writer ∧
    (s.releasePlace x).store = s.store ∧ (s.releasePlace x).memory = s.memory ∧ (s.releasePlace x).port = s.port ∧
    (s.releasePlace x).cursors = s.cursors ∧ (s.releasePlace x).engine = s.engine ∧ (s.releasePlace x).surface = s.surface ∧
    (s.releasePlace x).freeDraws = s.freeDraws := by
  unfold releasePlace
  simp

@[simp] theorem postReserved_frame (s : State) (x : PlaceOwner) (m : OutMessage) :
    (s.postReserved x m).pending = s.pending ∧ (s.postReserved x m).now = s.now ∧ (s.postReserved x m).tracker = s.tracker ∧
    (s.postReserved x m).arbiter = s.arbiter ∧ (s.postReserved x m).pass = s.pass ∧ (s.postReserved x m).writer = s.writer ∧
    (s.postReserved x m).store = s.store ∧ (s.postReserved x m).memory = s.memory ∧ (s.postReserved x m).port = s.port ∧
    (s.postReserved x m).cursors = s.cursors ∧ (s.postReserved x m).engine = s.engine ∧ (s.postReserved x m).surface = s.surface ∧
    (s.postReserved x m).freeDraws = s.freeDraws := by
  unfold postReserved
  simp

@[simp] theorem refuseEditor_frame (s : State) (reason : RefusalReason) (kind : Byte) (control : Option Byte) :
    (s.refuseEditor reason kind control).pending = s.pending ∧ (s.refuseEditor reason kind control).now = s.now ∧ (s.refuseEditor reason kind control).tracker = s.tracker ∧
    (s.refuseEditor reason kind control).arbiter = s.arbiter ∧ (s.refuseEditor reason kind control).pass = s.pass ∧ (s.refuseEditor reason kind control).writer = s.writer ∧
    (s.refuseEditor reason kind control).store = s.store ∧ (s.refuseEditor reason kind control).memory = s.memory ∧ (s.refuseEditor reason kind control).port = s.port ∧
    (s.refuseEditor reason kind control).cursors = s.cursors ∧ (s.refuseEditor reason kind control).engine = s.engine ∧ (s.refuseEditor reason kind control).surface = s.surface ∧
    (s.refuseEditor reason kind control).freeDraws = s.freeDraws := by
  unfold refuseEditor
  simp

@[simp] theorem transmitEditor_frame (s : State) :
    (s.transmitEditor).pending = s.pending ∧ (s.transmitEditor).now = s.now ∧ (s.transmitEditor).tracker = s.tracker ∧
    (s.transmitEditor).arbiter = s.arbiter ∧ (s.transmitEditor).pass = s.pass ∧ (s.transmitEditor).writer = s.writer ∧
    (s.transmitEditor).store = s.store ∧ (s.transmitEditor).memory = s.memory ∧ (s.transmitEditor).port = s.port ∧
    (s.transmitEditor).cursors = s.cursors ∧ (s.transmitEditor).engine = s.engine ∧ (s.transmitEditor).surface = s.surface ∧
    (s.transmitEditor).freeDraws = s.freeDraws := by
  unfold transmitEditor
  repeat' split
  all_goals simp

@[simp] theorem editorUp_frame (s : State) :
    (s.editorUp).pending = s.pending ∧ (s.editorUp).now = s.now ∧ (s.editorUp).tracker = s.tracker ∧
    (s.editorUp).arbiter = s.arbiter ∧ (s.editorUp).pass = s.pass ∧ (s.editorUp).writer = s.writer ∧
    (s.editorUp).store = s.store ∧ (s.editorUp).memory = s.memory ∧ (s.editorUp).port = s.port ∧
    (s.editorUp).cursors = s.cursors ∧ (s.editorUp).engine = s.engine ∧ (s.editorUp).surface = s.surface ∧
    (s.editorUp).freeDraws = s.freeDraws := by
  unfold editorUp
  repeat' split
  all_goals simp

@[simp] theorem transmitAll_frame (s : State) :
    (s.transmitAll).pending = s.pending ∧ (s.transmitAll).now = s.now ∧ (s.transmitAll).tracker = s.tracker ∧
    (s.transmitAll).arbiter = s.arbiter ∧ (s.transmitAll).pass = s.pass ∧ (s.transmitAll).writer = s.writer ∧
    (s.transmitAll).store = s.store ∧ (s.transmitAll).memory = s.memory ∧ (s.transmitAll).port = s.port ∧
    (s.transmitAll).cursors = s.cursors ∧ (s.transmitAll).engine = s.engine ∧ (s.transmitAll).freeDraws = s.freeDraws := by
  unfold transmitAll
  simp

/-! ## Pool and cursors -/

@[simp] theorem requestRefill_frame (s : State) :
    (s.requestRefill).pending = s.pending ∧ (s.requestRefill).now = s.now ∧ (s.requestRefill).tracker = s.tracker ∧
    (s.requestRefill).arbiter = s.arbiter ∧ (s.requestRefill).pass = s.pass ∧ (s.requestRefill).writer = s.writer ∧
    (s.requestRefill).memory = s.memory ∧ (s.requestRefill).port = s.port ∧ (s.requestRefill).cursors = s.cursors ∧
    (s.requestRefill).engine = s.engine ∧ (s.requestRefill).surface = s.surface ∧ (s.requestRefill).editor = s.editor ∧
    (s.requestRefill).freeDraws = s.freeDraws := by
  unfold requestRefill
  repeat' split
  all_goals simp

@[simp] theorem notePoolLow_frame (s : State) (n : Nat) :
    (s.notePoolLow n).pending = s.pending ∧ (s.notePoolLow n).now = s.now ∧ (s.notePoolLow n).tracker = s.tracker ∧
    (s.notePoolLow n).arbiter = s.arbiter ∧ (s.notePoolLow n).pass = s.pass ∧ (s.notePoolLow n).writer = s.writer ∧
    (s.notePoolLow n).memory = s.memory ∧ (s.notePoolLow n).port = s.port ∧ (s.notePoolLow n).cursors = s.cursors ∧
    (s.notePoolLow n).engine = s.engine ∧ (s.notePoolLow n).surface = s.surface ∧ (s.notePoolLow n).freeDraws = s.freeDraws := by
  unfold notePoolLow
  repeat' split
  all_goals simp

@[simp] theorem chainReturn_frame (s : State) (kind : ReturnKind) (first last : Slot) (n : Nat) (r : Record) :
    (s.chainReturn kind first last n r).pending = s.pending ∧ (s.chainReturn kind first last n r).now = s.now ∧ (s.chainReturn kind first last n r).tracker = s.tracker ∧
    (s.chainReturn kind first last n r).arbiter = s.arbiter ∧ (s.chainReturn kind first last n r).pass = s.pass ∧ (s.chainReturn kind first last n r).writer = s.writer ∧
    (s.chainReturn kind first last n r).memory = s.memory ∧ (s.chainReturn kind first last n r).cursors = s.cursors ∧ (s.chainReturn kind first last n r).engine = s.engine ∧
    (s.chainReturn kind first last n r).surface = s.surface ∧ (s.chainReturn kind first last n r).editor = s.editor ∧ (s.chainReturn kind first last n r).freeDraws = s.freeDraws := by
  unfold chainReturn
  simp

@[simp] theorem returnChain_frame (s : State) (kind : ReturnKind) (first last : Slot) (n : Nat) :
    (s.returnChain kind first last n).pending = s.pending ∧ (s.returnChain kind first last n).now = s.now ∧ (s.returnChain kind first last n).tracker = s.tracker ∧
    (s.returnChain kind first last n).arbiter = s.arbiter ∧ (s.returnChain kind first last n).pass = s.pass ∧ (s.returnChain kind first last n).writer = s.writer ∧
    (s.returnChain kind first last n).memory = s.memory ∧ (s.returnChain kind first last n).cursors = s.cursors ∧ (s.returnChain kind first last n).engine = s.engine ∧
    (s.returnChain kind first last n).surface = s.surface ∧ (s.returnChain kind first last n).editor = s.editor := by
  unfold returnChain
  simp

@[simp] theorem mapRequests_frame (s : State) (f : MemRequest → MemRequest) :
    (s.mapRequests f).pending = s.pending ∧ (s.mapRequests f).now = s.now ∧ (s.mapRequests f).tracker = s.tracker ∧
    (s.mapRequests f).arbiter = s.arbiter ∧ (s.mapRequests f).pass = s.pass ∧ (s.mapRequests f).writer = s.writer ∧
    (s.mapRequests f).store = s.store ∧ (s.mapRequests f).memory = s.memory ∧ (s.mapRequests f).cursors = s.cursors ∧
    (s.mapRequests f).engine = s.engine ∧ (s.mapRequests f).surface = s.surface ∧ (s.mapRequests f).editor = s.editor ∧
    (s.mapRequests f).freeDraws = s.freeDraws := by
  unfold mapRequests
  simp

@[simp] theorem advanceCursor_frame (s : State) (c : ControlId) (t : Frame) :
    (s.advanceCursor c t).pending = s.pending ∧ (s.advanceCursor c t).now = s.now ∧ (s.advanceCursor c t).tracker = s.tracker ∧
    (s.advanceCursor c t).arbiter = s.arbiter ∧ (s.advanceCursor c t).pass = s.pass ∧ (s.advanceCursor c t).writer = s.writer ∧
    (s.advanceCursor c t).store = s.store ∧ (s.advanceCursor c t).memory = s.memory ∧ (s.advanceCursor c t).engine = s.engine ∧
    (s.advanceCursor c t).surface = s.surface ∧ (s.advanceCursor c t).editor = s.editor ∧ (s.advanceCursor c t).freeDraws = s.freeDraws := by
  unfold advanceCursor
  dsimp only
  repeat' split
  all_goals simp

@[simp] theorem relocateOne_frame (s : State) (c : ControlId) :
    (s.relocateOne c).pending = s.pending ∧ (s.relocateOne c).now = s.now ∧ (s.relocateOne c).tracker = s.tracker ∧
    (s.relocateOne c).arbiter = s.arbiter ∧ (s.relocateOne c).pass = s.pass ∧ (s.relocateOne c).writer = s.writer ∧
    (s.relocateOne c).store = s.store ∧ (s.relocateOne c).memory = s.memory ∧ (s.relocateOne c).port = s.port ∧
    (s.relocateOne c).engine = s.engine ∧ (s.relocateOne c).surface = s.surface ∧ (s.relocateOne c).editor = s.editor ∧
    (s.relocateOne c).freeDraws = s.freeDraws := by
  unfold relocateOne
  simp

@[simp] theorem relocateAll_frame (s : State) :
    (s.relocateAll).pending = s.pending ∧ (s.relocateAll).now = s.now ∧ (s.relocateAll).tracker = s.tracker ∧
    (s.relocateAll).arbiter = s.arbiter ∧ (s.relocateAll).pass = s.pass ∧ (s.relocateAll).writer = s.writer ∧
    (s.relocateAll).store = s.store ∧ (s.relocateAll).memory = s.memory ∧ (s.relocateAll).engine = s.engine ∧
    (s.relocateAll).surface = s.surface ∧ (s.relocateAll).editor = s.editor ∧ (s.relocateAll).freeDraws = s.freeDraws := by
  unfold relocateAll
  simp

@[simp] theorem endWalk_frame (s : State) (c : ControlId) (x : Option CurrentRecord) (l : Lookahead) :
    (s.endWalk c x l).pending = s.pending ∧ (s.endWalk c x l).now = s.now ∧ (s.endWalk c x l).tracker = s.tracker ∧
    (s.endWalk c x l).arbiter = s.arbiter ∧ (s.endWalk c x l).pass = s.pass ∧ (s.endWalk c x l).writer = s.writer ∧
    (s.endWalk c x l).store = s.store ∧ (s.endWalk c x l).memory = s.memory ∧ (s.endWalk c x l).port = s.port ∧
    (s.endWalk c x l).engine = s.engine ∧ (s.endWalk c x l).surface = s.surface ∧ (s.endWalk c x l).editor = s.editor ∧
    (s.endWalk c x l).freeDraws = s.freeDraws := by
  unfold endWalk
  simp

/-! ## Loads, clears and reads -/

@[simp] theorem linkLoadRecord_frame (s : State) (l : Load) (slot : Slot) (r : LoadRecord) :
    (s.linkLoadRecord l slot r).pending = s.pending ∧ (s.linkLoadRecord l slot r).now = s.now ∧ (s.linkLoadRecord l slot r).tracker = s.tracker ∧
    (s.linkLoadRecord l slot r).arbiter = s.arbiter ∧ (s.linkLoadRecord l slot r).pass = s.pass ∧ (s.linkLoadRecord l slot r).writer = s.writer ∧
    (s.linkLoadRecord l slot r).memory = s.memory ∧ (s.linkLoadRecord l slot r).cursors = s.cursors ∧ (s.linkLoadRecord l slot r).engine = s.engine ∧
    (s.linkLoadRecord l slot r).surface = s.surface ∧ (s.linkLoadRecord l slot r).editor = s.editor ∧ (s.linkLoadRecord l slot r).freeDraws = s.freeDraws := by
  unfold linkLoadRecord
  repeat' split
  all_goals simp

@[simp] theorem returnLoadChain_frame (s : State) (l : Load) :
    (s.returnLoadChain l).pending = s.pending ∧ (s.returnLoadChain l).now = s.now ∧ (s.returnLoadChain l).tracker = s.tracker ∧
    (s.returnLoadChain l).arbiter = s.arbiter ∧ (s.returnLoadChain l).pass = s.pass ∧ (s.returnLoadChain l).writer = s.writer ∧
    (s.returnLoadChain l).memory = s.memory ∧ (s.returnLoadChain l).cursors = s.cursors ∧ (s.returnLoadChain l).engine = s.engine ∧
    (s.returnLoadChain l).surface = s.surface ∧ (s.returnLoadChain l).editor = s.editor ∧ (s.returnLoadChain l).freeDraws = s.freeDraws := by
  unfold returnLoadChain
  repeat' split
  all_goals simp

@[simp] theorem reportLoadAbort_frame (s : State) (r : Option AbortReason) :
    (s.reportLoadAbort r).pending = s.pending ∧ (s.reportLoadAbort r).now = s.now ∧ (s.reportLoadAbort r).tracker = s.tracker ∧
    (s.reportLoadAbort r).arbiter = s.arbiter ∧ (s.reportLoadAbort r).pass = s.pass ∧ (s.reportLoadAbort r).writer = s.writer ∧
    (s.reportLoadAbort r).store = s.store ∧ (s.reportLoadAbort r).memory = s.memory ∧ (s.reportLoadAbort r).port = s.port ∧
    (s.reportLoadAbort r).cursors = s.cursors ∧ (s.reportLoadAbort r).engine = s.engine ∧ (s.reportLoadAbort r).surface = s.surface ∧
    (s.reportLoadAbort r).freeDraws = s.freeDraws := by
  unfold reportLoadAbort
  repeat' split
  all_goals simp

@[simp] theorem abortLoad_frame (s : State) (r : Option AbortReason) :
    (s.abortLoad r).pending = s.pending ∧ (s.abortLoad r).now = s.now ∧ (s.abortLoad r).tracker = s.tracker ∧
    (s.abortLoad r).arbiter = s.arbiter ∧ (s.abortLoad r).pass = s.pass ∧ (s.abortLoad r).writer = s.writer ∧
    (s.abortLoad r).memory = s.memory ∧ (s.abortLoad r).cursors = s.cursors ∧ (s.abortLoad r).engine = s.engine ∧
    (s.abortLoad r).surface = s.surface ∧ (s.abortLoad r).freeDraws = s.freeDraws := by
  unfold abortLoad
  repeat' split
  all_goals simp

@[simp] theorem returnList_frame (s : State) (d : Descriptor) :
    (s.returnList d).pending = s.pending ∧ (s.returnList d).now = s.now ∧ (s.returnList d).tracker = s.tracker ∧
    (s.returnList d).arbiter = s.arbiter ∧ (s.returnList d).pass = s.pass ∧ (s.returnList d).writer = s.writer ∧
    (s.returnList d).memory = s.memory ∧ (s.returnList d).cursors = s.cursors ∧ (s.returnList d).engine = s.engine ∧
    (s.returnList d).surface = s.surface ∧ (s.returnList d).editor = s.editor := by
  unfold returnList
  repeat' split
  all_goals simp

@[simp] theorem replaceList_frame (s : State) (l : Load) :
    (s.replaceList l).pending = s.pending ∧ (s.replaceList l).now = s.now ∧ (s.replaceList l).tracker = s.tracker ∧
    (s.replaceList l).arbiter = s.arbiter ∧ (s.replaceList l).pass = s.pass ∧ (s.replaceList l).writer = s.writer ∧
    (s.replaceList l).memory = s.memory ∧ (s.replaceList l).engine = s.engine ∧ (s.replaceList l).surface = s.surface ∧
    (s.replaceList l).editor = s.editor := by
  unfold replaceList
  simp

@[simp] theorem clearStore_frame (s : State) (c : ControlId) :
    (s.clearStore c).pending = s.pending ∧ (s.clearStore c).now = s.now ∧ (s.clearStore c).tracker = s.tracker ∧
    (s.clearStore c).arbiter = s.arbiter ∧ (s.clearStore c).pass = s.pass ∧ (s.clearStore c).writer = s.writer ∧
    (s.clearStore c).memory = s.memory ∧ (s.clearStore c).engine = s.engine ∧ (s.clearStore c).surface = s.surface ∧
    (s.clearStore c).editor = s.editor := by
  unfold clearStore
  simp

@[simp] theorem abandonClear_frame (s : State) :
    (s.abandonClear).pending = s.pending ∧ (s.abandonClear).now = s.now ∧ (s.abandonClear).tracker = s.tracker ∧
    (s.abandonClear).arbiter = s.arbiter ∧ (s.abandonClear).pass = s.pass ∧ (s.abandonClear).writer = s.writer ∧
    (s.abandonClear).store = s.store ∧ (s.abandonClear).memory = s.memory ∧ (s.abandonClear).port = s.port ∧
    (s.abandonClear).cursors = s.cursors ∧ (s.abandonClear).engine = s.engine ∧ (s.abandonClear).surface = s.surface ∧
    (s.abandonClear).freeDraws = s.freeDraws := by
  unfold abandonClear
  repeat' split
  all_goals simp

@[simp] theorem setRead_frame (s : State) (x : Option ListRead) :
    (s.setRead x).pending = s.pending ∧ (s.setRead x).now = s.now ∧ (s.setRead x).tracker = s.tracker ∧
    (s.setRead x).arbiter = s.arbiter ∧ (s.setRead x).pass = s.pass ∧ (s.setRead x).writer = s.writer ∧
    (s.setRead x).store = s.store ∧ (s.setRead x).memory = s.memory ∧ (s.setRead x).port = s.port ∧
    (s.setRead x).cursors = s.cursors ∧ (s.setRead x).engine = s.engine ∧ (s.setRead x).surface = s.surface ∧
    (s.setRead x).freeDraws = s.freeDraws := by
  unfold setRead
  simp

@[simp] theorem endRead_frame (s : State) (r : ListRead) :
    (s.endRead r).pending = s.pending ∧ (s.endRead r).now = s.now ∧ (s.endRead r).tracker = s.tracker ∧
    (s.endRead r).arbiter = s.arbiter ∧ (s.endRead r).pass = s.pass ∧ (s.endRead r).writer = s.writer ∧
    (s.endRead r).store = s.store ∧ (s.endRead r).memory = s.memory ∧ (s.endRead r).port = s.port ∧
    (s.endRead r).cursors = s.cursors ∧ (s.endRead r).engine = s.engine ∧ (s.endRead r).surface = s.surface ∧
    (s.endRead r).freeDraws = s.freeDraws := by
  unfold endRead
  simp

@[simp] theorem abortRead_frame (s : State) :
    (s.abortRead).pending = s.pending ∧ (s.abortRead).now = s.now ∧ (s.abortRead).tracker = s.tracker ∧
    (s.abortRead).arbiter = s.arbiter ∧ (s.abortRead).pass = s.pass ∧ (s.abortRead).writer = s.writer ∧
    (s.abortRead).store = s.store ∧ (s.abortRead).memory = s.memory ∧ (s.abortRead).cursors = s.cursors ∧
    (s.abortRead).engine = s.engine ∧ (s.abortRead).surface = s.surface ∧ (s.abortRead).freeDraws = s.freeDraws := by
  unfold abortRead
  repeat' split
  all_goals simp

@[simp] theorem abortLoadAndClear_frame (s : State) :
    (s.abortLoadAndClear).pending = s.pending ∧ (s.abortLoadAndClear).now = s.now ∧ (s.abortLoadAndClear).tracker = s.tracker ∧
    (s.abortLoadAndClear).arbiter = s.arbiter ∧ (s.abortLoadAndClear).pass = s.pass ∧ (s.abortLoadAndClear).writer = s.writer ∧
    (s.abortLoadAndClear).memory = s.memory ∧ (s.abortLoadAndClear).cursors = s.cursors ∧ (s.abortLoadAndClear).engine = s.engine ∧
    (s.abortLoadAndClear).surface = s.surface ∧ (s.abortLoadAndClear).freeDraws = s.freeDraws := by
  unfold abortLoadAndClear
  simp

@[simp] theorem leaveStopped_frame (s : State) :
    (s.leaveStopped).pending = s.pending ∧ (s.leaveStopped).now = s.now ∧ (s.leaveStopped).tracker = s.tracker ∧
    (s.leaveStopped).arbiter = s.arbiter ∧ (s.leaveStopped).pass = s.pass ∧ (s.leaveStopped).writer = s.writer ∧
    (s.leaveStopped).memory = s.memory ∧ (s.leaveStopped).cursors = s.cursors ∧ (s.leaveStopped).engine = s.engine ∧
    (s.leaveStopped).surface = s.surface := by
  unfold leaveStopped
  repeat' split
  all_goals simp

/-! ## Segments -/

@[simp] theorem joinSpliceQueue_frame (s : State) (e : ClosedSegment) :
    (s.joinSpliceQueue e).pending = s.pending ∧ (s.joinSpliceQueue e).now = s.now ∧ (s.joinSpliceQueue e).tracker = s.tracker ∧
    (s.joinSpliceQueue e).arbiter = s.arbiter ∧ (s.joinSpliceQueue e).pass = s.pass ∧ (s.joinSpliceQueue e).writer = s.writer ∧
    (s.joinSpliceQueue e).memory = s.memory ∧ (s.joinSpliceQueue e).port = s.port ∧ (s.joinSpliceQueue e).cursors = s.cursors ∧
    (s.joinSpliceQueue e).engine = s.engine ∧ (s.joinSpliceQueue e).surface = s.surface ∧ (s.joinSpliceQueue e).editor = s.editor ∧
    (s.joinSpliceQueue e).freeDraws = s.freeDraws := by
  unfold joinSpliceQueue
  repeat' split
  all_goals simp

@[simp] theorem postClosingWrite_frame (s : State) (g : Segment) (slot : Slot) :
    (s.postClosingWrite g slot).pending = s.pending ∧ (s.postClosingWrite g slot).now = s.now ∧ (s.postClosingWrite g slot).tracker = s.tracker ∧
    (s.postClosingWrite g slot).arbiter = s.arbiter ∧ (s.postClosingWrite g slot).pass = s.pass ∧ (s.postClosingWrite g slot).writer = s.writer ∧
    (s.postClosingWrite g slot).store = s.store ∧ (s.postClosingWrite g slot).memory = s.memory ∧ (s.postClosingWrite g slot).cursors = s.cursors ∧
    (s.postClosingWrite g slot).engine = s.engine ∧ (s.postClosingWrite g slot).surface = s.surface ∧ (s.postClosingWrite g slot).editor = s.editor ∧
    (s.postClosingWrite g slot).freeDraws = s.freeDraws := by
  unfold postClosingWrite
  simp

theorem takeSlot_frame {s s1 : State} {slot : Slot} (h : s.takeSlot = some (slot, s1)) :
    (s1).pending = s.pending ∧ (s1).now = s.now ∧ (s1).tracker = s.tracker ∧
    (s1).arbiter = s.arbiter ∧ (s1).pass = s.pass ∧ (s1).writer = s.writer ∧
    (s1).memory = s.memory ∧ (s1).port = s.port ∧ (s1).cursors = s.cursors ∧
    (s1).engine = s.engine ∧ (s1).surface = s.surface ∧ (s1).freeDraws = s.freeDraws := by
  unfold takeSlot at h
  split at h
  · exact absurd h (by simp)
  · simp only [Option.some.injEq, Prod.mk.injEq] at h
    obtain ⟨-, rfl⟩ := h
    simp

@[simp] theorem joinWithoutSlot_frame (s : State) (g : Segment) (f : Frame) :
    (s.joinWithoutSlot g f).pending = s.pending ∧ (s.joinWithoutSlot g f).now = s.now ∧
    (s.joinWithoutSlot g f).tracker = s.tracker ∧ (s.joinWithoutSlot g f).arbiter = s.arbiter ∧
    (s.joinWithoutSlot g f).pass = s.pass ∧ (s.joinWithoutSlot g f).writer = s.writer ∧
    (s.joinWithoutSlot g f).memory = s.memory ∧ (s.joinWithoutSlot g f).port = s.port ∧
    (s.joinWithoutSlot g f).cursors = s.cursors ∧ (s.joinWithoutSlot g f).engine = s.engine ∧
    (s.joinWithoutSlot g f).surface = s.surface ∧ (s.joinWithoutSlot g f).editor = s.editor ∧
    (s.joinWithoutSlot g f).freeDraws = s.freeDraws := by
  unfold joinWithoutSlot
  simp

@[simp] theorem enqueueClosed_frame (s : State) (g : Segment) (f : Option Frame) :
    (s.enqueueClosed g f).pending = s.pending ∧ (s.enqueueClosed g f).now = s.now ∧ (s.enqueueClosed g f).tracker = s.tracker ∧
    (s.enqueueClosed g f).arbiter = s.arbiter ∧ (s.enqueueClosed g f).pass = s.pass ∧ (s.enqueueClosed g f).writer = s.writer ∧
    (s.enqueueClosed g f).memory = s.memory ∧ (s.enqueueClosed g f).cursors = s.cursors ∧ (s.enqueueClosed g f).engine = s.engine ∧
    (s.enqueueClosed g f).surface = s.surface ∧ (s.enqueueClosed g f).freeDraws = s.freeDraws := by
  unfold enqueueClosed
  split
  · simp
  · split
    · split
      · next slot s1 h => simp [takeSlot_frame h]
      · simp
    · simp

@[simp] theorem closeSegment_frame (s : State) (c : ControlId) (g : Segment) (f : Frame) :
    (s.closeSegment c g f).pending = s.pending ∧ (s.closeSegment c g f).now = s.now ∧ (s.closeSegment c g f).tracker = s.tracker ∧
    (s.closeSegment c g f).arbiter = s.arbiter ∧ (s.closeSegment c g f).pass = s.pass ∧ (s.closeSegment c g f).memory = s.memory ∧
    (s.closeSegment c g f).cursors = s.cursors ∧ (s.closeSegment c g f).engine = s.engine ∧ (s.closeSegment c g f).surface = s.surface ∧
    (s.closeSegment c g f).freeDraws = s.freeDraws := by
  unfold closeSegment
  repeat' split
  all_goals simp

@[simp] theorem endWait_frame (s : State) :
    (s.endWait).pending = s.pending ∧ (s.endWait).now = s.now ∧ (s.endWait).tracker = s.tracker ∧
    (s.endWait).arbiter = s.arbiter ∧ (s.endWait).writer = s.writer ∧ (s.endWait).store = s.store ∧
    (s.endWait).memory = s.memory ∧ (s.endWait).port = s.port ∧ (s.endWait).cursors = s.cursors ∧
    (s.endWait).engine = s.engine ∧ (s.endWait).surface = s.surface ∧ (s.endWait).editor = s.editor ∧
    (s.endWait).freeDraws = s.freeDraws := by
  unfold endWait
  repeat' split
  all_goals simp

@[simp] theorem closeOutside_frame (s : State) (c : ControlId) :
    (s.closeOutside c).pending = s.pending ∧ (s.closeOutside c).now = s.now ∧ (s.closeOutside c).tracker = s.tracker ∧
    (s.closeOutside c).arbiter = s.arbiter ∧ (s.closeOutside c).memory = s.memory ∧ (s.closeOutside c).cursors = s.cursors ∧
    (s.closeOutside c).engine = s.engine ∧ (s.closeOutside c).surface = s.surface ∧ (s.closeOutside c).freeDraws = s.freeDraws := by
  unfold closeOutside
  repeat' split
  all_goals simp

@[simp] theorem endBarredPunchIn_frame (s : State) :
    (s.endBarredPunchIn).pending = s.pending ∧ (s.endBarredPunchIn).now = s.now ∧ (s.endBarredPunchIn).tracker = s.tracker ∧
    (s.endBarredPunchIn).arbiter = s.arbiter ∧ (s.endBarredPunchIn).writer = s.writer ∧ (s.endBarredPunchIn).store = s.store ∧
    (s.endBarredPunchIn).memory = s.memory ∧ (s.endBarredPunchIn).port = s.port ∧ (s.endBarredPunchIn).cursors = s.cursors ∧
    (s.endBarredPunchIn).engine = s.engine ∧ (s.endBarredPunchIn).surface = s.surface ∧ (s.endBarredPunchIn).editor = s.editor ∧
    (s.endBarredPunchIn).freeDraws = s.freeDraws := by
  unfold endBarredPunchIn
  repeat' split
  all_goals simp

@[simp] theorem barIfInFlight_frame (s : State) :
    (s.barIfInFlight).pending = s.pending ∧ (s.barIfInFlight).now = s.now ∧ (s.barIfInFlight).tracker = s.tracker ∧
    (s.barIfInFlight).arbiter = s.arbiter ∧ (s.barIfInFlight).pass = s.pass ∧ (s.barIfInFlight).store = s.store ∧
    (s.barIfInFlight).memory = s.memory ∧ (s.barIfInFlight).port = s.port ∧ (s.barIfInFlight).cursors = s.cursors ∧
    (s.barIfInFlight).engine = s.engine ∧ (s.barIfInFlight).surface = s.surface ∧ (s.barIfInFlight).editor = s.editor ∧
    (s.barIfInFlight).freeDraws = s.freeDraws := by
  unfold barIfInFlight
  repeat' split
  all_goals simp

theorem closeFold_frame (which : ControlId → Bool) (l : List ControlId) (s : State) :
    (l.foldl (fun a c => if which c then a.closeOutside c else a) s).pending = s.pending ∧ (l.foldl (fun a c => if which c then a.closeOutside c else a) s).now = s.now ∧ (l.foldl (fun a c => if which c then a.closeOutside c else a) s).tracker = s.tracker ∧
    (l.foldl (fun a c => if which c then a.closeOutside c else a) s).arbiter = s.arbiter ∧ (l.foldl (fun a c => if which c then a.closeOutside c else a) s).memory = s.memory ∧ (l.foldl (fun a c => if which c then a.closeOutside c else a) s).cursors = s.cursors ∧
    (l.foldl (fun a c => if which c then a.closeOutside c else a) s).engine = s.engine ∧ (l.foldl (fun a c => if which c then a.closeOutside c else a) s).surface = s.surface ∧ (l.foldl (fun a c => if which c then a.closeOutside c else a) s).freeDraws = s.freeDraws := by
  induction l generalizing s with
  | nil => simp
  | cons c l ih =>
    simp only [List.foldl_cons]
    by_cases h : which c <;> simp [h, ih]

@[simp] theorem closeWhere_frame (s : State) (which : ControlId → Bool) :
    (s.closeWhere which).pending = s.pending ∧ (s.closeWhere which).now = s.now ∧ (s.closeWhere which).tracker = s.tracker ∧
    (s.closeWhere which).arbiter = s.arbiter ∧ (s.closeWhere which).memory = s.memory ∧ (s.closeWhere which).cursors = s.cursors ∧
    (s.closeWhere which).engine = s.engine ∧ (s.closeWhere which).surface = s.surface ∧ (s.closeWhere which).freeDraws = s.freeDraws := by
  unfold closeWhere
  exact closeFold_frame which _ s

@[simp] theorem closeAll_frame (s : State) :
    (s.closeAll).pending = s.pending ∧ (s.closeAll).now = s.now ∧ (s.closeAll).tracker = s.tracker ∧
    (s.closeAll).arbiter = s.arbiter ∧ (s.closeAll).memory = s.memory ∧ (s.closeAll).cursors = s.cursors ∧
    (s.closeAll).engine = s.engine ∧ (s.closeAll).surface = s.surface ∧ (s.closeAll).freeDraws = s.freeDraws := by
  unfold closeAll
  simp

@[simp] theorem noticeHolder_frame (s : State) (c : ControlId) (n : SeatNotice) :
    (s.noticeHolder c n).pending = s.pending ∧ (s.noticeHolder c n).now = s.now ∧ (s.noticeHolder c n).tracker = s.tracker ∧
    (s.noticeHolder c n).arbiter = s.arbiter ∧ (s.noticeHolder c n).pass = s.pass ∧ (s.noticeHolder c n).writer = s.writer ∧
    (s.noticeHolder c n).store = s.store ∧ (s.noticeHolder c n).memory = s.memory ∧ (s.noticeHolder c n).port = s.port ∧
    (s.noticeHolder c n).cursors = s.cursors ∧ (s.noticeHolder c n).engine = s.engine ∧ (s.noticeHolder c n).editor = s.editor ∧
    (s.noticeHolder c n).freeDraws = s.freeDraws := by
  unfold noticeHolder
  repeat' split
  all_goals simp

@[simp] theorem setLatePunch_frame (s : State) (c : ControlId) :
    (s.setLatePunch c).pending = s.pending ∧ (s.setLatePunch c).now = s.now ∧ (s.setLatePunch c).tracker = s.tracker ∧
    (s.setLatePunch c).arbiter = s.arbiter ∧ (s.setLatePunch c).writer = s.writer ∧ (s.setLatePunch c).store = s.store ∧
    (s.setLatePunch c).memory = s.memory ∧ (s.setLatePunch c).port = s.port ∧ (s.setLatePunch c).cursors = s.cursors ∧
    (s.setLatePunch c).engine = s.engine ∧ (s.setLatePunch c).surface = s.surface ∧ (s.setLatePunch c).editor = s.editor ∧
    (s.setLatePunch c).freeDraws = s.freeDraws := by
  unfold setLatePunch
  simp

@[simp] theorem truncate_frame (s : State) (e : Evaluation) (g : Segment) :
    (s.truncate e g).pending = s.pending ∧ (s.truncate e g).now = s.now ∧ (s.truncate e g).tracker = s.tracker ∧
    (s.truncate e g).arbiter = s.arbiter ∧ (s.truncate e g).memory = s.memory ∧ (s.truncate e g).cursors = s.cursors ∧
    (s.truncate e g).engine = s.engine ∧ (s.truncate e g).freeDraws = s.freeDraws := by
  unfold truncate
  repeat' split
  all_goals simp

@[simp] theorem dropFinalRecords_frame (s : State) :
    (s.dropFinalRecords).pending = s.pending ∧ (s.dropFinalRecords).now = s.now ∧ (s.dropFinalRecords).tracker = s.tracker ∧
    (s.dropFinalRecords).arbiter = s.arbiter ∧ (s.dropFinalRecords).pass = s.pass ∧ (s.dropFinalRecords).writer = s.writer ∧
    (s.dropFinalRecords).memory = s.memory ∧ (s.dropFinalRecords).port = s.port ∧ (s.dropFinalRecords).cursors = s.cursors ∧
    (s.dropFinalRecords).engine = s.engine ∧ (s.dropFinalRecords).surface = s.surface ∧ (s.dropFinalRecords).editor = s.editor ∧
    (s.dropFinalRecords).freeDraws = s.freeDraws := by
  unfold dropFinalRecords
  simp

@[simp] theorem truncateWaiting_frame (s : State) :
    (s.truncateWaiting).pending = s.pending ∧ (s.truncateWaiting).now = s.now ∧ (s.truncateWaiting).tracker = s.tracker ∧
    (s.truncateWaiting).arbiter = s.arbiter ∧ (s.truncateWaiting).memory = s.memory ∧ (s.truncateWaiting).cursors = s.cursors ∧
    (s.truncateWaiting).engine = s.engine ∧ (s.truncateWaiting).freeDraws = s.freeDraws := by
  unfold truncateWaiting
  repeat' split
  all_goals simp

@[simp] theorem abortWaitingLoad_frame (s : State) :
    (s.abortWaitingLoad).pending = s.pending ∧ (s.abortWaitingLoad).now = s.now ∧ (s.abortWaitingLoad).tracker = s.tracker ∧
    (s.abortWaitingLoad).arbiter = s.arbiter ∧ (s.abortWaitingLoad).pass = s.pass ∧ (s.abortWaitingLoad).writer = s.writer ∧
    (s.abortWaitingLoad).memory = s.memory ∧ (s.abortWaitingLoad).cursors = s.cursors ∧ (s.abortWaitingLoad).engine = s.engine ∧
    (s.abortWaitingLoad).surface = s.surface ∧ (s.abortWaitingLoad).freeDraws = s.freeDraws := by
  unfold abortWaitingLoad
  repeat' split
  all_goals simp

@[simp] theorem settlePool_frame (s : State) (b : State) :
    (s.settlePool b).pending = s.pending ∧ (s.settlePool b).now = s.now ∧ (s.settlePool b).tracker = s.tracker ∧
    (s.settlePool b).arbiter = s.arbiter ∧ (s.settlePool b).memory = s.memory ∧ (s.settlePool b).cursors = s.cursors ∧
    (s.settlePool b).engine = s.engine ∧ (s.settlePool b).freeDraws = s.freeDraws := by
  unfold settlePool
  repeat' split
  all_goals simp

@[simp] theorem latePunch_frame (s : State) (c : ControlId) :
    (s.latePunch c).pending = s.pending ∧ (s.latePunch c).now = s.now ∧ (s.latePunch c).tracker = s.tracker ∧
    (s.latePunch c).arbiter = s.arbiter ∧ (s.latePunch c).writer = s.writer ∧ (s.latePunch c).store = s.store ∧
    (s.latePunch c).memory = s.memory ∧ (s.latePunch c).port = s.port ∧ (s.latePunch c).cursors = s.cursors ∧
    (s.latePunch c).engine = s.engine ∧ (s.latePunch c).editor = s.editor ∧ (s.latePunch c).freeDraws = s.freeDraws := by
  unfold latePunch
  repeat' split
  all_goals simp

@[simp] theorem closingDone_frame (s : State) (c : ControlId) :
    (s.closingDone c).pending = s.pending ∧ (s.closingDone c).now = s.now ∧ (s.closingDone c).tracker = s.tracker ∧
    (s.closingDone c).arbiter = s.arbiter ∧ (s.closingDone c).pass = s.pass ∧ (s.closingDone c).writer = s.writer ∧
    (s.closingDone c).memory = s.memory ∧ (s.closingDone c).port = s.port ∧ (s.closingDone c).cursors = s.cursors ∧
    (s.closingDone c).engine = s.engine ∧ (s.closingDone c).surface = s.surface ∧ (s.closingDone c).editor = s.editor ∧
    (s.closingDone c).freeDraws = s.freeDraws := by
  unfold closingDone
  simp

theorem openSegment_frame {s s1 : State} {c : ControlId} {t : Frame} {l : Level}
    (h : s.openSegment c t l = some s1) :
    (s1).pending = s.pending ∧ (s1).now = s.now ∧ (s1).tracker = s.tracker ∧
    (s1).arbiter = s.arbiter ∧ (s1).pass = s.pass ∧ (s1).memory = s.memory ∧
    (s1).port = s.port ∧ (s1).cursors = s.cursors ∧ (s1).engine = s.engine ∧
    (s1).surface = s.surface ∧ (s1).freeDraws = s.freeDraws := by
  unfold openSegment at h
  split at h
  · next first s2 h2 =>
    split at h
    · next reserve s3 h3 =>
      simp only [Option.some.injEq] at h
      subst h
      simp [takeSlot_frame h2, takeSlot_frame h3]
    · exact absurd h (by simp)
  · exact absurd h (by simp)

theorem punchIn_frame {s s1 : State} {c : ControlId} {t : Frame} {l : Level}
    (h : s.punchIn c t l = .done s1) :
    (s1).pending = s.pending ∧ (s1).now = s.now ∧ (s1).tracker = s.tracker ∧
    (s1).arbiter = s.arbiter ∧ (s1).memory = s.memory ∧ (s1).port = s.port ∧
    (s1).cursors = s.cursors ∧ (s1).engine = s.engine ∧ (s1).freeDraws = s.freeDraws := by
  unfold punchIn at h
  split at h
  · split at h
    · split at h
      · next s2 h2 =>
        simp only [WriterAnswer.done.injEq] at h
        subst h
        simp [openSegment_frame h2]
      · exact absurd h (by simp)
    · exact absurd h (by simp)
  · simp only [WriterAnswer.done.injEq] at h
    subst h
    simp

theorem append_frame {s s1 : State} {e : Evaluation} {g : Segment} (h : s.append e g = .done s1) :
    (s1).pending = s.pending ∧ (s1).now = s.now ∧ (s1).tracker = s.tracker ∧
    (s1).arbiter = s.arbiter ∧ (s1).memory = s.memory ∧ (s1).cursors = s.cursors ∧
    (s1).engine = s.engine ∧ (s1).freeDraws = s.freeDraws := by
  unfold append at h
  split at h
  · simp only [WriterAnswer.done.injEq] at h
    subst h
    simp
  · split at h
    · exact absurd h (by simp)
    · split at h
      · split at h
        · next slot s2 h2 =>
          simp only [WriterAnswer.done.injEq] at h
          subst h
          simp [takeSlot_frame h2]
        · exact absurd h (by simp)
      · exact absurd h (by simp)

@[simp] theorem discardSegment_frame (s : State) (c : ControlId) :
    (s.discardSegment c).pending = s.pending ∧ (s.discardSegment c).now = s.now ∧ (s.discardSegment c).tracker = s.tracker ∧
    (s.discardSegment c).arbiter = s.arbiter ∧ (s.discardSegment c).pass = s.pass ∧ (s.discardSegment c).memory = s.memory ∧
    (s.discardSegment c).cursors = s.cursors ∧ (s.discardSegment c).engine = s.engine ∧ (s.discardSegment c).surface = s.surface ∧
    (s.discardSegment c).editor = s.editor := by
  unfold discardSegment
  repeat' split
  all_goals simp

theorem discardFold_frame (l : List ControlId) (s : State) :
    (l.foldl discardSegment s).pending = s.pending ∧ (l.foldl discardSegment s).now = s.now ∧ (l.foldl discardSegment s).tracker = s.tracker ∧
    (l.foldl discardSegment s).arbiter = s.arbiter ∧ (l.foldl discardSegment s).pass = s.pass ∧ (l.foldl discardSegment s).memory = s.memory ∧
    (l.foldl discardSegment s).cursors = s.cursors ∧ (l.foldl discardSegment s).engine = s.engine ∧ (l.foldl discardSegment s).surface = s.surface ∧
    (l.foldl discardSegment s).editor = s.editor := by
  induction l generalizing s with
  | nil => simp
  | cons c l ih => simp [ih]

@[simp] theorem discardAll_frame (s : State) :
    (s.discardAll).pending = s.pending ∧ (s.discardAll).now = s.now ∧ (s.discardAll).tracker = s.tracker ∧
    (s.discardAll).arbiter = s.arbiter ∧ (s.discardAll).pass = s.pass ∧ (s.discardAll).memory = s.memory ∧
    (s.discardAll).cursors = s.cursors ∧ (s.discardAll).engine = s.engine ∧ (s.discardAll).surface = s.surface ∧
    (s.discardAll).editor = s.editor := by
  unfold discardAll
  exact discardFold_frame _ s

/-! ## Pass -/

@[simp] theorem startPass_frame (s : State) (t : Frame) :
    (s.startPass t).pending = s.pending ∧ (s.startPass t).now = s.now ∧ (s.startPass t).tracker = s.tracker ∧
    (s.startPass t).arbiter = s.arbiter ∧ (s.startPass t).store = s.store ∧ (s.startPass t).memory = s.memory ∧
    (s.startPass t).port = s.port ∧ (s.startPass t).cursors = s.cursors ∧ (s.startPass t).surface = s.surface ∧
    (s.startPass t).editor = s.editor ∧ (s.startPass t).freeDraws = s.freeDraws := by
  unfold startPass
  simp

@[simp] theorem frameEvent_frame (s : State) (t : Frame) :
    (s.frameEvent t).pending = s.pending ∧ (s.frameEvent t).now = s.now ∧ (s.frameEvent t).arbiter = s.arbiter ∧
    (s.frameEvent t).store = s.store ∧ (s.frameEvent t).memory = s.memory ∧ (s.frameEvent t).port = s.port ∧
    (s.frameEvent t).cursors = s.cursors ∧ (s.frameEvent t).surface = s.surface ∧ (s.frameEvent t).freeDraws = s.freeDraws := by
  unfold frameEvent
  repeat' split
  all_goals simp

@[simp] theorem completePass_frame (s : State) :
    (s.completePass).pending = s.pending ∧ (s.completePass).now = s.now ∧ (s.completePass).arbiter = s.arbiter ∧
    (s.completePass).store = s.store ∧ (s.completePass).memory = s.memory ∧ (s.completePass).port = s.port ∧
    (s.completePass).cursors = s.cursors ∧ (s.completePass).surface = s.surface ∧ (s.completePass).editor = s.editor ∧
    (s.completePass).freeDraws = s.freeDraws := by
  unfold completePass
  dsimp only
  repeat' split
  all_goals simp

@[simp] theorem staleTest_frame (s : State) (c : ControlId) (t : Frame) :
    (s.staleTest c t).pending = s.pending ∧ (s.staleTest c t).now = s.now ∧ (s.staleTest c t).tracker = s.tracker ∧
    (s.staleTest c t).pass = s.pass ∧ (s.staleTest c t).writer = s.writer ∧ (s.staleTest c t).store = s.store ∧
    (s.staleTest c t).memory = s.memory ∧ (s.staleTest c t).port = s.port ∧ (s.staleTest c t).cursors = s.cursors ∧
    (s.staleTest c t).engine = s.engine ∧ (s.staleTest c t).editor = s.editor ∧ (s.staleTest c t).freeDraws = s.freeDraws := by
  unfold staleTest
  repeat' split
  all_goals simp

@[simp] theorem evaluationStep_frame (s : State) (c : ControlId) (t : Frame) :
    (s.evaluationStep c t).pending = s.pending ∧ (s.evaluationStep c t).now = s.now ∧ (s.evaluationStep c t).tracker = s.tracker ∧
    (s.evaluationStep c t).writer = s.writer ∧ (s.evaluationStep c t).store = s.store ∧ (s.evaluationStep c t).memory = s.memory ∧
    (s.evaluationStep c t).engine = s.engine ∧ (s.evaluationStep c t).editor = s.editor ∧ (s.evaluationStep c t).freeDraws = s.freeDraws := by
  unfold evaluationStep
  simp

@[simp] theorem recordChoice_frame (s : State) (x : Inputs) (y : Choice) :
    (s.recordChoice x y).pending = s.pending ∧ (s.recordChoice x y).now = s.now ∧ (s.recordChoice x y).tracker = s.tracker ∧
    (s.recordChoice x y).arbiter = s.arbiter ∧ (s.recordChoice x y).writer = s.writer ∧ (s.recordChoice x y).store = s.store ∧
    (s.recordChoice x y).memory = s.memory ∧ (s.recordChoice x y).port = s.port ∧ (s.recordChoice x y).cursors = s.cursors ∧
    (s.recordChoice x y).engine = s.engine ∧ (s.recordChoice x y).surface = s.surface ∧ (s.recordChoice x y).editor = s.editor ∧
    (s.recordChoice x y).freeDraws = s.freeDraws := by
  unfold recordChoice
  simp

@[simp] theorem writeEntry_frame (s : State) (e : Evaluation) :
    (s.writeEntry e).pending = s.pending ∧ (s.writeEntry e).now = s.now ∧ (s.writeEntry e).tracker = s.tracker ∧
    (s.writeEntry e).arbiter = s.arbiter ∧ (s.writeEntry e).pass = s.pass ∧ (s.writeEntry e).writer = s.writer ∧
    (s.writeEntry e).store = s.store ∧ (s.writeEntry e).memory = s.memory ∧ (s.writeEntry e).port = s.port ∧
    (s.writeEntry e).cursors = s.cursors ∧ (s.writeEntry e).surface = s.surface ∧ (s.writeEntry e).editor = s.editor ∧
    (s.writeEntry e).freeDraws = s.freeDraws := by
  unfold writeEntry
  repeat' split
  all_goals simp

@[simp] theorem recordResults_frame (s : State) (e : Evaluation) :
    (s.recordResults e).pending = s.pending ∧ (s.recordResults e).now = s.now ∧ (s.recordResults e).tracker = s.tracker ∧
    (s.recordResults e).arbiter = s.arbiter ∧ (s.recordResults e).writer = s.writer ∧ (s.recordResults e).store = s.store ∧
    (s.recordResults e).memory = s.memory ∧ (s.recordResults e).port = s.port ∧ (s.recordResults e).cursors = s.cursors ∧
    (s.recordResults e).engine = s.engine ∧ (s.recordResults e).surface = s.surface ∧ (s.recordResults e).editor = s.editor ∧
    (s.recordResults e).freeDraws = s.freeDraws := by
  unfold recordResults
  simp

@[simp] theorem endEvaluation_frame (s : State) (c : ControlId) :
    (s.endEvaluation c).pending = s.pending ∧ (s.endEvaluation c).now = s.now ∧ (s.endEvaluation c).arbiter = s.arbiter ∧
    (s.endEvaluation c).store = s.store ∧ (s.endEvaluation c).memory = s.memory ∧ (s.endEvaluation c).port = s.port ∧
    (s.endEvaluation c).cursors = s.cursors ∧ (s.endEvaluation c).surface = s.surface ∧ (s.endEvaluation c).editor = s.editor ∧
    (s.endEvaluation c).freeDraws = s.freeDraws := by
  unfold endEvaluation
  repeat' split
  all_goals simp

@[simp] theorem finishEvaluation_frame (s : State) (e : Evaluation) :
    (s.finishEvaluation e).pending = s.pending ∧ (s.finishEvaluation e).now = s.now ∧ (s.finishEvaluation e).arbiter = s.arbiter ∧
    (s.finishEvaluation e).store = s.store ∧ (s.finishEvaluation e).memory = s.memory ∧ (s.finishEvaluation e).port = s.port ∧
    (s.finishEvaluation e).cursors = s.cursors ∧ (s.finishEvaluation e).editor = s.editor ∧ (s.finishEvaluation e).freeDraws = s.freeDraws := by
  unfold finishEvaluation
  simp

@[simp] theorem closeAtGlideEnd_frame (s : State) (e : Evaluation) :
    (s.closeAtGlideEnd e).pending = s.pending ∧ (s.closeAtGlideEnd e).now = s.now ∧ (s.closeAtGlideEnd e).tracker = s.tracker ∧
    (s.closeAtGlideEnd e).arbiter = s.arbiter ∧ (s.closeAtGlideEnd e).pass = s.pass ∧ (s.closeAtGlideEnd e).memory = s.memory ∧
    (s.closeAtGlideEnd e).cursors = s.cursors ∧ (s.closeAtGlideEnd e).engine = s.engine ∧ (s.closeAtGlideEnd e).surface = s.surface ∧
    (s.closeAtGlideEnd e).freeDraws = s.freeDraws := by
  unfold closeAtGlideEnd
  repeat' split
  all_goals simp

@[simp] theorem enterWait_frame (s : State) (e : Evaluation) (w : WaitCause) (d : EvalTodo) :
    (s.enterWait e w d).pending = s.pending ∧ (s.enterWait e w d).now = s.now ∧ (s.enterWait e w d).tracker = s.tracker ∧
    (s.enterWait e w d).arbiter = s.arbiter ∧ (s.enterWait e w d).writer = s.writer ∧ (s.enterWait e w d).store = s.store ∧
    (s.enterWait e w d).memory = s.memory ∧ (s.enterWait e w d).port = s.port ∧ (s.enterWait e w d).cursors = s.cursors ∧
    (s.enterWait e w d).engine = s.engine ∧ (s.enterWait e w d).surface = s.surface ∧ (s.enterWait e w d).editor = s.editor ∧
    (s.enterWait e w d).freeDraws = s.freeDraws := by
  unfold enterWait
  simp

@[simp] theorem settleWriter_done_frame (s s1 : State) (e : Evaluation) (d : EvalTodo) :
    (s.settleWriter e d (.done s1)).pending = s1.pending ∧ (s.settleWriter e d (.done s1)).now = s1.now ∧ (s.settleWriter e d (.done s1)).arbiter = s1.arbiter ∧
    (s.settleWriter e d (.done s1)).memory = s1.memory ∧ (s.settleWriter e d (.done s1)).cursors = s1.cursors ∧ (s.settleWriter e d (.done s1)).freeDraws = s1.freeDraws := by
  unfold settleWriter
  by_cases h : d = .append <;> simp [h]

@[simp] theorem settleWriter_waits (s : State) (e : Evaluation) (d : EvalTodo) (w : WaitCause) :
    s.settleWriter e d (.waits w) = s.enterWait e w d := rfl

@[simp] theorem attemptPunchIn_frame (s : State) (e : Evaluation) :
    (s.attemptPunchIn e).pending = s.pending ∧ (s.attemptPunchIn e).now = s.now ∧ (s.attemptPunchIn e).arbiter = s.arbiter ∧
    (s.attemptPunchIn e).memory = s.memory ∧ (s.attemptPunchIn e).cursors = s.cursors ∧ (s.attemptPunchIn e).freeDraws = s.freeDraws := by
  unfold attemptPunchIn
  cases h : s.punchIn e.control e.frame e.presented with
  | done s1 => simp [punchIn_frame h]
  | waits w => simp

@[simp] theorem continueSegment_frame (s : State) (e : Evaluation) (g : Segment) :
    (s.continueSegment e g).pending = s.pending ∧ (s.continueSegment e g).now = s.now ∧ (s.continueSegment e g).arbiter = s.arbiter ∧
    (s.continueSegment e g).memory = s.memory ∧ (s.continueSegment e g).cursors = s.cursors ∧ (s.continueSegment e g).freeDraws = s.freeDraws := by
  unfold continueSegment
  split
  · simp
  · cases h : s.append e g with
    | done s1 => simp [append_frame h]
    | waits w => simp

@[simp] theorem withoutSegment_frame (s : State) (e : Evaluation) :
    (s.withoutSegment e).pending = s.pending ∧ (s.withoutSegment e).now = s.now ∧ (s.withoutSegment e).arbiter = s.arbiter ∧
    (s.withoutSegment e).memory = s.memory ∧ (s.withoutSegment e).cursors = s.cursors ∧ (s.withoutSegment e).freeDraws = s.freeDraws := by
  unfold withoutSegment
  repeat' split
  all_goals simp

@[simp] theorem writerStep_frame (s : State) (e : Evaluation) :
    (s.writerStep e).pending = s.pending ∧ (s.writerStep e).now = s.now ∧ (s.writerStep e).arbiter = s.arbiter ∧
    (s.writerStep e).memory = s.memory ∧ (s.writerStep e).cursors = s.cursors ∧ (s.writerStep e).freeDraws = s.freeDraws := by
  unfold writerStep
  repeat' split
  all_goals simp

@[simp] theorem evaluate_frame (s : State) (c : ControlId) (t : Frame) :
    (s.evaluate c t).pending = s.pending ∧ (s.evaluate c t).now = s.now ∧ (s.evaluate c t).memory = s.memory ∧
    (s.evaluate c t).freeDraws = s.freeDraws := by
  unfold evaluate
  simp

@[simp] theorem resume_frame (s : State) (e : Evaluation) :
    (s.resume e).pending = s.pending ∧ (s.resume e).now = s.now ∧ (s.resume e).arbiter = s.arbiter ∧
    (s.resume e).memory = s.memory ∧ (s.resume e).cursors = s.cursors ∧ (s.resume e).freeDraws = s.freeDraws := by
  unfold resume
  repeat' split
  all_goals simp

/-! ## Splice and memory port -/

theorem spliceWrites_frame (l : List SlotRecord) (s : State) :
    (l.foldl (fun x w => x.postRequest (.spliceWrite w)) s).pending = s.pending ∧ (l.foldl (fun x w => x.postRequest (.spliceWrite w)) s).now = s.now ∧ (l.foldl (fun x w => x.postRequest (.spliceWrite w)) s).tracker = s.tracker ∧
    (l.foldl (fun x w => x.postRequest (.spliceWrite w)) s).arbiter = s.arbiter ∧ (l.foldl (fun x w => x.postRequest (.spliceWrite w)) s).pass = s.pass ∧ (l.foldl (fun x w => x.postRequest (.spliceWrite w)) s).writer = s.writer ∧
    (l.foldl (fun x w => x.postRequest (.spliceWrite w)) s).store = s.store ∧ (l.foldl (fun x w => x.postRequest (.spliceWrite w)) s).memory = s.memory ∧ (l.foldl (fun x w => x.postRequest (.spliceWrite w)) s).cursors = s.cursors ∧
    (l.foldl (fun x w => x.postRequest (.spliceWrite w)) s).engine = s.engine ∧ (l.foldl (fun x w => x.postRequest (.spliceWrite w)) s).surface = s.surface ∧ (l.foldl (fun x w => x.postRequest (.spliceWrite w)) s).editor = s.editor ∧
    (l.foldl (fun x w => x.postRequest (.spliceWrite w)) s).freeDraws = s.freeDraws := by
  induction l generalizing s with
  | nil => simp
  | cons w l ih => simp [ih]

@[simp] theorem beginWrites_frame (s : State) (g : Segment) (a : SpliceAnswer) :
    (s.beginWrites g a).pending = s.pending ∧ (s.beginWrites g a).now = s.now ∧ (s.beginWrites g a).tracker = s.tracker ∧
    (s.beginWrites g a).arbiter = s.arbiter ∧ (s.beginWrites g a).pass = s.pass ∧ (s.beginWrites g a).writer = s.writer ∧
    (s.beginWrites g a).memory = s.memory ∧ (s.beginWrites g a).cursors = s.cursors ∧ (s.beginWrites g a).engine = s.engine ∧
    (s.beginWrites g a).surface = s.surface ∧ (s.beginWrites g a).editor = s.editor ∧ (s.beginWrites g a).freeDraws = s.freeDraws := by
  unfold beginWrites
  simp [spliceWrites_frame]

@[simp] theorem startSplice_frame (s : State) (g : Segment) :
    (s.startSplice g).pending = s.pending ∧ (s.startSplice g).now = s.now ∧ (s.startSplice g).tracker = s.tracker ∧
    (s.startSplice g).arbiter = s.arbiter ∧ (s.startSplice g).pass = s.pass ∧ (s.startSplice g).writer = s.writer ∧
    (s.startSplice g).memory = s.memory ∧ (s.startSplice g).engine = s.engine ∧ (s.startSplice g).surface = s.surface ∧
    (s.startSplice g).editor = s.editor ∧ (s.startSplice g).freeDraws = s.freeDraws := by
  unfold startSplice
  repeat' split
  all_goals simp

@[simp] theorem walkSplice_frame (s : State) (g : Segment) (a : SpliceAnswer) (r : SlotRecord) :
    (s.walkSplice g a r).pending = s.pending ∧ (s.walkSplice g a r).now = s.now ∧ (s.walkSplice g a r).tracker = s.tracker ∧
    (s.walkSplice g a r).arbiter = s.arbiter ∧ (s.walkSplice g a r).pass = s.pass ∧ (s.walkSplice g a r).writer = s.writer ∧
    (s.walkSplice g a r).memory = s.memory ∧ (s.walkSplice g a r).cursors = s.cursors ∧ (s.walkSplice g a r).engine = s.engine ∧
    (s.walkSplice g a r).surface = s.surface ∧ (s.walkSplice g a r).editor = s.editor ∧ (s.walkSplice g a r).freeDraws = s.freeDraws := by
  unfold walkSplice
  dsimp only
  repeat' split
  all_goals simp

@[simp] theorem returnSpliced_frame (s : State) (g : Segment) (a : SpliceAnswer) :
    (s.returnSpliced g a).pending = s.pending ∧ (s.returnSpliced g a).now = s.now ∧ (s.returnSpliced g a).tracker = s.tracker ∧
    (s.returnSpliced g a).arbiter = s.arbiter ∧ (s.returnSpliced g a).pass = s.pass ∧ (s.returnSpliced g a).writer = s.writer ∧
    (s.returnSpliced g a).memory = s.memory ∧ (s.returnSpliced g a).cursors = s.cursors ∧ (s.returnSpliced g a).engine = s.engine ∧
    (s.returnSpliced g a).surface = s.surface ∧ (s.returnSpliced g a).editor = s.editor := by
  unfold returnSpliced
  repeat' split
  all_goals simp

@[simp] theorem completeSplice_frame (s : State) (g : Segment) (a : SpliceAnswer) (rest : List ClosedSegment) :
    (s.completeSplice g a rest).pending = s.pending ∧ (s.completeSplice g a rest).now = s.now ∧ (s.completeSplice g a rest).tracker = s.tracker ∧
    (s.completeSplice g a rest).arbiter = s.arbiter ∧ (s.completeSplice g a rest).pass = s.pass ∧ (s.completeSplice g a rest).writer = s.writer ∧
    (s.completeSplice g a rest).memory = s.memory ∧ (s.completeSplice g a rest).engine = s.engine ∧ (s.completeSplice g a rest).surface = s.surface ∧
    (s.completeSplice g a rest).editor = s.editor := by
  unfold completeSplice
  repeat' split
  all_goals simp

@[simp] theorem beginAccess_frame (s : State) (r : MemRequest) :
    (s.beginAccess r).pending = s.pending ∧ (s.beginAccess r).now = s.now ∧ (s.beginAccess r).tracker = s.tracker ∧
    (s.beginAccess r).arbiter = s.arbiter ∧ (s.beginAccess r).pass = s.pass ∧ (s.beginAccess r).writer = s.writer ∧
    (s.beginAccess r).memory = s.memory ∧ (s.beginAccess r).cursors = s.cursors ∧ (s.beginAccess r).engine = s.engine ∧
    (s.beginAccess r).surface = s.surface ∧ (s.beginAccess r).editor = s.editor ∧ (s.beginAccess r).freeDraws = s.freeDraws := by
  unfold beginAccess
  repeat' split
  all_goals simp

@[simp] theorem completeWrite_frame (s : State) (w : SlotRecord) :
    (s.completeWrite w).pending = s.pending ∧ (s.completeWrite w).now = s.now ∧ (s.completeWrite w).tracker = s.tracker ∧
    (s.completeWrite w).arbiter = s.arbiter ∧ (s.completeWrite w).pass = s.pass ∧ (s.completeWrite w).writer = s.writer ∧
    (s.completeWrite w).store = s.store ∧ (s.completeWrite w).cursors = s.cursors ∧ (s.completeWrite w).engine = s.engine ∧
    (s.completeWrite w).surface = s.surface ∧ (s.completeWrite w).editor = s.editor ∧ (s.completeWrite w).freeDraws = s.freeDraws := by
  unfold completeWrite
  simp

/-! ## Transport -/

@[simp] theorem postTransportWhen_frame (s : State) (b : Bool) :
    (s.postTransportWhen b).pending = s.pending ∧ (s.postTransportWhen b).now = s.now ∧ (s.postTransportWhen b).tracker = s.tracker ∧
    (s.postTransportWhen b).arbiter = s.arbiter ∧ (s.postTransportWhen b).pass = s.pass ∧ (s.postTransportWhen b).writer = s.writer ∧
    (s.postTransportWhen b).store = s.store ∧ (s.postTransportWhen b).memory = s.memory ∧ (s.postTransportWhen b).port = s.port ∧
    (s.postTransportWhen b).cursors = s.cursors ∧ (s.postTransportWhen b).engine = s.engine ∧ (s.postTransportWhen b).freeDraws = s.freeDraws := by
  unfold postTransportWhen
  repeat' split
  all_goals simp

@[simp] theorem takeStoppedMark_frame (s : State) (f : Frame) :
    (s.takeStoppedMark f).pending = s.pending ∧ (s.takeStoppedMark f).now = s.now ∧ (s.takeStoppedMark f).arbiter = s.arbiter ∧
    (s.takeStoppedMark f).memory = s.memory ∧ (s.takeStoppedMark f).engine = s.engine ∧ (s.takeStoppedMark f).freeDraws = s.freeDraws := by
  unfold takeStoppedMark
  dsimp only
  repeat' split
  all_goals simp

@[simp] theorem acquire_frame (s : State) :
    (s.acquire).pending = s.pending ∧ (s.acquire).now = s.now ∧ (s.acquire).tracker = s.tracker ∧
    (s.acquire).arbiter = s.arbiter ∧ (s.acquire).store = s.store ∧ (s.acquire).memory = s.memory ∧
    (s.acquire).port = s.port ∧ (s.acquire).cursors = s.cursors ∧ (s.acquire).engine = s.engine ∧
    (s.acquire).surface = s.surface ∧ (s.acquire).editor = s.editor ∧ (s.acquire).freeDraws = s.freeDraws := by
  unfold acquire
  simp

@[simp] theorem takeMovingMarkParked_frame (s : State) (f : Frame) :
    (s.takeMovingMarkParked f).pending = s.pending ∧ (s.takeMovingMarkParked f).now = s.now ∧ (s.takeMovingMarkParked f).arbiter = s.arbiter ∧
    (s.takeMovingMarkParked f).memory = s.memory := by
  unfold takeMovingMarkParked
  dsimp only
  repeat' split
  all_goals simp

@[simp] theorem takeMovingMarkRolling_frame (s : State) (f : Frame) :
    (s.takeMovingMarkRolling f).pending = s.pending ∧ (s.takeMovingMarkRolling f).now = s.now ∧ (s.takeMovingMarkRolling f).arbiter = s.arbiter ∧
    (s.takeMovingMarkRolling f).memory = s.memory ∧ (s.takeMovingMarkRolling f).freeDraws = s.freeDraws := by
  unfold takeMovingMarkRolling
  dsimp only
  repeat' split
  all_goals simp

@[simp] theorem takeMark_frame (s : State) (f : Frame) (m : Motion) :
    (s.takeMark f m).pending = s.pending ∧ (s.takeMark f m).now = s.now ∧ (s.takeMark f m).arbiter = s.arbiter ∧
    (s.takeMark f m).memory = s.memory := by
  unfold takeMark
  repeat' split
  all_goals simp

@[simp] theorem stopByTimer_frame (s : State) (b : Bool) :
    (s.stopByTimer b).pending = s.pending ∧ (s.stopByTimer b).now = s.now ∧ (s.stopByTimer b).arbiter = s.arbiter ∧
    (s.stopByTimer b).memory = s.memory ∧ (s.stopByTimer b).cursors = s.cursors ∧ (s.stopByTimer b).freeDraws = s.freeDraws := by
  unfold stopByTimer
  repeat' split
  all_goals simp

@[simp] theorem freewheelTo_frame (s : State) (n : Nat) :
    (s.freewheelTo n).pending = s.pending ∧ (s.freewheelTo n).now = s.now ∧ (s.freewheelTo n).arbiter = s.arbiter ∧
    (s.freewheelTo n).store = s.store ∧ (s.freewheelTo n).memory = s.memory ∧ (s.freewheelTo n).port = s.port ∧
    (s.freewheelTo n).cursors = s.cursors ∧ (s.freewheelTo n).freeDraws = s.freeDraws := by
  unfold freewheelTo
  simp

@[simp] theorem takeExpiry_frame (s : State) :
    (s.takeExpiry).pending = s.pending ∧ (s.takeExpiry).now = s.now ∧ (s.takeExpiry).arbiter = s.arbiter ∧
    (s.takeExpiry).memory = s.memory ∧ (s.takeExpiry).cursors = s.cursors ∧ (s.takeExpiry).freeDraws = s.freeDraws := by
  unfold takeExpiry
  dsimp only
  repeat' split
  all_goals simp

@[simp] theorem atExpiry_frame (s : State) :
    (s.atExpiry).pending = s.pending ∧ (s.atExpiry).arbiter = s.arbiter ∧ (s.atExpiry).pass = s.pass ∧
    (s.atExpiry).writer = s.writer ∧ (s.atExpiry).store = s.store ∧ (s.atExpiry).memory = s.memory ∧
    (s.atExpiry).port = s.port ∧ (s.atExpiry).cursors = s.cursors ∧ (s.atExpiry).engine = s.engine ∧
    (s.atExpiry).surface = s.surface ∧ (s.atExpiry).editor = s.editor ∧ (s.atExpiry).freeDraws = s.freeDraws := by
  unfold atExpiry
  simp

/-! ## Steps -/

@[simp] theorem serveOldestClosing_frame (s : State) :
    (s.serveOldestClosing).pending = s.pending ∧ (s.serveOldestClosing).now = s.now ∧ (s.serveOldestClosing).tracker = s.tracker ∧
    (s.serveOldestClosing).arbiter = s.arbiter ∧ (s.serveOldestClosing).pass = s.pass ∧ (s.serveOldestClosing).writer = s.writer ∧
    (s.serveOldestClosing).memory = s.memory ∧ (s.serveOldestClosing).cursors = s.cursors ∧ (s.serveOldestClosing).engine = s.engine ∧
    (s.serveOldestClosing).surface = s.surface ∧ (s.serveOldestClosing).freeDraws = s.freeDraws := by
  unfold serveOldestClosing
  split
  · next slot s1 h =>
    split <;> simp [takeSlot_frame h]
  · simp

@[simp] theorem refillFrom_frame (s : State) (r : SlotRecord) :
    (s.refillFrom r).pending = s.pending ∧ (s.refillFrom r).now = s.now ∧ (s.refillFrom r).tracker = s.tracker ∧
    (s.refillFrom r).arbiter = s.arbiter ∧ (s.refillFrom r).pass = s.pass ∧ (s.refillFrom r).writer = s.writer ∧
    (s.refillFrom r).memory = s.memory ∧ (s.refillFrom r).port = s.port ∧ (s.refillFrom r).cursors = s.cursors ∧
    (s.refillFrom r).engine = s.engine ∧ (s.refillFrom r).surface = s.surface ∧ (s.refillFrom r).editor = s.editor ∧
    (s.refillFrom r).freeDraws = s.freeDraws := by
  unfold refillFrom
  simp

@[simp] theorem completeRefill_frame (s : State) (slot : Slot) :
    (s.completeRefill slot).pending = s.pending ∧ (s.completeRefill slot).now = s.now ∧ (s.completeRefill slot).tracker = s.tracker ∧
    (s.completeRefill slot).arbiter = s.arbiter ∧ (s.completeRefill slot).pass = s.pass ∧ (s.completeRefill slot).writer = s.writer ∧
    (s.completeRefill slot).memory = s.memory ∧ (s.completeRefill slot).cursors = s.cursors ∧ (s.completeRefill slot).engine = s.engine ∧
    (s.completeRefill slot).surface = s.surface ∧ (s.completeRefill slot).editor = s.editor ∧ (s.completeRefill slot).freeDraws = s.freeDraws := by
  unfold completeRefill
  repeat' split
  all_goals simp

@[simp] theorem completeFetch_frame (s : State) (c : ControlId) (slot : Slot) :
    (s.completeFetch c slot).pending = s.pending ∧ (s.completeFetch c slot).now = s.now ∧ (s.completeFetch c slot).tracker = s.tracker ∧
    (s.completeFetch c slot).arbiter = s.arbiter ∧ (s.completeFetch c slot).pass = s.pass ∧ (s.completeFetch c slot).writer = s.writer ∧
    (s.completeFetch c slot).store = s.store ∧ (s.completeFetch c slot).memory = s.memory ∧ (s.completeFetch c slot).engine = s.engine ∧
    (s.completeFetch c slot).surface = s.surface ∧ (s.completeFetch c slot).editor = s.editor ∧ (s.completeFetch c slot).freeDraws = s.freeDraws := by
  unfold completeFetch
  repeat' split
  all_goals simp

@[simp] theorem walkOn_frame (s : State) (w : Walk) (r : SlotRecord) :
    (s.walkOn w r).pending = s.pending ∧ (s.walkOn w r).now = s.now ∧ (s.walkOn w r).tracker = s.tracker ∧
    (s.walkOn w r).arbiter = s.arbiter ∧ (s.walkOn w r).pass = s.pass ∧ (s.walkOn w r).writer = s.writer ∧
    (s.walkOn w r).store = s.store ∧ (s.walkOn w r).memory = s.memory ∧ (s.walkOn w r).engine = s.engine ∧
    (s.walkOn w r).surface = s.surface ∧ (s.walkOn w r).editor = s.editor ∧ (s.walkOn w r).freeDraws = s.freeDraws := by
  unfold walkOn
  repeat' split
  all_goals simp

@[simp] theorem completeWalkRead_frame (s : State) (slot : Slot) (live : Bool) :
    (s.completeWalkRead slot live).pending = s.pending ∧ (s.completeWalkRead slot live).now = s.now ∧ (s.completeWalkRead slot live).tracker = s.tracker ∧
    (s.completeWalkRead slot live).arbiter = s.arbiter ∧ (s.completeWalkRead slot live).pass = s.pass ∧ (s.completeWalkRead slot live).writer = s.writer ∧
    (s.completeWalkRead slot live).store = s.store ∧ (s.completeWalkRead slot live).memory = s.memory ∧ (s.completeWalkRead slot live).engine = s.engine ∧
    (s.completeWalkRead slot live).surface = s.surface ∧ (s.completeWalkRead slot live).editor = s.editor ∧ (s.completeWalkRead slot live).freeDraws = s.freeDraws := by
  unfold completeWalkRead
  repeat' split
  all_goals simp

@[simp] theorem completeSpliceRead_frame (s : State) (slot : Slot) :
    (s.completeSpliceRead slot).pending = s.pending ∧ (s.completeSpliceRead slot).now = s.now ∧ (s.completeSpliceRead slot).tracker = s.tracker ∧
    (s.completeSpliceRead slot).arbiter = s.arbiter ∧ (s.completeSpliceRead slot).pass = s.pass ∧ (s.completeSpliceRead slot).writer = s.writer ∧
    (s.completeSpliceRead slot).memory = s.memory ∧ (s.completeSpliceRead slot).cursors = s.cursors ∧ (s.completeSpliceRead slot).engine = s.engine ∧
    (s.completeSpliceRead slot).surface = s.surface ∧ (s.completeSpliceRead slot).editor = s.editor ∧ (s.completeSpliceRead slot).freeDraws = s.freeDraws := by
  unfold completeSpliceRead
  repeat' split
  all_goals simp

@[simp] theorem spliceWritten_frame (s : State) :
    (s.spliceWritten).pending = s.pending ∧ (s.spliceWritten).now = s.now ∧ (s.spliceWritten).tracker = s.tracker ∧
    (s.spliceWritten).arbiter = s.arbiter ∧ (s.spliceWritten).pass = s.pass ∧ (s.spliceWritten).writer = s.writer ∧
    (s.spliceWritten).memory = s.memory ∧ (s.spliceWritten).engine = s.engine ∧ (s.spliceWritten).surface = s.surface ∧
    (s.spliceWritten).editor = s.editor := by
  unfold spliceWritten
  repeat' split
  all_goals simp

@[simp] theorem formatDone_frame (s : State) :
    (s.formatDone).pending = s.pending ∧ (s.formatDone).now = s.now ∧ (s.formatDone).tracker = s.tracker ∧
    (s.formatDone).arbiter = s.arbiter ∧ (s.formatDone).pass = s.pass ∧ (s.formatDone).writer = s.writer ∧
    (s.formatDone).memory = s.memory ∧ (s.formatDone).port = s.port ∧ (s.formatDone).cursors = s.cursors ∧
    (s.formatDone).engine = s.engine ∧ (s.formatDone).surface = s.surface ∧ (s.formatDone).editor = s.editor ∧
    (s.formatDone).freeDraws = s.freeDraws := by
  unfold formatDone
  simp

@[simp] theorem completeFormat_frame (s : State) (slot : Slot) :
    (s.completeFormat slot).pending = s.pending ∧ (s.completeFormat slot).now = s.now ∧ (s.completeFormat slot).tracker = s.tracker ∧
    (s.completeFormat slot).arbiter = s.arbiter ∧ (s.completeFormat slot).pass = s.pass ∧ (s.completeFormat slot).writer = s.writer ∧
    (s.completeFormat slot).cursors = s.cursors ∧ (s.completeFormat slot).engine = s.engine ∧ (s.completeFormat slot).surface = s.surface ∧
    (s.completeFormat slot).editor = s.editor ∧ (s.completeFormat slot).freeDraws = s.freeDraws := by
  unfold completeFormat
  repeat' split
  all_goals simp

@[simp] theorem streamRecord_frame (s : State) (r : ListRead) (x : SlotRecord) :
    (s.streamRecord r x).pending = s.pending ∧ (s.streamRecord r x).now = s.now ∧ (s.streamRecord r x).tracker = s.tracker ∧
    (s.streamRecord r x).arbiter = s.arbiter ∧ (s.streamRecord r x).pass = s.pass ∧ (s.streamRecord r x).writer = s.writer ∧
    (s.streamRecord r x).store = s.store ∧ (s.streamRecord r x).memory = s.memory ∧ (s.streamRecord r x).port = s.port ∧
    (s.streamRecord r x).cursors = s.cursors ∧ (s.streamRecord r x).engine = s.engine ∧ (s.streamRecord r x).surface = s.surface ∧
    (s.streamRecord r x).freeDraws = s.freeDraws := by
  unfold streamRecord
  dsimp only
  repeat' split
  all_goals simp

@[simp] theorem completeListRead_frame (s : State) (slot : Slot) (live : Bool) :
    (s.completeListRead slot live).pending = s.pending ∧ (s.completeListRead slot live).now = s.now ∧ (s.completeListRead slot live).tracker = s.tracker ∧
    (s.completeListRead slot live).arbiter = s.arbiter ∧ (s.completeListRead slot live).pass = s.pass ∧ (s.completeListRead slot live).writer = s.writer ∧
    (s.completeListRead slot live).store = s.store ∧ (s.completeListRead slot live).memory = s.memory ∧ (s.completeListRead slot live).cursors = s.cursors ∧
    (s.completeListRead slot live).engine = s.engine ∧ (s.completeListRead slot live).surface = s.surface ∧ (s.completeListRead slot live).freeDraws = s.freeDraws := by
  unfold completeListRead
  repeat' split
  all_goals simp

@[simp] theorem startWalk_frame (s : State) (c : ControlId) :
    (s.startWalk c).pending = s.pending ∧ (s.startWalk c).now = s.now ∧ (s.startWalk c).tracker = s.tracker ∧
    (s.startWalk c).arbiter = s.arbiter ∧ (s.startWalk c).pass = s.pass ∧ (s.startWalk c).writer = s.writer ∧
    (s.startWalk c).store = s.store ∧ (s.startWalk c).memory = s.memory ∧ (s.startWalk c).engine = s.engine ∧
    (s.startWalk c).surface = s.surface ∧ (s.startWalk c).editor = s.editor ∧ (s.startWalk c).freeDraws = s.freeDraws := by
  unfold startWalk
  repeat' split
  all_goals simp

@[simp] theorem serveLoadRecord_frame (s : State) :
    (s.serveLoadRecord).pending = s.pending ∧ (s.serveLoadRecord).now = s.now ∧ (s.serveLoadRecord).tracker = s.tracker ∧
    (s.serveLoadRecord).arbiter = s.arbiter ∧ (s.serveLoadRecord).pass = s.pass ∧ (s.serveLoadRecord).writer = s.writer ∧
    (s.serveLoadRecord).memory = s.memory ∧ (s.serveLoadRecord).cursors = s.cursors ∧ (s.serveLoadRecord).engine = s.engine ∧
    (s.serveLoadRecord).surface = s.surface ∧ (s.serveLoadRecord).freeDraws = s.freeDraws := by
  unfold serveLoadRecord
  split
  · next r l slot s1 hr hl h =>
    split <;> simp [takeSlot_frame h]
  · simp

@[simp] theorem requestListRead_frame (s : State) (r : ListRead) :
    (s.requestListRead r).pending = s.pending ∧ (s.requestListRead r).now = s.now ∧ (s.requestListRead r).tracker = s.tracker ∧
    (s.requestListRead r).arbiter = s.arbiter ∧ (s.requestListRead r).pass = s.pass ∧ (s.requestListRead r).writer = s.writer ∧
    (s.requestListRead r).store = s.store ∧ (s.requestListRead r).memory = s.memory ∧ (s.requestListRead r).cursors = s.cursors ∧
    (s.requestListRead r).engine = s.engine ∧ (s.requestListRead r).surface = s.surface ∧ (s.requestListRead r).freeDraws = s.freeDraws := by
  unfold requestListRead
  repeat' split
  all_goals simp

/-! ## Surface and seats -/

@[simp] theorem refuseReception_frame (s : State) (p : SurfaceId) (f : LinkFrame) (r : RefusalReason) :
    (s.refuseReception p f r).pending = s.pending ∧ (s.refuseReception p f r).now = s.now ∧ (s.refuseReception p f r).tracker = s.tracker ∧
    (s.refuseReception p f r).arbiter = s.arbiter ∧ (s.refuseReception p f r).pass = s.pass ∧ (s.refuseReception p f r).writer = s.writer ∧
    (s.refuseReception p f r).store = s.store ∧ (s.refuseReception p f r).memory = s.memory ∧ (s.refuseReception p f r).port = s.port ∧
    (s.refuseReception p f r).cursors = s.cursors ∧ (s.refuseReception p f r).engine = s.engine ∧ (s.refuseReception p f r).editor = s.editor ∧
    (s.refuseReception p f r).freeDraws = s.freeDraws := by
  unfold refuseReception
  repeat' split
  all_goals simp

@[simp] theorem examineSurface_frame (s : State) (p : SurfaceId) (f : LinkFrame) :
    (s.examineSurface p f).pending = s.pending ∧ (s.examineSurface p f).now = s.now ∧ (s.examineSurface p f).tracker = s.tracker ∧
    (s.examineSurface p f).arbiter = s.arbiter ∧ (s.examineSurface p f).pass = s.pass ∧ (s.examineSurface p f).writer = s.writer ∧
    (s.examineSurface p f).store = s.store ∧ (s.examineSurface p f).memory = s.memory ∧ (s.examineSurface p f).port = s.port ∧
    (s.examineSurface p f).cursors = s.cursors ∧ (s.examineSurface p f).engine = s.engine ∧ (s.examineSurface p f).editor = s.editor ∧
    (s.examineSurface p f).freeDraws = s.freeDraws := by
  unfold examineSurface
  repeat' split
  all_goals simp

@[simp] theorem surfacePresent_frame (s : State) (p : SurfaceId) :
    (s.surfacePresent p).pending = s.pending ∧ (s.surfacePresent p).now = s.now ∧ (s.surfacePresent p).tracker = s.tracker ∧
    (s.surfacePresent p).arbiter = s.arbiter ∧ (s.surfacePresent p).pass = s.pass ∧ (s.surfacePresent p).writer = s.writer ∧
    (s.surfacePresent p).store = s.store ∧ (s.surfacePresent p).memory = s.memory ∧ (s.surfacePresent p).port = s.port ∧
    (s.surfacePresent p).cursors = s.cursors ∧ (s.surfacePresent p).engine = s.engine ∧ (s.surfacePresent p).editor = s.editor ∧
    (s.surfacePresent p).freeDraws = s.freeDraws := by
  unfold surfacePresent
  repeat' split
  all_goals simp

@[simp] theorem surfaceFrame_frame (s : State) (p : SurfaceId) (bs : List Byte) :
    (s.surfaceFrame p bs).pending = s.pending ∧ (s.surfaceFrame p bs).now = s.now ∧ (s.surfaceFrame p bs).tracker = s.tracker ∧
    (s.surfaceFrame p bs).arbiter = s.arbiter ∧ (s.surfaceFrame p bs).pass = s.pass ∧ (s.surfaceFrame p bs).writer = s.writer ∧
    (s.surfaceFrame p bs).store = s.store ∧ (s.surfaceFrame p bs).memory = s.memory ∧ (s.surfaceFrame p bs).port = s.port ∧
    (s.surfaceFrame p bs).cursors = s.cursors ∧ (s.surfaceFrame p bs).engine = s.engine ∧ (s.surfaceFrame p bs).editor = s.editor ∧
    (s.surfaceFrame p bs).freeDraws = s.freeDraws := by
  unfold surfaceFrame
  repeat' split
  all_goals simp

@[simp] theorem setReceiving_frame (s : State) (p : SurfaceId) (x : Option (List Byte)) :
    (s.setReceiving p x).pending = s.pending ∧ (s.setReceiving p x).now = s.now ∧ (s.setReceiving p x).tracker = s.tracker ∧
    (s.setReceiving p x).arbiter = s.arbiter ∧ (s.setReceiving p x).pass = s.pass ∧ (s.setReceiving p x).writer = s.writer ∧
    (s.setReceiving p x).store = s.store ∧ (s.setReceiving p x).memory = s.memory ∧ (s.setReceiving p x).port = s.port ∧
    (s.setReceiving p x).cursors = s.cursors ∧ (s.setReceiving p x).engine = s.engine ∧ (s.setReceiving p x).editor = s.editor ∧
    (s.setReceiving p x).freeDraws = s.freeDraws := by
  unfold setReceiving
  simp

@[simp] theorem surfaceSilent_frame (s : State) (p : SurfaceId) (n : Nat) :
    (s.surfaceSilent p n).pending = s.pending ∧ (s.surfaceSilent p n).tracker = s.tracker ∧ (s.surfaceSilent p n).pass = s.pass ∧
    (s.surfaceSilent p n).writer = s.writer ∧ (s.surfaceSilent p n).store = s.store ∧ (s.surfaceSilent p n).memory = s.memory ∧
    (s.surfaceSilent p n).port = s.port ∧ (s.surfaceSilent p n).cursors = s.cursors ∧ (s.surfaceSilent p n).engine = s.engine ∧
    (s.surfaceSilent p n).freeDraws = s.freeDraws := by
  unfold surfaceSilent
  simp

@[simp] theorem surfaceSymbol_frame (p : SurfaceId) (s : State) (y : LineSymbol) :
    (surfaceSymbol p s y).pending = s.pending ∧ (surfaceSymbol p s y).now = s.now ∧ (surfaceSymbol p s y).tracker = s.tracker ∧
    (surfaceSymbol p s y).arbiter = s.arbiter ∧ (surfaceSymbol p s y).pass = s.pass ∧ (surfaceSymbol p s y).writer = s.writer ∧
    (surfaceSymbol p s y).store = s.store ∧ (surfaceSymbol p s y).memory = s.memory ∧ (surfaceSymbol p s y).port = s.port ∧
    (surfaceSymbol p s y).cursors = s.cursors ∧ (surfaceSymbol p s y).engine = s.engine ∧ (surfaceSymbol p s y).editor = s.editor ∧
    (surfaceSymbol p s y).freeDraws = s.freeDraws := by
  unfold surfaceSymbol
  repeat' split
  all_goals simp

@[simp] theorem surfaceSymbols_frame (p : SurfaceId) (l : List LineSymbol) (s : State) :
    (l.foldl (surfaceSymbol p) s).pending = s.pending ∧ (l.foldl (surfaceSymbol p) s).now = s.now ∧ (l.foldl (surfaceSymbol p) s).tracker = s.tracker ∧
    (l.foldl (surfaceSymbol p) s).arbiter = s.arbiter ∧ (l.foldl (surfaceSymbol p) s).pass = s.pass ∧ (l.foldl (surfaceSymbol p) s).writer = s.writer ∧
    (l.foldl (surfaceSymbol p) s).store = s.store ∧ (l.foldl (surfaceSymbol p) s).memory = s.memory ∧ (l.foldl (surfaceSymbol p) s).port = s.port ∧
    (l.foldl (surfaceSymbol p) s).cursors = s.cursors ∧ (l.foldl (surfaceSymbol p) s).engine = s.engine ∧ (l.foldl (surfaceSymbol p) s).editor = s.editor ∧
    (l.foldl (surfaceSymbol p) s).freeDraws = s.freeDraws := by
  induction l generalizing s with
  | nil => simp
  | cons y l ih => simp [ih]

@[simp] theorem popSurface_frame (s : State) (p : SurfaceId) :
    (s.popSurface p).pending = s.pending ∧ (s.popSurface p).now = s.now ∧ (s.popSurface p).tracker = s.tracker ∧
    (s.popSurface p).arbiter = s.arbiter ∧ (s.popSurface p).pass = s.pass ∧ (s.popSurface p).writer = s.writer ∧
    (s.popSurface p).store = s.store ∧ (s.popSurface p).memory = s.memory ∧ (s.popSurface p).port = s.port ∧
    (s.popSurface p).cursors = s.cursors ∧ (s.popSurface p).engine = s.engine ∧ (s.popSurface p).editor = s.editor ∧
    (s.popSurface p).freeDraws = s.freeDraws := by
  unfold popSurface
  simp

@[simp] theorem refuseTake_frame (s : State) (p : SurfaceId) (m : SeatMessage) (r : RefusalReason) (c : Option Byte) :
    (s.refuseTake p m r c).pending = s.pending ∧ (s.refuseTake p m r c).now = s.now ∧ (s.refuseTake p m r c).tracker = s.tracker ∧
    (s.refuseTake p m r c).arbiter = s.arbiter ∧ (s.refuseTake p m r c).pass = s.pass ∧ (s.refuseTake p m r c).writer = s.writer ∧
    (s.refuseTake p m r c).store = s.store ∧ (s.refuseTake p m r c).memory = s.memory ∧ (s.refuseTake p m r c).port = s.port ∧
    (s.refuseTake p m r c).cursors = s.cursors ∧ (s.refuseTake p m r c).engine = s.engine ∧ (s.refuseTake p m r c).editor = s.editor ∧
    (s.refuseTake p m r c).freeDraws = s.freeDraws := by
  unfold refuseTake
  simp

@[simp] theorem countHeld_frame (s : State) (i : SeatId) (f : Nat → Nat) :
    (s.countHeld i f).pending = s.pending ∧ (s.countHeld i f).now = s.now ∧ (s.countHeld i f).tracker = s.tracker ∧
    (s.countHeld i f).pass = s.pass ∧ (s.countHeld i f).writer = s.writer ∧ (s.countHeld i f).store = s.store ∧
    (s.countHeld i f).memory = s.memory ∧ (s.countHeld i f).port = s.port ∧ (s.countHeld i f).cursors = s.cursors ∧
    (s.countHeld i f).engine = s.engine ∧ (s.countHeld i f).surface = s.surface ∧ (s.countHeld i f).editor = s.editor ∧
    (s.countHeld i f).freeDraws = s.freeDraws := by
  unfold countHeld
  simp

@[simp] theorem grantTouch_frame (s : State) (i : SeatId) (c : ControlId) :
    (s.grantTouch i c).pending = s.pending ∧ (s.grantTouch i c).now = s.now ∧ (s.grantTouch i c).tracker = s.tracker ∧
    (s.grantTouch i c).pass = s.pass ∧ (s.grantTouch i c).writer = s.writer ∧ (s.grantTouch i c).store = s.store ∧
    (s.grantTouch i c).memory = s.memory ∧ (s.grantTouch i c).port = s.port ∧ (s.grantTouch i c).cursors = s.cursors ∧
    (s.grantTouch i c).engine = s.engine ∧ (s.grantTouch i c).surface = s.surface ∧ (s.grantTouch i c).editor = s.editor ∧
    (s.grantTouch i c).freeDraws = s.freeDraws := by
  unfold grantTouch
  simp

@[simp] theorem takeOver_frame (s : State) (i : SeatId) (c : ControlId) (r : Touch) :
    (s.takeOver i c r).pending = s.pending ∧ (s.takeOver i c r).now = s.now ∧ (s.takeOver i c r).tracker = s.tracker ∧
    (s.takeOver i c r).pass = s.pass ∧ (s.takeOver i c r).writer = s.writer ∧ (s.takeOver i c r).store = s.store ∧
    (s.takeOver i c r).memory = s.memory ∧ (s.takeOver i c r).port = s.port ∧ (s.takeOver i c r).cursors = s.cursors ∧
    (s.takeOver i c r).engine = s.engine ∧ (s.takeOver i c r).editor = s.editor ∧ (s.takeOver i c r).freeDraws = s.freeDraws := by
  unfold takeOver
  simp

@[simp] theorem queryControl_frame (p : SurfaceId) (m : SeatMessage) (s : State) (i : SeatId) (c : ControlId) :
    (queryControl p m s i c).pending = s.pending ∧ (queryControl p m s i c).now = s.now ∧ (queryControl p m s i c).tracker = s.tracker ∧
    (queryControl p m s i c).arbiter = s.arbiter ∧ (queryControl p m s i c).pass = s.pass ∧ (queryControl p m s i c).writer = s.writer ∧
    (queryControl p m s i c).store = s.store ∧ (queryControl p m s i c).memory = s.memory ∧ (queryControl p m s i c).port = s.port ∧
    (queryControl p m s i c).cursors = s.cursors ∧ (queryControl p m s i c).engine = s.engine ∧ (queryControl p m s i c).editor = s.editor ∧
    (queryControl p m s i c).freeDraws = s.freeDraws := by
  unfold queryControl
  simp

@[simp] theorem touchControl_frame (p : SurfaceId) (m : SeatMessage) (s : State) (i : SeatId) (c : ControlId) :
    (touchControl p m s i c).pending = s.pending ∧ (touchControl p m s i c).now = s.now ∧ (touchControl p m s i c).tracker = s.tracker ∧
    (touchControl p m s i c).pass = s.pass ∧ (touchControl p m s i c).writer = s.writer ∧ (touchControl p m s i c).store = s.store ∧
    (touchControl p m s i c).memory = s.memory ∧ (touchControl p m s i c).port = s.port ∧ (touchControl p m s i c).cursors = s.cursors ∧
    (touchControl p m s i c).engine = s.engine ∧ (touchControl p m s i c).editor = s.editor ∧ (touchControl p m s i c).freeDraws = s.freeDraws := by
  unfold touchControl
  repeat' split
  all_goals simp

@[simp] theorem releaseControl_frame (p : SurfaceId) (m : SeatMessage) (s : State) (i : SeatId) (c : ControlId) :
    (releaseControl p m s i c).pending = s.pending ∧ (releaseControl p m s i c).now = s.now ∧ (releaseControl p m s i c).tracker = s.tracker ∧
    (releaseControl p m s i c).pass = s.pass ∧ (releaseControl p m s i c).writer = s.writer ∧ (releaseControl p m s i c).store = s.store ∧
    (releaseControl p m s i c).memory = s.memory ∧ (releaseControl p m s i c).port = s.port ∧ (releaseControl p m s i c).cursors = s.cursors ∧
    (releaseControl p m s i c).engine = s.engine ∧ (releaseControl p m s i c).editor = s.editor ∧ (releaseControl p m s i c).freeDraws = s.freeDraws := by
  unfold releaseControl
  repeat' split
  all_goals simp

@[simp] theorem moveControl_frame (p : SurfaceId) (m : SeatMessage) (l : Int) (s : State) (i : SeatId) (c : ControlId) :
    (moveControl p m l s i c).pending = s.pending ∧ (moveControl p m l s i c).now = s.now ∧ (moveControl p m l s i c).tracker = s.tracker ∧
    (moveControl p m l s i c).pass = s.pass ∧ (moveControl p m l s i c).writer = s.writer ∧ (moveControl p m l s i c).store = s.store ∧
    (moveControl p m l s i c).memory = s.memory ∧ (moveControl p m l s i c).port = s.port ∧ (moveControl p m l s i c).cursors = s.cursors ∧
    (moveControl p m l s i c).engine = s.engine ∧ (moveControl p m l s i c).editor = s.editor ∧ (moveControl p m l s i c).freeDraws = s.freeDraws := by
  unfold moveControl
  repeat' split
  all_goals simp

@[simp] theorem modeControl_frame (p : SurfaceId) (m : SeatMessage) (k : Byte) (s : State) (i : SeatId) (c : ControlId) :
    (modeControl p m k s i c).pending = s.pending ∧ (modeControl p m k s i c).now = s.now ∧ (modeControl p m k s i c).tracker = s.tracker ∧
    (modeControl p m k s i c).arbiter = s.arbiter ∧ (modeControl p m k s i c).writer = s.writer ∧ (modeControl p m k s i c).store = s.store ∧
    (modeControl p m k s i c).memory = s.memory ∧ (modeControl p m k s i c).port = s.port ∧ (modeControl p m k s i c).cursors = s.cursors ∧
    (modeControl p m k s i c).engine = s.engine ∧ (modeControl p m k s i c).editor = s.editor ∧ (modeControl p m k s i c).freeDraws = s.freeDraws := by
  unfold modeControl
  repeat' split
  all_goals simp

theorem takeFader_frame (s : State) (p : SurfaceId) (m : SeatMessage) (f : Nat)
    (effect : State → SeatId → ControlId → State)
    (h : ∀ (s : State) (i : SeatId) (c : ControlId), (effect s i c).pending = s.pending ∧ (effect s i c).now = s.now ∧ (effect s i c).tracker = s.tracker ∧
    (effect s i c).writer = s.writer ∧ (effect s i c).store = s.store ∧ (effect s i c).memory = s.memory ∧
    (effect s i c).port = s.port ∧ (effect s i c).cursors = s.cursors ∧ (effect s i c).engine = s.engine ∧
    (effect s i c).editor = s.editor ∧ (effect s i c).freeDraws = s.freeDraws) :
    (s.takeFader p m f effect).pending = s.pending ∧ (s.takeFader p m f effect).now = s.now ∧ (s.takeFader p m f effect).tracker = s.tracker ∧
    (s.takeFader p m f effect).writer = s.writer ∧ (s.takeFader p m f effect).store = s.store ∧ (s.takeFader p m f effect).memory = s.memory ∧
    (s.takeFader p m f effect).port = s.port ∧ (s.takeFader p m f effect).cursors = s.cursors ∧ (s.takeFader p m f effect).engine = s.engine ∧
    (s.takeFader p m f effect).editor = s.editor ∧ (s.takeFader p m f effect).freeDraws = s.freeDraws := by
  unfold takeFader
  simp only
  repeat' split
  all_goals simp [h]

@[simp] theorem takeBank_frame (s : State) (p : SurfaceId) (m : SeatMessage) (n : Nat) :
    (s.takeBank p m n).pending = s.pending ∧ (s.takeBank p m n).now = s.now ∧ (s.takeBank p m n).tracker = s.tracker ∧
    (s.takeBank p m n).pass = s.pass ∧ (s.takeBank p m n).writer = s.writer ∧ (s.takeBank p m n).store = s.store ∧
    (s.takeBank p m n).memory = s.memory ∧ (s.takeBank p m n).port = s.port ∧ (s.takeBank p m n).cursors = s.cursors ∧
    (s.takeBank p m n).engine = s.engine ∧ (s.takeBank p m n).editor = s.editor ∧ (s.takeBank p m n).freeDraws = s.freeDraws := by
  unfold takeBank
  dsimp only
  repeat' split
  all_goals simp

/-! ## Editor -/

@[simp] theorem refuseEditorReception_frame (s : State) (k : Byte) (r : RefusalReason) :
    (s.refuseEditorReception k r).pending = s.pending ∧ (s.refuseEditorReception k r).now = s.now ∧ (s.refuseEditorReception k r).tracker = s.tracker ∧
    (s.refuseEditorReception k r).arbiter = s.arbiter ∧ (s.refuseEditorReception k r).pass = s.pass ∧ (s.refuseEditorReception k r).writer = s.writer ∧
    (s.refuseEditorReception k r).store = s.store ∧ (s.refuseEditorReception k r).memory = s.memory ∧ (s.refuseEditorReception k r).port = s.port ∧
    (s.refuseEditorReception k r).cursors = s.cursors ∧ (s.refuseEditorReception k r).engine = s.engine ∧ (s.refuseEditorReception k r).surface = s.surface ∧
    (s.refuseEditorReception k r).freeDraws = s.freeDraws := by
  unfold refuseEditorReception
  repeat' split
  all_goals simp

@[simp] theorem examineEditor_frame (s : State) (f : LinkFrame) :
    (s.examineEditor f).pending = s.pending ∧ (s.examineEditor f).now = s.now ∧ (s.examineEditor f).tracker = s.tracker ∧
    (s.examineEditor f).arbiter = s.arbiter ∧ (s.examineEditor f).pass = s.pass ∧ (s.examineEditor f).writer = s.writer ∧
    (s.examineEditor f).store = s.store ∧ (s.examineEditor f).memory = s.memory ∧ (s.examineEditor f).port = s.port ∧
    (s.examineEditor f).cursors = s.cursors ∧ (s.examineEditor f).engine = s.engine ∧ (s.examineEditor f).surface = s.surface ∧
    (s.examineEditor f).freeDraws = s.freeDraws := by
  unfold examineEditor
  repeat' split
  all_goals simp

@[simp] theorem editorPresent_frame (s : State) :
    (s.editorPresent).pending = s.pending ∧ (s.editorPresent).now = s.now ∧ (s.editorPresent).tracker = s.tracker ∧
    (s.editorPresent).arbiter = s.arbiter ∧ (s.editorPresent).pass = s.pass ∧ (s.editorPresent).writer = s.writer ∧
    (s.editorPresent).store = s.store ∧ (s.editorPresent).memory = s.memory ∧ (s.editorPresent).port = s.port ∧
    (s.editorPresent).cursors = s.cursors ∧ (s.editorPresent).engine = s.engine ∧ (s.editorPresent).surface = s.surface ∧
    (s.editorPresent).freeDraws = s.freeDraws := by
  unfold editorPresent
  repeat' split
  all_goals simp

@[simp] theorem editorFrame_frame (s : State) (bs : List Byte) :
    (s.editorFrame bs).pending = s.pending ∧ (s.editorFrame bs).now = s.now ∧ (s.editorFrame bs).tracker = s.tracker ∧
    (s.editorFrame bs).arbiter = s.arbiter ∧ (s.editorFrame bs).pass = s.pass ∧ (s.editorFrame bs).writer = s.writer ∧
    (s.editorFrame bs).store = s.store ∧ (s.editorFrame bs).memory = s.memory ∧ (s.editorFrame bs).port = s.port ∧
    (s.editorFrame bs).cursors = s.cursors ∧ (s.editorFrame bs).engine = s.engine ∧ (s.editorFrame bs).surface = s.surface ∧
    (s.editorFrame bs).freeDraws = s.freeDraws := by
  unfold editorFrame
  repeat' split
  all_goals simp

@[simp] theorem setEditorReceiving_frame (s : State) (x : Option (List Byte)) :
    (s.setEditorReceiving x).pending = s.pending ∧ (s.setEditorReceiving x).now = s.now ∧ (s.setEditorReceiving x).tracker = s.tracker ∧
    (s.setEditorReceiving x).arbiter = s.arbiter ∧ (s.setEditorReceiving x).pass = s.pass ∧ (s.setEditorReceiving x).writer = s.writer ∧
    (s.setEditorReceiving x).store = s.store ∧ (s.setEditorReceiving x).memory = s.memory ∧ (s.setEditorReceiving x).port = s.port ∧
    (s.setEditorReceiving x).cursors = s.cursors ∧ (s.setEditorReceiving x).engine = s.engine ∧ (s.setEditorReceiving x).surface = s.surface ∧
    (s.setEditorReceiving x).freeDraws = s.freeDraws := by
  unfold setEditorReceiving
  simp

@[simp] theorem editorSymbol_frame (s : State) (y : LineSymbol) :
    (s.editorSymbol y).pending = s.pending ∧ (s.editorSymbol y).now = s.now ∧ (s.editorSymbol y).tracker = s.tracker ∧
    (s.editorSymbol y).arbiter = s.arbiter ∧ (s.editorSymbol y).pass = s.pass ∧ (s.editorSymbol y).writer = s.writer ∧
    (s.editorSymbol y).store = s.store ∧ (s.editorSymbol y).memory = s.memory ∧ (s.editorSymbol y).port = s.port ∧
    (s.editorSymbol y).cursors = s.cursors ∧ (s.editorSymbol y).engine = s.engine ∧ (s.editorSymbol y).surface = s.surface ∧
    (s.editorSymbol y).freeDraws = s.freeDraws := by
  unfold editorSymbol
  repeat' split
  all_goals simp

@[simp] theorem editorSymbols_frame (l : List LineSymbol) (s : State) :
    (l.foldl editorSymbol s).pending = s.pending ∧ (l.foldl editorSymbol s).now = s.now ∧ (l.foldl editorSymbol s).tracker = s.tracker ∧
    (l.foldl editorSymbol s).arbiter = s.arbiter ∧ (l.foldl editorSymbol s).pass = s.pass ∧ (l.foldl editorSymbol s).writer = s.writer ∧
    (l.foldl editorSymbol s).store = s.store ∧ (l.foldl editorSymbol s).memory = s.memory ∧ (l.foldl editorSymbol s).port = s.port ∧
    (l.foldl editorSymbol s).cursors = s.cursors ∧ (l.foldl editorSymbol s).engine = s.engine ∧ (l.foldl editorSymbol s).surface = s.surface ∧
    (l.foldl editorSymbol s).freeDraws = s.freeDraws := by
  induction l generalizing s with
  | nil => simp
  | cons y l ih => simp [ih]

@[simp] theorem editorDown_frame (s : State) :
    (s.editorDown).pending = s.pending ∧ (s.editorDown).now = s.now ∧ (s.editorDown).tracker = s.tracker ∧
    (s.editorDown).arbiter = s.arbiter ∧ (s.editorDown).pass = s.pass ∧ (s.editorDown).writer = s.writer ∧
    (s.editorDown).memory = s.memory ∧ (s.editorDown).cursors = s.cursors ∧ (s.editorDown).engine = s.engine ∧
    (s.editorDown).surface = s.surface ∧ (s.editorDown).freeDraws = s.freeDraws := by
  unfold editorDown
  simp

@[simp] theorem popEditor_frame (s : State) :
    (s.popEditor).pending = s.pending ∧ (s.popEditor).now = s.now ∧ (s.popEditor).tracker = s.tracker ∧
    (s.popEditor).arbiter = s.arbiter ∧ (s.popEditor).pass = s.pass ∧ (s.popEditor).writer = s.writer ∧
    (s.popEditor).store = s.store ∧ (s.popEditor).memory = s.memory ∧ (s.popEditor).port = s.port ∧
    (s.popEditor).cursors = s.cursors ∧ (s.popEditor).engine = s.engine ∧ (s.popEditor).surface = s.surface ∧
    (s.popEditor).freeDraws = s.freeDraws := by
  unfold popEditor
  simp

@[simp] theorem postDone_frame (s : State) (k : Byte) :
    (s.postDone k).pending = s.pending ∧ (s.postDone k).now = s.now ∧ (s.postDone k).tracker = s.tracker ∧
    (s.postDone k).arbiter = s.arbiter ∧ (s.postDone k).pass = s.pass ∧ (s.postDone k).writer = s.writer ∧
    (s.postDone k).store = s.store ∧ (s.postDone k).memory = s.memory ∧ (s.postDone k).port = s.port ∧
    (s.postDone k).cursors = s.cursors ∧ (s.postDone k).engine = s.engine ∧ (s.postDone k).surface = s.surface ∧
    (s.postDone k).freeDraws = s.freeDraws := by
  unfold postDone
  simp

@[simp] theorem configure_frame (s : State) (c : ControlId) (x : ControlConfig) :
    (s.configure c x).pending = s.pending ∧ (s.configure c x).now = s.now ∧ (s.configure c x).tracker = s.tracker ∧
    (s.configure c x).arbiter = s.arbiter ∧ (s.configure c x).memory = s.memory ∧ (s.configure c x).cursors = s.cursors ∧
    (s.configure c x).engine = s.engine ∧ (s.configure c x).surface = s.surface ∧ (s.configure c x).freeDraws = s.freeDraws := by
  unfold configure
  dsimp only
  repeat' split
  all_goals simp

@[simp] theorem takeSetControl_frame (s : State) (f : SetControlFields) :
    (s.takeSetControl f).pending = s.pending ∧ (s.takeSetControl f).now = s.now ∧ (s.takeSetControl f).tracker = s.tracker ∧
    (s.takeSetControl f).arbiter = s.arbiter ∧ (s.takeSetControl f).memory = s.memory ∧ (s.takeSetControl f).cursors = s.cursors ∧
    (s.takeSetControl f).engine = s.engine ∧ (s.takeSetControl f).freeDraws = s.freeDraws := by
  unfold takeSetControl
  repeat' split
  all_goals simp

@[simp] theorem changeSafe_frame (s : State) (i : StemId) (b : Bool) :
    (s.changeSafe i b).pending = s.pending ∧ (s.changeSafe i b).now = s.now ∧ (s.changeSafe i b).tracker = s.tracker ∧
    (s.changeSafe i b).arbiter = s.arbiter ∧ (s.changeSafe i b).memory = s.memory ∧ (s.changeSafe i b).cursors = s.cursors ∧
    (s.changeSafe i b).engine = s.engine ∧ (s.changeSafe i b).surface = s.surface ∧ (s.changeSafe i b).freeDraws = s.freeDraws := by
  unfold changeSafe
  repeat' split
  all_goals simp

@[simp] theorem takeSetStem_frame (s : State) (a b : Byte) :
    (s.takeSetStem a b).pending = s.pending ∧ (s.takeSetStem a b).now = s.now ∧ (s.takeSetStem a b).tracker = s.tracker ∧
    (s.takeSetStem a b).arbiter = s.arbiter ∧ (s.takeSetStem a b).memory = s.memory ∧ (s.takeSetStem a b).cursors = s.cursors ∧
    (s.takeSetStem a b).engine = s.engine ∧ (s.takeSetStem a b).freeDraws = s.freeDraws := by
  unfold takeSetStem
  repeat' split
  all_goals simp

@[simp] theorem adjustAll_frame (s : State) (b : State) :
    (s.adjustAll b).pending = s.pending ∧ (s.adjustAll b).now = s.now ∧ (s.adjustAll b).tracker = s.tracker ∧
    (s.adjustAll b).arbiter = s.arbiter ∧ (s.adjustAll b).pass = s.pass ∧ (s.adjustAll b).writer = s.writer ∧
    (s.adjustAll b).store = s.store ∧ (s.adjustAll b).memory = s.memory ∧ (s.adjustAll b).port = s.port ∧
    (s.adjustAll b).cursors = s.cursors ∧ (s.adjustAll b).engine = s.engine ∧ (s.adjustAll b).editor = s.editor ∧
    (s.adjustAll b).freeDraws = s.freeDraws := by
  unfold adjustAll
  simp

@[simp] theorem remapSeat_frame (s : State) (i : SeatId) (l : Option SurfaceId) (r : Nat) :
    (s.remapSeat i l r).pending = s.pending ∧ (s.remapSeat i l r).now = s.now ∧ (s.remapSeat i l r).tracker = s.tracker ∧
    (s.remapSeat i l r).pass = s.pass ∧ (s.remapSeat i l r).writer = s.writer ∧ (s.remapSeat i l r).store = s.store ∧
    (s.remapSeat i l r).memory = s.memory ∧ (s.remapSeat i l r).port = s.port ∧ (s.remapSeat i l r).cursors = s.cursors ∧
    (s.remapSeat i l r).engine = s.engine ∧ (s.remapSeat i l r).editor = s.editor ∧ (s.remapSeat i l r).freeDraws = s.freeDraws := by
  unfold remapSeat
  repeat' split
  all_goals simp

@[simp] theorem takeSetSeat_frame (s : State) (a b c : Byte) :
    (s.takeSetSeat a b c).pending = s.pending ∧ (s.takeSetSeat a b c).now = s.now ∧ (s.takeSetSeat a b c).tracker = s.tracker ∧
    (s.takeSetSeat a b c).pass = s.pass ∧ (s.takeSetSeat a b c).writer = s.writer ∧ (s.takeSetSeat a b c).store = s.store ∧
    (s.takeSetSeat a b c).memory = s.memory ∧ (s.takeSetSeat a b c).port = s.port ∧ (s.takeSetSeat a b c).cursors = s.cursors ∧
    (s.takeSetSeat a b c).engine = s.engine ∧ (s.takeSetSeat a b c).freeDraws = s.freeDraws := by
  unfold takeSetSeat
  repeat' split
  all_goals simp

@[simp] theorem takeSetHub_frame (s : State) (a b c : Byte) (n : Nat) :
    (s.takeSetHub a b c n).pending = s.pending ∧ (s.takeSetHub a b c n).now = s.now ∧ (s.takeSetHub a b c n).pass = s.pass ∧
    (s.takeSetHub a b c n).writer = s.writer ∧ (s.takeSetHub a b c n).store = s.store ∧ (s.takeSetHub a b c n).memory = s.memory ∧
    (s.takeSetHub a b c n).port = s.port ∧ (s.takeSetHub a b c n).cursors = s.cursors ∧ (s.takeSetHub a b c n).engine = s.engine ∧
    (s.takeSetHub a b c n).surface = s.surface ∧ (s.takeSetHub a b c n).freeDraws = s.freeDraws := by
  unfold takeSetHub
  repeat' split
  all_goals simp

@[simp] theorem takeListBegin_frame (s : State) (a : Byte) (n : Nat) :
    (s.takeListBegin a n).pending = s.pending ∧ (s.takeListBegin a n).now = s.now ∧ (s.takeListBegin a n).tracker = s.tracker ∧
    (s.takeListBegin a n).arbiter = s.arbiter ∧ (s.takeListBegin a n).pass = s.pass ∧ (s.takeListBegin a n).writer = s.writer ∧
    (s.takeListBegin a n).memory = s.memory ∧ (s.takeListBegin a n).port = s.port ∧ (s.takeListBegin a n).cursors = s.cursors ∧
    (s.takeListBegin a n).engine = s.engine ∧ (s.takeListBegin a n).surface = s.surface ∧ (s.takeListBegin a n).freeDraws = s.freeDraws := by
  unfold takeListBegin
  repeat' split
  all_goals simp

@[simp] theorem giveLoadRecord_frame (s : State) (l : Load) (r : LoadRecord) :
    (s.giveLoadRecord l r).pending = s.pending ∧ (s.giveLoadRecord l r).now = s.now ∧ (s.giveLoadRecord l r).tracker = s.tracker ∧
    (s.giveLoadRecord l r).arbiter = s.arbiter ∧ (s.giveLoadRecord l r).pass = s.pass ∧ (s.giveLoadRecord l r).writer = s.writer ∧
    (s.giveLoadRecord l r).memory = s.memory ∧ (s.giveLoadRecord l r).cursors = s.cursors ∧ (s.giveLoadRecord l r).engine = s.engine ∧
    (s.giveLoadRecord l r).surface = s.surface ∧ (s.giveLoadRecord l r).freeDraws = s.freeDraws := by
  unfold giveLoadRecord
  split
  · split
    · next slot s1 h => simp [takeSlot_frame h]
    · simp
  · simp

@[simp] theorem takeListRecord_frame (s : State) (r : LoadRecord) :
    (s.takeListRecord r).pending = s.pending ∧ (s.takeListRecord r).now = s.now ∧ (s.takeListRecord r).tracker = s.tracker ∧
    (s.takeListRecord r).arbiter = s.arbiter ∧ (s.takeListRecord r).memory = s.memory ∧ (s.takeListRecord r).cursors = s.cursors ∧
    (s.takeListRecord r).engine = s.engine ∧ (s.takeListRecord r).freeDraws = s.freeDraws := by
  unfold takeListRecord
  repeat' split
  all_goals simp

@[simp] theorem postLoadTail_frame (s : State) (l : Load) :
    (s.postLoadTail l).pending = s.pending ∧ (s.postLoadTail l).now = s.now ∧ (s.postLoadTail l).tracker = s.tracker ∧
    (s.postLoadTail l).arbiter = s.arbiter ∧ (s.postLoadTail l).pass = s.pass ∧ (s.postLoadTail l).writer = s.writer ∧
    (s.postLoadTail l).store = s.store ∧ (s.postLoadTail l).memory = s.memory ∧ (s.postLoadTail l).cursors = s.cursors ∧
    (s.postLoadTail l).engine = s.engine ∧ (s.postLoadTail l).surface = s.surface ∧ (s.postLoadTail l).editor = s.editor ∧
    (s.postLoadTail l).freeDraws = s.freeDraws := by
  unfold postLoadTail
  repeat' split
  all_goals simp

@[simp] theorem takeListEnd_frame (s : State) :
    (s.takeListEnd).pending = s.pending ∧ (s.takeListEnd).now = s.now ∧ (s.takeListEnd).tracker = s.tracker ∧
    (s.takeListEnd).arbiter = s.arbiter ∧ (s.takeListEnd).pass = s.pass ∧ (s.takeListEnd).writer = s.writer ∧
    (s.takeListEnd).memory = s.memory ∧ (s.takeListEnd).cursors = s.cursors ∧ (s.takeListEnd).engine = s.engine ∧
    (s.takeListEnd).surface = s.surface ∧ (s.takeListEnd).freeDraws = s.freeDraws := by
  unfold takeListEnd
  repeat' split
  all_goals simp

@[simp] theorem beginRead_frame (s : State) (r : ListRead) :
    (s.beginRead r).pending = s.pending ∧ (s.beginRead r).now = s.now ∧ (s.beginRead r).tracker = s.tracker ∧
    (s.beginRead r).arbiter = s.arbiter ∧ (s.beginRead r).pass = s.pass ∧ (s.beginRead r).writer = s.writer ∧
    (s.beginRead r).store = s.store ∧ (s.beginRead r).memory = s.memory ∧ (s.beginRead r).port = s.port ∧
    (s.beginRead r).cursors = s.cursors ∧ (s.beginRead r).engine = s.engine ∧ (s.beginRead r).surface = s.surface ∧
    (s.beginRead r).freeDraws = s.freeDraws := by
  unfold beginRead
  repeat' split
  all_goals simp

@[simp] theorem takeReadList_frame (s : State) (a : Byte) (f g : Frame) :
    (s.takeReadList a f g).pending = s.pending ∧ (s.takeReadList a f g).now = s.now ∧ (s.takeReadList a f g).tracker = s.tracker ∧
    (s.takeReadList a f g).arbiter = s.arbiter ∧ (s.takeReadList a f g).pass = s.pass ∧ (s.takeReadList a f g).writer = s.writer ∧
    (s.takeReadList a f g).store = s.store ∧ (s.takeReadList a f g).memory = s.memory ∧ (s.takeReadList a f g).port = s.port ∧
    (s.takeReadList a f g).cursors = s.cursors ∧ (s.takeReadList a f g).engine = s.engine ∧ (s.takeReadList a f g).surface = s.surface ∧
    (s.takeReadList a f g).freeDraws = s.freeDraws := by
  unfold takeReadList
  repeat' split
  all_goals simp

@[simp] theorem beginClear_frame (s : State) (c : ControlId) :
    (s.beginClear c).pending = s.pending ∧ (s.beginClear c).now = s.now ∧ (s.beginClear c).tracker = s.tracker ∧
    (s.beginClear c).arbiter = s.arbiter ∧ (s.beginClear c).pass = s.pass ∧ (s.beginClear c).writer = s.writer ∧
    (s.beginClear c).memory = s.memory ∧ (s.beginClear c).engine = s.engine ∧ (s.beginClear c).surface = s.surface := by
  unfold beginClear
  repeat' split
  all_goals simp

@[simp] theorem takeClearList_frame (s : State) (a : Byte) :
    (s.takeClearList a).pending = s.pending ∧ (s.takeClearList a).now = s.now ∧ (s.takeClearList a).tracker = s.tracker ∧
    (s.takeClearList a).arbiter = s.arbiter ∧ (s.takeClearList a).pass = s.pass ∧ (s.takeClearList a).writer = s.writer ∧
    (s.takeClearList a).memory = s.memory ∧ (s.takeClearList a).engine = s.engine ∧ (s.takeClearList a).surface = s.surface := by
  unfold takeClearList
  repeat' split
  all_goals simp

@[simp] theorem removeAllTouches_frame (s : State) :
    (s.removeAllTouches).pending = s.pending ∧ (s.removeAllTouches).now = s.now ∧ (s.removeAllTouches).tracker = s.tracker ∧
    (s.removeAllTouches).pass = s.pass ∧ (s.removeAllTouches).writer = s.writer ∧ (s.removeAllTouches).store = s.store ∧
    (s.removeAllTouches).memory = s.memory ∧ (s.removeAllTouches).port = s.port ∧ (s.removeAllTouches).cursors = s.cursors ∧
    (s.removeAllTouches).engine = s.engine ∧ (s.removeAllTouches).surface = s.surface ∧ (s.removeAllTouches).editor = s.editor ∧
    (s.removeAllTouches).freeDraws = s.freeDraws := by
  unfold removeAllTouches
  simp

@[simp] theorem abandonPass_frame (s : State) :
    (s.abandonPass).pending = s.pending ∧ (s.abandonPass).now = s.now ∧ (s.abandonPass).arbiter = s.arbiter ∧
    (s.abandonPass).store = s.store ∧ (s.abandonPass).memory = s.memory ∧ (s.abandonPass).port = s.port ∧
    (s.abandonPass).cursors = s.cursors ∧ (s.abandonPass).surface = s.surface ∧ (s.abandonPass).editor = s.editor ∧
    (s.abandonPass).freeDraws = s.freeDraws := by
  unfold abandonPass
  simp

@[simp] theorem resetRecords_frame (s : State) :
    (s.resetRecords).pending = s.pending ∧ (s.resetRecords).now = s.now ∧ (s.resetRecords).tracker = s.tracker ∧
    (s.resetRecords).arbiter = s.arbiter ∧ (s.resetRecords).writer = s.writer ∧ (s.resetRecords).store = s.store ∧
    (s.resetRecords).memory = s.memory ∧ (s.resetRecords).port = s.port ∧ (s.resetRecords).cursors = s.cursors ∧
    (s.resetRecords).engine = s.engine ∧ (s.resetRecords).surface = s.surface ∧ (s.resetRecords).editor = s.editor ∧
    (s.resetRecords).freeDraws = s.freeDraws := by
  unfold resetRecords
  simp

@[simp] theorem takeMixReset_frame (s : State) :
    (s.takeMixReset).pending = s.pending ∧ (s.takeMixReset).now = s.now ∧ (s.takeMixReset).memory = s.memory := by
  unfold takeMixReset
  simp

@[simp] theorem takeLinkReset_frame (s : State) (a : Byte) :
    (s.takeLinkReset a).pending = s.pending ∧ (s.takeLinkReset a).now = s.now ∧ (s.takeLinkReset a).tracker = s.tracker ∧
    (s.takeLinkReset a).pass = s.pass ∧ (s.takeLinkReset a).writer = s.writer ∧ (s.takeLinkReset a).memory = s.memory ∧
    (s.takeLinkReset a).cursors = s.cursors ∧ (s.takeLinkReset a).engine = s.engine ∧ (s.takeLinkReset a).freeDraws = s.freeDraws := by
  unfold takeLinkReset
  repeat' split
  all_goals simp

end Sys2Proof.Machine.State
end

