-- ==== Sys2Proof/Laws/Memory.lean ====
section
/-! SUPPORT. Record memory: what a read gives after a write, and that every write keeps the canonical form. -/

namespace Sys2Proof.Machine.Memory

/-- Addresses strictly rise. -/
def Rising (m : Memory) : Prop := m.Pairwise (fun x y => x.1 < y.1)

theorem wf_iff (m : Memory) :
    wf m = true ↔ Rising m ∧ ∀ x ∈ m, x.1 < 16777216 ∧ x.2 ≠ unlisted x.1 := by
  simp [wf, Rising, List.all_eq_true]

theorem rising_of_wf {m : Memory} (h : wf m = true) : Rising m := ((wf_iff m).1 h).1

theorem rising_cons {k : Nat} {b : Byte} {m : Memory} (h : Rising ((k, b) :: m)) : (∀ x ∈ m, k < x.1) ∧ Rising m := by
  simpa [Rising, List.pairwise_cons] using h

theorem read_below {m : Memory} {a : Nat} (h : ∀ x ∈ m, a < x.1) : read m a = unlisted a := by
  cases m with
  | nil => rfl
  | cons x m =>
    have h1 : a < x.1 := h x (by simp)
    have h2 : x.1 ≠ a := by omega
    simp [read, h1, h2]

theorem mem_write {m : Memory} {a : Nat} {b : Byte} {x : Host.Cell} (h : x ∈ write m a b) :
    x ∈ m ∨ (x = (a, b) ∧ b ≠ unlisted a) := by
  induction m with
  | nil =>
    by_cases hb : b = unlisted a
    · simp [write, hb] at h
    · simp [write, hb] at h
      exact Or.inr ⟨h, hb⟩
  | cons y m ih =>
    obtain ⟨k, v⟩ := y
    unfold write at h
    by_cases h1 : k = a
    · by_cases hb : b = unlisted a
      · simp [h1, hb] at h
        exact Or.inl (List.mem_cons_of_mem _ h)
      · simp [h1, hb] at h
        rcases h with h | h
        · exact Or.inr ⟨h, hb⟩
        · exact Or.inl (List.mem_cons_of_mem _ h)
    · by_cases h2 : a < k
      · by_cases hb : b = unlisted a
        · simp only [h1, h2, hb, if_true, if_false] at h
          exact Or.inl h
        · simp only [h1, h2, hb, if_true, if_false] at h
          rcases List.mem_cons.1 h with h | h
          · exact Or.inr ⟨h, hb⟩
          · exact Or.inl h
      · simp only [h1, h2, if_false] at h
        rcases List.mem_cons.1 h with h | h
        · exact Or.inl (h ▸ List.mem_cons_self ..)
        · rcases ih h with h | h
          · exact Or.inl (List.mem_cons_of_mem _ h)
          · exact Or.inr h

theorem rising_write {m : Memory} (a : Nat) (b : Byte) (h : Rising m) : Rising (write m a b) := by
  induction m with
  | nil => by_cases hb : b = unlisted a <;> simp [write, hb, Rising]
  | cons y m ih =>
    obtain ⟨k, v⟩ := y
    obtain ⟨hk, hm⟩ := rising_cons h
    unfold write
    by_cases h1 : k = a
    · by_cases hb : b = unlisted a
      · simpa [h1, hb] using hm
      · subst h1
        simp only [hb, if_true, if_false]
        exact List.pairwise_cons.2 ⟨hk, hm⟩
    · by_cases h2 : a < k
      · by_cases hb : b = unlisted a
        · simpa [h1, h2, hb] using h
        · simp only [h1, h2, hb, if_true, if_false]
          refine List.pairwise_cons.2 ⟨?_, h⟩
          intro x hx
          rcases List.mem_cons.1 hx with rfl | hx
          · exact h2
          · have := hk x hx
            simp only
            omega
      · simp only [h1, h2, if_false]
        refine List.pairwise_cons.2 ⟨?_, ih hm⟩
        intro x hx
        rcases mem_write hx with hx | ⟨rfl, -⟩
        · exact hk x hx
        · simp only
          omega

/-- A read after a write of one byte. -/
theorem read_write {m : Memory} (h : Rising m) (a x : Nat) (b : Byte) :
    read (write m a b) x = if x = a then b else read m x := by
  induction m with
  | nil =>
    by_cases hb : b = unlisted a
    · by_cases hx : x = a
      · simp [write, hb, read, hx]
      · simp [write, hb, read, hx]
    · by_cases hx : x = a
      · simp [write, hb, read, hx]
      · have hx2 : a ≠ x := fun e => hx e.symm
        simp [write, hb, read, hx, hx2]
  | cons y m ih =>
    obtain ⟨k, v⟩ := y
    obtain ⟨hk, hm⟩ := rising_cons h
    unfold write
    by_cases h1 : k = a
    · subst h1
      by_cases hb : b = unlisted k
      · simp only [hb, if_true]
        by_cases hx : x = k
        · subst hx
          simp [read_below hk]
        · have hx2 : k ≠ x := fun e => hx e.symm
          simp only [hx, if_false]
          by_cases h3 : x < k
          · have h4 : ∀ z ∈ m, x < z.1 := fun z hz => lt_trans h3 (hk z hz)
            simp [read, hx2, h3, read_below h4]
          · simp [read, hx2, h3]
      · simp only [hb, if_true, if_false]
        by_cases hx : x = k
        · simp [read, hx]
        · have hx2 : k ≠ x := fun e => hx e.symm
          simp [read, hx, hx2]
    · by_cases h2 : a < k
      · by_cases hb : b = unlisted a
        · simp only [h1, h2, hb, if_true, if_false]
          by_cases hx : x = a
          · subst hx
            simp [read, h1, h2]
          · simp [hx]
        · simp only [h1, h2, hb, if_true, if_false]
          by_cases hx : x = a
          · simp [read, hx]
          · have hx2 : a ≠ x := fun e => hx e.symm
            by_cases h3 : x < a
            · have h4 : k ≠ x := by omega
              have h5 : x < k := by omega
              simp [read, hx, hx2, h3, h4, h5]
            · simp [read, hx, hx2, h3]
      · simp only [h1, h2, if_false]
        by_cases hkx : k = x
        · subst hkx
          simp [read, h1]
        · by_cases h3 : x < k
          · have h4 : x ≠ a := by omega
            simp [read, hkx, h3, h4]
          · simp [read, hkx, h3, ih hm]

theorem rising_writeBytes (bs : List Byte) {m : Memory} (a : Nat) (h : Rising m) : Rising (writeBytes m a bs) := by
  induction bs generalizing m a with
  | nil => exact h
  | cons b bs ih => exact ih (a + 1) (rising_write a b h)

/-- A read after a write of bytes at rising addresses. -/
theorem read_writeBytes (bs : List Byte) {m : Memory} (h : Rising m) (a x : Nat) :
    read (writeBytes m a bs) x = if a ≤ x ∧ x < a + bs.length then bs.getD (x - a) 0 else read m x := by
  induction bs generalizing m a with
  | nil =>
    have : ¬ (a ≤ x ∧ x < a) := by omega
    simp [writeBytes, this]
  | cons b bs ih =>
    simp only [writeBytes, ih (rising_write a b h), read_write h, List.length_cons]
    by_cases h1 : a + 1 ≤ x ∧ x < a + 1 + bs.length
    · have h2 : a ≤ x ∧ x < a + (bs.length + 1) := by omega
      have h3 : x - a = (x - (a + 1)) + 1 := by omega
      simp [h1, h2, h3]
    · by_cases hx : x = a
      · subst hx
        simp
      · have h2 : ¬ (a ≤ x ∧ x < a + (bs.length + 1)) := by omega
        rw [if_neg h1, if_neg hx, if_neg h2]

theorem wf_write {m : Memory} {a : Nat} (b : Byte) (ha : a < 16777216) (h : wf m = true) : wf (write m a b) = true := by
  rw [wf_iff] at h ⊢
  refine ⟨rising_write a b h.1, ?_⟩
  intro x hx
  rcases mem_write hx with hx | ⟨rfl, hb⟩
  · exact h.2 x hx
  · exact ⟨ha, hb⟩

theorem wf_writeBytes (bs : List Byte) {m : Memory} {a : Nat} (ha : a + bs.length ≤ 16777216) (h : wf m = true) :
    wf (writeBytes m a bs) = true := by
  induction bs generalizing m a with
  | nil => exact h
  | cons b bs ih =>
    simp only [List.length_cons] at ha
    exact ih (by omega) (wf_write b (by omega) h)

theorem recordBytes_length (r : Record) : (recordBytes r).length = 16 := by
  unfold recordBytes
  split <;> split <;> simp [bytes3, levelBytes, bytes2]

theorem slotAddress_bound (slot : Slot) : slotAddress slot + 16 ≤ 16777216 := by
  have := slot.isLt
  unfold slotAddress
  omega

/-- Every write of a slot keeps the canonical form. -/
theorem wf_writeSlot {m : Memory} (slot : Slot) (r : Record) (h : wf m = true) : wf (writeSlot m slot r) = true := by
  refine wf_writeBytes _ ?_ h
  rw [recordBytes_length]
  exact slotAddress_bound slot

/-- A read after a write of a slot: inside the slot its bytes, outside it what was there. -/
theorem read_writeSlot {m : Memory} (h : Rising m) (slot : Slot) (r : Record) (x : Nat) :
    read (writeSlot m slot r) x =
      if slotAddress slot ≤ x ∧ x < slotAddress slot + 16 then (recordBytes r).getD (x - slotAddress slot) 0
      else read m x := by
  unfold writeSlot
  rw [read_writeBytes _ h, recordBytes_length]

theorem wf_nil : wf [] = true := rfl

end Sys2Proof.Machine.Memory
end

