-- ==== Sys2Proof/Laws/Segments.lean ====
section
/-! SUPPORT. Slots and segments: who may take a slot, what taking one leaves, and what closing a segment does to the segment
table and the splice queue (R94, R97 to R99, R107, R108). -/

namespace Sys2Proof.Machine.State

open Sys2Proof.Safety

/-! ## Slots -/

theorem slotsForPass_of_waiter {s : State} (h : s.closingWaiters ≠ 0) : s.slotsForPass = 0 := by
  simp [slotsForPass, h]

theorem slotsForPass_of_none {s : State} (h : s.closingWaiters = 0) : s.slotsForPass = s.store.freeQueue.length := by
  simp [slotsForPass, h]

theorem slotsForLoad_of_wait {s : State} (h : s.pass.run.wait = some .freeSlot) : s.slotsForLoad = 0 := by
  simp [slotsForLoad, h]

theorem slotsForLoad_of_none {s : State} (h : s.pass.run.wait ≠ some .freeSlot) (w : s.closingWaiters = 0) :
    s.slotsForLoad = s.store.freeQueue.length := by
  simp [slotsForLoad, slotsForPass, h, w]

theorem takeSlot_eq_none_iff {s : State} : s.takeSlot = none ↔ s.store.freeQueue = [] := by
  unfold takeSlot
  split <;> simp_all

/-- What noting a crossing of the low-water mark does: POOL_LOW, and the notice of its rise (R94, R191). -/
theorem notePoolLow_spec (s : State) (n : Nat) :
    let low := s.store.poolLow || (decide (4096 ≤ n) && decide (s.totalFree < 4096))
    s.notePoolLow n = { s with
      store := { s.store with poolLow := low }
      editor := { s.editor with flagNotice :=
        if low = true ∧ s.store.poolLow = false ∧ s.editor.link = .up then some false else s.editor.flagNotice } } := by
  obtain ⟨low, hl⟩ : ∃ low, s.store.poolLow = low := ⟨_, rfl⟩
  have same : s.store = { s.store with poolLow := low } := by rw [← hl]
  unfold notePoolLow raisePoolLow flagRise
  by_cases h : Config.poolLowWater ≤ n ∧ s.totalFree < Config.poolLowWater
  · have h' : (decide (4096 ≤ n) && decide (s.totalFree < 4096)) = true := by simpa using h
    cases low
    · by_cases hu : s.editor.link = .up
      · simp [h, hl, hu]
      · simp [h, hl, hu]
    · rw [if_pos h, if_pos hl]
      simp only [h', hl, Bool.true_or, Bool.true_eq_false, false_and, and_false, if_false]
      rw [← same]
  · have h' : (decide (4096 ≤ n) && decide (s.totalFree < 4096)) = false := by
      have : ¬(4096 ≤ n ∧ s.totalFree < 4096) := h
      simpa using this
    rw [if_neg h]
    cases low <;> simp only [h', hl, Bool.or_false, Bool.true_eq_false, Bool.false_eq_true, false_and, and_false, if_false] <;>
      rw [← same]

/-- What requesting a refill does (R108). -/
theorem requestRefill_spec (s : State) :
    s.requestRefill = { s with store := { s.store with refill :=
      if s.store.storeState = .ready ∧ s.store.freeQueue.length < 64 ∧ 0 < s.store.memoryCount ∧ s.store.refill = .none then
        .requested else s.store.refill } } := by
  unfold requestRefill
  by_cases h : s.store.storeState = .ready ∧ s.store.freeQueue.length < 64 ∧ 0 < s.store.memoryCount ∧ s.store.refill = .none
  · have h' : s.storeReady = true ∧ s.store.freeQueue.length < Config.freeQueueCapacity ∧ 0 < s.store.memoryCount ∧
        s.store.refill = .none := ⟨by simp [storeReady, h.1], h.2⟩
    rw [if_pos h', if_pos h]; rfl
  · have h' : ¬(s.storeReady = true ∧ s.store.freeQueue.length < Config.freeQueueCapacity ∧ 0 < s.store.memoryCount ∧
        s.store.refill = .none) := fun k => h ⟨by simpa [storeReady] using k.1, k.2⟩
    rw [if_neg h', if_neg h]

/-- All that taking a slot leaves: the rest of the queue, the refill it makes room for, and POOL_LOW with its notice. -/
theorem takeSlot_spec {s t : State} {slot : Slot} (h : s.takeSlot = some (slot, t)) :
    ∃ rest, s.store.freeQueue = slot :: rest ∧ SlotsTaken s t rest 1 ∧
      t = { s with
        editor := t.editor
        store := { s.store with freeQueue := rest, poolLow := t.store.poolLow, refill := t.store.refill } } := by
  unfold takeSlot at h
  split at h
  · cases h
  · next head rest hq =>
    simp only [Option.some.injEq, Prod.mk.injEq] at h
    obtain ⟨rfl, rfl⟩ := h
    refine ⟨rest, hq, ?_, ?_⟩ <;> rw [requestRefill_spec, notePoolLow_spec]
    · refine ⟨rfl, rfl, rfl, ?_, rfl⟩
      have total : s.totalFree = rest.length + 1 + s.store.memoryCount := by simp [totalFree, hq]
      have less : (s.setFreeQueue rest).totalFree = rest.length + s.store.memoryCount := by simp [totalFree, setFreeQueue]
      have same : decide ((s.setFreeQueue rest).totalFree < 4096) = decide (s.totalFree < 4096 + 1) :=
        decide_eq_decide.2 (by omega)
      show (_ || (_ && decide ((s.setFreeQueue rest).totalFree < 4096))) = _
      rw [same]; rfl
    · rfl

/-! ## Closing -/

/-- A closed segment stands at the tail of the splice queue, under its own control, and an idle splice waits for it. -/
theorem enqueueClosed_joins (s : State) (g : Segment) (final : Option Frame) :
    ∃ e : ClosedSegment, (s.enqueueClosed g final).store.spliceQueue = s.store.spliceQueue ++ [e] ∧
      e.segment.control = g.control ∧
      (s.enqueueClosed g final).store.splice = (if s.store.splice = .idle then .waiting else s.store.splice) := by
  have without (f : Frame) : ∃ e : ClosedSegment,
      (s.joinWithoutSlot g f).store.spliceQueue = s.store.spliceQueue ++ [e] ∧ e.segment.control = g.control ∧
      (s.joinWithoutSlot g f).store.splice = (if s.store.splice = .idle then .waiting else s.store.splice) :=
    ⟨{ segment := g, closing := if s.totalFree = 0 then .complete else .waitingSlot f }, rfl, rfl, rfl⟩
  unfold enqueueClosed
  split
  · exact ⟨{ segment := g, closing := .complete }, rfl, rfl, rfl⟩
  · next f =>
    split
    · split
      · next slot s1 h =>
        obtain ⟨rest, -, -, ht⟩ := takeSlot_spec h
        refine ⟨{ segment := g.extended f g.lastLevel slot, closing := .writing }, ?_, rfl, ?_⟩
        · rw [ht]; rfl
        · rw [ht]; rfl
      · exact without f
    · exact without f

@[simp] theorem endWait_store (s : State) : s.endWait.store = s.store := by
  unfold endWait
  split <;> rfl

@[simp] theorem endWait_segmentOf (s : State) (c : ControlId) : s.endWait.segmentOf c = s.segmentOf c := by
  unfold endWait
  split <;> rfl

@[simp] theorem enqueueClosed_segmentOf (s : State) (g : Segment) (final : Option Frame) (c : ControlId) :
    (s.enqueueClosed g final).segmentOf c = s.segmentOf c := by
  simp [segmentOf]

/-- A close from outside takes the segment of that control out of the segment table, and no other. -/
theorem closeOutside_segmentOf (s : State) (c d : ControlId) :
    (s.closeOutside c).segmentOf d = if d = c then none else s.segmentOf d := by
  unfold closeOutside
  split
  · next g h =>
    have key : (s.closeSegment c g (s.lastEvaluatedFrame c g)).segmentOf d = if d = c then none else s.segmentOf d := by
      unfold closeSegment
      rw [enqueueClosed_segmentOf]
      by_cases e : d = c
      · subst e; simp
      · simp [e, segmentOf_setSegment_ne _ (Ne.symm e)]
    dsimp only
    split
    · rw [endWait_segmentOf, key]
    · exact key
  · next h =>
    by_cases e : d = c
    · subst e; simp [h]
    · simp [e]

/-- A close from outside puts the control of the segment it closes, if there is one, at the tail of the splice queue. -/
theorem closeOutside_queued (s : State) (c : ControlId) :
    (s.closeOutside c).store.spliceQueue.map (fun e => e.segment.control) =
      s.store.spliceQueue.map (fun e => e.segment.control) ++ ((s.segmentOf c).map Segment.control).toList := by
  unfold closeOutside
  split
  · next g h =>
    have key : (s.closeSegment c g (s.lastEvaluatedFrame c g)).store.spliceQueue.map (fun e => e.segment.control) =
        s.store.spliceQueue.map (fun e => e.segment.control) ++ [g.control] := by
      obtain ⟨e, hq, hc, -⟩ := enqueueClosed_joins (s.setSegment c none) g
        (if g.outFrame < s.lastEvaluatedFrame c g then some (s.lastEvaluatedFrame c g) else none)
      unfold closeSegment
      rw [hq]
      simp [hc]
    dsimp only
    split
    · rw [endWait_store, key, h]; rfl
    · rw [key, h]; rfl
  · next h => simp [h]

end Sys2Proof.Machine.State
end

