-- ==== Sys2Proof/Laws/Returns.lean ====
section
/-! SUPPORT. What returns to the record pool: a chain return and the abort of a load, each said once (R108, R109, R123). -/

namespace Sys2Proof.Machine.State

open Sys2Proof.Safety

/-- All that a chain return does: the list head, the memory count, the refill and one return write (R109). -/
theorem chainReturn_spec (s : State) (kind : ReturnKind) (first last : Slot) (n : Nat) (r : Record) :
    s.chainReturn kind first last n r = { s with
      store := { s.store with
        freeHead := first, memoryCount := s.store.memoryCount + n, refill := refillAfterReturn s.store n }
      port := { s.port with requests := s.port.requests ++
        [.chainReturn kind { slot := last, record := { r with last := false, next := s.store.freeHead } }] } } := by
  unfold chainReturn
  rw [requestRefill_spec]
  cases h : s.store.refill <;> simp [postRequest, refillAfterReturn, Refill.overtaken, h]

/-- The chain of a load returns with its held tail as the return write, and the load is idle (R123). -/
theorem returnLoadChain_aborted (s : State) (l : Load) : LoadAborted s s.port l ((s.returnLoadChain l).setLoad none) := by
  unfold LoadAborted returnLoadChain
  refine ⟨fun h => ?_, fun f t hf ht => ?_⟩
  · rcases h with h | h
    · simp [h, setLoad]
    · cases hf : l.first <;> simp [h, setLoad]
  · simp only [hf, ht, chainReturn_spec, setLoad, and_self]

/-- The abort of a load: the store and the memory port as `LoadAborted` says, a waiting record dropped, and ABORTED with its
reason in the place of the load, or no reply (R123, R183, R185). -/
theorem abortLoad_spec (s : State) (l : Load) (reason : Option AbortReason) (h : s.store.load = some l) :
    LoadAborted s s.port l (s.abortLoad reason) ∧
    s.abortLoad reason = { s with
      store := (s.abortLoad reason).store
      port := (s.abortLoad reason).port
      editor := { s.editor with
        waitingRecord := none
        replies := match reason with
          | some r => s.editor.replies.erase (.reserved .load) ++ [.held (.aborted kindListBegin r)]
          | none => s.editor.replies } } := by
  have e : s.abortLoad reason =
      { ((s.returnLoadChain l).setLoad none) with editor := { s.editor with
        waitingRecord := none
        replies := match reason with
          | some r => s.editor.replies.erase (.reserved .load) ++ [.held (.aborted kindListBegin r)]
          | none => s.editor.replies } } := by
    unfold abortLoad
    cases reason <;> simp [h, reportLoadAbort, postReserved, releasePlace, postEditor, setEditor, setLoad]
  refine ⟨?_, ?_⟩
  · have k := returnLoadChain_aborted s l
    rw [e]
    exact k
  · rw [e]
    unfold returnLoadChain
    split <;> simp [chainReturn_spec, setLoad]

end Sys2Proof.Machine.State
end

