-- ==== Sys2Proof/Laws/Transmit.lean ====
section
/-! SUPPORT. The transmit arbiters: beginning a frame changes what is being sent and marks its entry, and nothing of what a
port holds (R169, R179). -/

namespace Sys2Proof.Machine

open Sys2Proof.Safety

theorem map_tset {α β : Type} {n : Nat} (f : α → β) (v : Vector α n) (i : Fin n) (x : α) :
    (tset v i x).map f = tset (v.map f) i (f x) := by
  simp [tset, Vector.map_set]

theorem tset_tget {α : Type} {n : Nat} (v : Vector α n) (i : Fin n) : tset v i (tget v i) = v := by
  simp [tset, tget]

theorem tget_map {α β : Type} {n : Nat} (f : α → β) (v : Vector α n) (i : Fin n) : tget (v.map f) i = f (tget v i) := by
  simp [tget]

/-- What a surface port holds, whichever of its entries is being sent: the transmit arbiter's choice changes nothing of
this (R169). -/
def settledPort (x : SurfacePort) : SurfacePort :=
  { x with
    sending := none
    notices := x.notices.map (Option.map (fun e => { e with onLink := false }))
    transportNotice := x.transportNotice.map (fun n => { n with onLink := false })
    follow := x.follow.map (Option.map (fun e => { e with onLink := false })) }

/-- What the editor port holds, whichever of its entries is being sent (R179). -/
def settledEditor (x : EditorPort) : EditorPort :=
  { x with
    sending := none
    flagNotice := x.flagNotice.map (fun _ => false)
    transportNotice := x.transportNotice.map (fun n => { n with onLink := false }) }

/-! ## Surface ports -/

@[simp] theorem SurfacePort.choose_frame (x : SurfacePort) :
    x.choose.link = x.link ∧ x.choose.silenceTimer = x.silenceTimer ∧ x.choose.inbound = x.inbound ∧
    x.choose.holdOut = x.holdOut ∧ x.choose.farHold = x.farHold ∧ x.choose.replies = x.replies ∧
    x.choose.followPosition = x.followPosition ∧ x.choose.lastSent = x.lastSent ∧ x.choose.linkDown = x.linkDown ∧
    x.choose.receiving = x.receiving := by
  unfold SurfacePort.choose SurfacePort.begin
  repeat' split
  all_goals simp

@[simp] theorem SurfacePort.transmit_frame (x : SurfacePort) :
    x.transmit.link = x.link ∧ x.transmit.silenceTimer = x.silenceTimer ∧ x.transmit.inbound = x.inbound ∧
    x.transmit.holdOut = x.holdOut ∧ x.transmit.farHold = x.farHold ∧ x.transmit.replies = x.replies ∧
    x.transmit.followPosition = x.followPosition ∧ x.transmit.lastSent = x.lastSent ∧
    x.transmit.linkDown = x.linkDown ∧ x.transmit.receiving = x.receiving := by
  unfold SurfacePort.transmit
  split <;> simp

theorem settled_tset {α : Type} {n : Nat} (f : α → α) (v : Vector (Option α) n) (i : Fin n) (e e' : α)
    (h : tget v i = some e) (hf : f e' = f e) : (tset v i (some e')).map (Option.map f) = v.map (Option.map f) := by
  rw [map_tset]
  have h2 : Option.map f (some e') = tget (v.map (Option.map f)) i := by
    rw [tget_map, h]
    simp [hf]
  rw [h2, tset_tget]

@[simp] theorem SurfacePort.settled_choose (x : SurfacePort) : settledPort x.choose = settledPort x := by
  unfold SurfacePort.choose SurfacePort.begin
  split
  · simp [settledPort]
  · split
    · split
      · next c h1 e h2 =>
        simp only [settledPort, SurfacePort.mk.injEq, true_and, and_true]
        exact settled_tset _ _ _ e _ h2 rfl
      · rfl
    · split
      · next t h => simp [settledPort, h]
      · split
        · split
          · next c h1 e h2 =>
            simp only [settledPort, SurfacePort.mk.injEq, true_and, and_true]
            exact settled_tset _ _ _ e _ h2 rfl
          · rfl
        · rfl

@[simp] theorem SurfacePort.settled_transmit (x : SurfacePort) : settledPort x.transmit = settledPort x := by
  unfold SurfacePort.transmit
  split <;> simp

theorem surfaceOf_transmitAt (s : State) (p q : SurfaceId) :
    (s.transmitAt p).surfaceOf q = if p = q then (s.surfaceOf q).transmit else s.surfaceOf q := by
  by_cases h : p = q
  · subst h
    simp [State.transmitAt]
  · simp [State.transmitAt, h]

@[simp] theorem settled_transmitAt (s : State) (p q : SurfaceId) :
    settledPort ((s.transmitAt p).surfaceOf q) = settledPort (s.surfaceOf q) := by
  rw [surfaceOf_transmitAt]
  split <;> simp

@[simp] theorem transmitEditor_surfaceOf (s : State) (q : SurfaceId) : s.transmitEditor.surfaceOf q = s.surfaceOf q :=
  State.surfaceOf_congr (by simp) q

theorem surfaceOf_transmitAll (s : State) (q : SurfaceId) : s.transmitAll.surfaceOf q = (s.surfaceOf q).transmit := by
  unfold State.transmitAll
  simp only [transmitEditor_surfaceOf, surfaceOf_transmitAt]
  fin_cases q <;> simp

@[simp] theorem settled_transmitAll (s : State) (q : SurfaceId) :
    settledPort (s.transmitAll.surfaceOf q) = settledPort (s.surfaceOf q) := by
  rw [surfaceOf_transmitAll]
  simp

/-! ## The editor port -/

@[simp] theorem EditorPort.choose_frame (x : EditorPort) (b : Byte) :
    (x.choose b).link = x.link ∧ (x.choose b).silenceTimer = x.silenceTimer ∧ (x.choose b).inbound = x.inbound ∧
    (x.choose b).holdOut = x.holdOut ∧ (x.choose b).farHold = x.farHold ∧ (x.choose b).replies = x.replies ∧
    (x.choose b).read = x.read ∧ (x.choose b).clear = x.clear ∧ (x.choose b).waitingRecord = x.waitingRecord ∧
    (x.choose b).receiving = x.receiving := by
  unfold EditorPort.choose EditorPort.begin
  repeat' split
  all_goals simp

@[simp] theorem EditorPort.settled_choose (x : EditorPort) (b : Byte) : settledEditor (x.choose b) = settledEditor x := by
  unfold EditorPort.choose EditorPort.begin
  split
  · simp [settledEditor]
  · split
    · next f h => simp [settledEditor, h]
    · split
      · next t h => simp [settledEditor, h]
      · rfl

@[simp] theorem transmitEditor_editor_frame (s : State) :
    s.transmitEditor.editor.link = s.editor.link ∧ s.transmitEditor.editor.silenceTimer = s.editor.silenceTimer ∧
    s.transmitEditor.editor.inbound = s.editor.inbound ∧ s.transmitEditor.editor.holdOut = s.editor.holdOut ∧
    s.transmitEditor.editor.farHold = s.editor.farHold ∧ s.transmitEditor.editor.replies = s.editor.replies ∧
    s.transmitEditor.editor.read = s.editor.read ∧ s.transmitEditor.editor.clear = s.editor.clear ∧
    s.transmitEditor.editor.waitingRecord = s.editor.waitingRecord ∧
    s.transmitEditor.editor.receiving = s.editor.receiving := by
  unfold State.transmitEditor
  split <;> simp

@[simp] theorem settled_transmitEditor (s : State) : settledEditor s.transmitEditor.editor = settledEditor s.editor := by
  unfold State.transmitEditor
  split <;> simp

@[simp] theorem transmitAll_editor_frame (s : State) :
    s.transmitAll.editor.link = s.editor.link ∧ s.transmitAll.editor.silenceTimer = s.editor.silenceTimer ∧
    s.transmitAll.editor.inbound = s.editor.inbound ∧ s.transmitAll.editor.holdOut = s.editor.holdOut ∧
    s.transmitAll.editor.farHold = s.editor.farHold ∧ s.transmitAll.editor.replies = s.editor.replies ∧
    s.transmitAll.editor.read = s.editor.read ∧ s.transmitAll.editor.clear = s.editor.clear ∧
    s.transmitAll.editor.waitingRecord = s.editor.waitingRecord ∧
    s.transmitAll.editor.receiving = s.editor.receiving := by
  unfold State.transmitAll
  simp

/-- The surface ports' arbiters change no flag, so the editor port's choice is the one it would make alone. -/
theorem flagSet_transmitAt (s : State) (p : SurfaceId) : (s.transmitAt p).flagSet = s.flagSet := by
  have h : ∀ q, ((s.transmitAt p).surfaceOf q).linkDown = (s.surfaceOf q).linkDown := fun q => by
    rw [surfaceOf_transmitAt]
    split <;> simp
  simp [State.flagSet, h]

theorem transmitEditor_editor_congr {s t : State} (he : s.editor = t.editor) (hf : s.flagSet = t.flagSet) :
    s.transmitEditor.editor = t.transmitEditor.editor := by
  unfold State.transmitEditor
  rw [he, hf]
  split
  · rfl
  · exact he

theorem transmitAll_editor (s : State) : s.transmitAll.editor = s.transmitEditor.editor := by
  unfold State.transmitAll
  exact transmitEditor_editor_congr (by simp) (by simp [flagSet_transmitAt])

@[simp] theorem settled_transmitAll_editor (s : State) : settledEditor s.transmitAll.editor = settledEditor s.editor := by
  unfold State.transmitAll
  simp

/-- Ports that hold the same agree in every item but the frame being sent and the marks of its entry. -/
theorem settledPort_fields {x y : SurfacePort} (h : settledPort x = settledPort y) :
    x.link = y.link ∧ x.silenceTimer = y.silenceTimer ∧ x.inbound = y.inbound ∧ x.holdOut = y.holdOut ∧
    x.farHold = y.farHold ∧ x.replies = y.replies ∧ x.followPosition = y.followPosition ∧ x.lastSent = y.lastSent ∧
    x.linkDown = y.linkDown ∧ x.receiving = y.receiving := by
  simp only [settledPort, SurfacePort.mk.injEq] at h
  simp [h]

/-! ## The words of the statements -/

/-- Two states that agree in every block agree but for the ports. -/
theorem eq_but_ports {t u : State} (h : t.pending = u.pending ∧ t.now = u.now ∧ t.tracker = u.tracker ∧
    t.arbiter = u.arbiter ∧ t.pass = u.pass ∧ t.writer = u.writer ∧ t.store = u.store ∧ t.memory = u.memory ∧
    t.port = u.port ∧ t.cursors = u.cursors ∧ t.engine = u.engine ∧ t.freeDraws = u.freeDraws) :
    t = { u with surface := t.surface, editor := t.editor } := by
  cases t
  simp_all

theorem goesOn_next (u : State) : GoesOnTo (.next u) u :=
  ⟨u, rfl, rfl, fun _ => .inl rfl, .inl rfl⟩

theorem goesOn_transmitAt (u : State) (p : SurfaceId) : GoesOnTo (.next (u.transmitAt p)) u := by
  refine ⟨_, rfl, eq_but_ports (by simp), fun q => ?_, .inl (by simp)⟩
  rw [surfaceOf_transmitAt]
  split
  · exact .inr rfl
  · exact .inl rfl

theorem goesOn_transmitEditor (u : State) : GoesOnTo (.next u.transmitEditor) u :=
  ⟨_, rfl, eq_but_ports (by simp), fun q => .inl (by simp), .inr rfl⟩

theorem goesOn_transmitAll (u : State) : GoesOnTo (.next u.transmitAll) u :=
  ⟨_, rfl, eq_but_ports (by simp), fun q => .inr (surfaceOf_transmitAll u q), .inr (transmitAll_editor u)⟩

/-- What the part goes on to holds what u holds, whichever entries are being sent. -/
theorem settled_goesOn {o : Host.Outcome State Fault Refusal} {u t : State} (h : GoesOnTo o u) (ht : o = .next t) :
    (∀ p, settledPort (t.surfaceOf p) = settledPort (u.surfaceOf p)) ∧ settledEditor t.editor = settledEditor u.editor := by
  obtain ⟨t', h1, -, hp, he⟩ := h
  rw [ht] at h1
  cases h1
  refine ⟨fun p => ?_, ?_⟩
  · rcases hp p with k | k <;> simp [k]
  · rcases he with k | k <;> simp [k]

/-- A frame under way in u is under way in what the part goes on to (R170, R179). -/
theorem sending_goesOn {o : Host.Outcome State Fault Refusal} {u t : State} (h : GoesOnTo o u) (ht : o = .next t) :
    (∀ p f, (u.surfaceOf p).sending = some f → (t.surfaceOf p).sending = some f) ∧
    (∀ f, u.editor.sending = some f → t.editor.sending = some f) := by
  obtain ⟨t', h1, -, hp, he⟩ := h
  rw [ht] at h1
  cases h1
  refine ⟨fun p f hf => ?_, fun f hf => ?_⟩
  · rcases hp p with k | k <;> rw [k]
    · exact hf
    · simp [SurfacePort.transmit, hf]
  · rcases he with k | k <;> rw [k]
    · exact hf
    · simp [State.transmitEditor, hf]

end Sys2Proof.Machine
end

