-- ==== Sys2Proof/WellFormed.lean ====
section
/-! DEFINITION. Which commands are well formed. The operands' types rule out every number that no port, bank, frame or
index has; what is left to check is that the symbols of a reception are one reception: R195 has a frame received at its
end-of-frame symbol, so the list ends with the one end-of-frame symbol it holds. `exec` takes any list, symbol by symbol. -/

namespace Sys2Proof

/-- The symbols end with an end-of-frame symbol (R195: a frame is received there). -/
def endsAtEndOfFrame (symbols : List LineSymbol) : Bool :=
  symbols.getLast? == some LineSymbol.endOfFrame

/-- The symbols hold exactly one end-of-frame symbol: one command is one reception (R195). -/
def holdsOneEndOfFrame (symbols : List LineSymbol) : Bool :=
  symbols.count LineSymbol.endOfFrame == 1

/-- A command is well formed. -/
def Instr.wellFormed : Instr → Bool
  | .surfaceFrameReceived _ symbols => endsAtEndOfFrame symbols && holdsOneEndOfFrame symbols
  | .editorFrameReceived symbols => endsAtEndOfFrame symbols && holdsOneEndOfFrame symbols
  | .powerOnReset | .frameMark _ _ _ | .frameTimerExpiry | .controlEvaluation | .evaluationResume
  | .deferredClosingWork | .memoryGrant | .appendWriteComplete | .closingWriteComplete
  | .chainReturnWriteComplete | .refillReadComplete | .fetchComplete | .walkStart | .walkReadComplete
  | .spliceStart | .spliceWalkReadComplete | .spliceWriteComplete | .formatWriteComplete | .loadWriteComplete
  | .loadReplacement | .loadRecordSlot | .clearListEvent | .listReadRequest | .listReadComplete
  | .blockStart | .blockEnd | .engineRead _ | .silenceExpiry _ | .farHoldChange _ _ | .surfaceFrameSent _
  | .touch _ | .move _ | .release _ | .bank _ | .mode _ | .query _ | .hello _
  | .editorSilenceExpiry | .editorFrameSent | .setControl | .setStem | .setSeat | .setHub
  | .listBegin | .listRecord | .listEnd | .readList | .clearList | .status | .clearFlags | .mixReset
  | .linkReset => true

end Sys2Proof
end

