-- ==== Sys2Proof/Tests/Slice0.lean ====
section
/-! SUPPORT. The model's own tests: ill-formed commands, the manual's worked figures, one outcome per family of commands,
and for every statement with hypotheses a state and operands that meet them, clause by clause. -/

namespace Sys2Proof.Tests

open Sys2Proof.Machine Sys2Proof.Safety

/-! ## Ill-formed commands (WellFormed.lean) -/

theorem test_illFormed_notEnding :
    Instr.wellFormed (.surfaceFrameReceived 0 [.startOfFrame, .data 1#8]) = false ∧
    Instr.wellFormed (.editorFrameReceived []) = false := by decide

theorem test_illFormed_twoFrames :
    Instr.wellFormed (.surfaceFrameReceived 0 [.startOfFrame, .endOfFrame, .endOfFrame]) = false ∧
    Instr.wellFormed (.editorFrameReceived [.endOfFrame, .startOfFrame, .endOfFrame]) = false := by decide

theorem test_wellFormed :
    Instr.wellFormed (.surfaceFrameReceived 3 [.startOfFrame, .data 1#8, .endOfFrame]) = true ∧
    Instr.wellFormed .mixReset = true := by decide

/-! ## States -/

/-- The part with its store READY and stocked, every port UP, seat 1 on S0 at bank base 0 with rank 0 and seat 2 on S1 at
bank base 200 with rank 1, other seats nowhere. -/
def hub : State := { State.reset with
  surface := tbuild (fun _ => { SurfacePort.reset with link := .up, silenceTimer := some 120 })
  editor := { EditorPort.reset with link := .up, silenceTimer := some 120 }
  arbiter := { Arbiter.reset with seats := tbuild (fun i =>
    if i = 0 then { link := some 0, rank := 0, bankBase := 0, heldTouches := 0 }
    else if i = 1 then { link := some 1, rank := 1, bankBase := 200, heldTouches := 0 } else Seat.reset) }
  store := { ListStore.reset with
    storeState := .ready, freeHead := 6, memoryCount := 1048570, freeQueue := [0, 1, 2, 3, 4, 5] } }

/-- The state with one message waiting at a surface port. -/
def hears (s : State) (p : SurfaceId) (n : Nat) (b : SeatBody) : State :=
  s.setSurface p { s.surfaceOf p with inbound := [{ seat := n, body := b }] }

/-- The state with one command waiting at the editor port. -/
def told (s : State) (c : EditorCommand) : State := { s with editor := { s.editor with inbound := [c] } }

/-- The state with the transport in a state at a frame. -/
def at_ (s : State) (x : Transport) (f : Frame) : State :=
  { s with tracker := { s.tracker with transport := x, currentFrame := f } }

/-- The state with a control touched by a seat since a frame. -/
def touched (s : State) (c : ControlId) (i : SeatId) (f : Frame) (reference : Level) : State :=
  (s.setTouch c (some { holder := i, lastMove := f, reference := reference })).setSeat i
    { s.seatOf i with heldTouches := (s.seatOf i).heldTouches + 1 }

/-- The state with a pass in flight for a frame, at a position. -/
def passAt (s : State) (d : Option ControlId) (f : Frame) : State :=
  { s.setRun { inFlight := true, frame := some f, position := d, wait := none, underWay := none } with
    engine := { s.engine with building := some 1 } }

/-- The state with the evaluation of control 40 at frame 101 waiting, or released from its wait. -/
def waiting (s : State) (cause : Option WaitCause) (todo : EvalTodo) : State :=
  let e : Evaluation :=
    { control := 40, frame := 101, config := s.configOf 40, mode := .touch, held := true, transport := .play,
      transition := false, glideEnded := false, presented := -150, firstEvaluation := false, todo := todo }
  s.setRun { inFlight := true, frame := some 101, position := some 40, wait := cause, underWay := some e }

/-- A segment of control 40 opened at frame 100 and level -200 in slot 7, with reserve slot 8. -/
def segment : Segment := Segment.opened 40 100 (-200) 7 8

/-- The state with that segment open, control 40 last evaluated at a frame. -/
def writing (s : State) (f : Frame) : State :=
  (s.setSegment 40 (some segment)).setRecord 40
    { s.recordOf 40 with evaluatedFrame := some f, previousMode := .touch, previousHeld := true, presented := -200 }

/-- The state with control 40 in a mode. -/
def inMode (s : State) (m : Mode) : State := s.setConfig 40 { s.configOf 40 with mode := m }

/-- The state with a free slot queue and a memory count. -/
def stocked (s : State) (q : List Slot) (n : Nat) : State :=
  { s with store := { s.store with freeQueue := q, memoryCount := n } }

/-- The state with an access in progress at the memory port. -/
def accessing (s : State) (r : MemRequest) : State := { s with port := { s.port with access := some r } }

/-- The state with a request at the memory port. -/
def requesting (s : State) (r : MemRequest) : State := s.postRequest r

/-- The state with a load of control 40 in flight: one record taken, its slot 7, and a count. -/
def loading (s : State) (received expected : Nat) (ended : Bool) : State :=
  let held : SlotRecord := { slot := 7, record := { frame := 100, kind := .level, level := -200, last := false, next := 0 } }
  let load : Load :=
    { control := 40, expected := expected, received := received, first := if received = 0 then none else some 7,
      tail := if received = 0 then none else some held, lastFrame := if received = 0 then 0 else 100, endTaken := ended }
  { s.setLoad (some load) with editor := { s.editor with replies := [.reserved .load] } }

/-- The state with a list read of control 40 in flight, from frame 100 to frame 200. -/
def reading (s : State) (next : Option Slot) (atPort : Bool) : State := { s with editor := { s.editor with
  replies := .reserved .read :: (if atPort then [.reserved .record] else [])
  read := some { control := 40, fromFrame := 100, toFrame := 200, next := next, count := 0, atPort := atPort } } }

/-- The state with a CLEAR LIST of control 40 in flight. -/
def clearing (s : State) : State :=
  { s with editor := { s.editor with replies := [.reserved .clear], clear := some 40 } }

/-- The state with a list of one record in slot 9 for control 40. -/
def listed (s : State) : State := s.setList 40 { head := 9, tail := 9, count := 1 }

/-- The state with a record written to a slot. -/
def holding (s : State) (slot : Slot) (f : Frame) (last : Bool) : State := { s with
  memory := Memory.writeSlot s.memory slot { frame := f, kind := .level, level := -150, last := last, next := 12 } }

/-- The state with one closed segment of control 40 in the splice queue. -/
def closed (s : State) (w : ClosingWork) : State :=
  s.joinSpliceQueue { segment := segment, closing := w }

/-- The frame symbols of data bytes. -/
def symbols (bytes : List Byte) : List LineSymbol :=
  .startOfFrame :: (bytes.map .data ++ [.endOfFrame])

/-- The state an outcome goes on to, or none. -/
def next? : Host.Outcome State Fault Refusal → Option State
  | .next s => some s
  | .fault _ => none
  | .refused _ => none

/-! ## The manual's worked figures -/

/-- 01, "Combining levels: worked figures" (R5). -/
theorem test_levelSum_figures :
    levelSum [-200, -64, 32] 0 = -232 ∧ levelSum [300, 200, 100] 0 = 384 ∧ levelSum [300, 200, -400] 0 = 100 ∧
    levelSum [-4000, -1000] 0 = -4607 ∧ levelSum [-200, -4608] 0 = -4608 ∧ levelSum [-500] 50 = -450 ∧
    levelSum [384] (-4992) = -4607 ∧ levelSum [-4608] 4992 = -4608 := by decide

/-- 01, R4 and R6. -/
theorem test_clamp_and_difference :
    [1000, 384, -4607, -4608, -20000].map clampLevel = [384, 384, -4607, -4608, -4608] ∧
    levelDifference (-250) (-300) = 50 ∧ levelDifference 384 (-4608) = 4992 ∧ levelDifference (-4608) 384 = -4992 := by
  decide

/-- 01, "Coefficient law: worked figures" (R7, R8). -/
theorem test_coefficient_figures :
    [384, 383, 192, 100, 0, -1, -96, -192, -200, -232, -4032, -4033, -4608].map coefficient =
      [4194304, 4179484, 2097152, 1504794, 1048576, 1044871, 741455, 524288, 509469, 453885, 1, 0, 0] := by
  decide +kernel

/-- 04, "Worked figures: glide", toward -200, -200 from below, a moving target, OFF, and a TRIM offset (R73, R74). -/
theorem test_glide_figures :
    [1, 2, 3, 4, 5, 6, 7, 8].map (fun n => glideLevel ⟨-100, 0, 8, n⟩ (-200)) =
      [-113, -125, -138, -150, -163, -175, -188, -200] ∧
    glideLevel ⟨-300, 0, 8, 1⟩ (-200) = -287 ∧
    [glideLevel ⟨-100, 0, 4, 1⟩ (-200), glideLevel ⟨-100, 0, 4, 2⟩ (-210), glideLevel ⟨-100, 0, 4, 3⟩ (-220),
      glideLevel ⟨-100, 0, 4, 4⟩ (-230)] = [-125, -155, -190, -230] ∧
    [1, 2].map (fun n => glideLevel ⟨-100, 0, 2, n⟩ (-4608)) = [-2354, -4608] ∧
    [1, 2, 3, 4].map (fun n => glideScale ⟨0, 50, 4, n⟩ (-50)) = [-37, -25, -12, 0] := by decide

/-- What an evaluation of control 40 reads: live level, stored value, and the level a touch refers to. -/
def readings (m : Mode) (live : Level) (stored : Option Level) (reference : Option Level) : Inputs where
  control := 40
  frame := 100
  config := ControlConfig.reset
  mode := m
  transport := .play
  stored := stored
  live := live
  touch := reference.map (fun l => { holder := 0, lastMove := 100, reference := l })
  segmentOpen := false
  record := { EvalRecord.reset with previousMode := m }

/-- 04, "Worked figures: presented levels" (R68 to R71). -/
theorem test_presented_figures :
    [readings .off (-300) (some (-500)) none, readings .read (-250) (some (-500)) (some (-300)),
      readings .read (-250) none none, readings .touch (-250) (some (-500)) (some (-300)),
      readings .touch (-250) (some (-500)) none, readings .trim (-250) (some (-500)) (some (-300)),
      readings .trim (-250) none (some (-300)), readings .trim 200 (some 100) (some (-300)),
      readings .trim (-4608) (some (-500)) (some (-300)), readings .trim (-250) (some (-4608)) (some (-300))].map
      (fun x => x.choose.presented) =
    [-300, -500, -250, -250, -500, -450, -250, 384, -4607, -4608] := by decide

/-- The worked splice of 06, section 6.6: what the walk finds, the writes, and the descriptor (R115 to R118). -/
def workedSegment : Segment where
  control := 40
  inFrame := 1050
  outFrame := 1180
  count := 4
  first := 700200
  reserve := 700201
  tail := { slot := 700203, frame := 1180, level := -150 }
  lastLevel := -150

/-- A LEVEL record of the worked splice. -/
def levelAt (slot : Slot) (f : Frame) (l : Level) (next : Slot) : SlotRecord :=
  { slot := slot, record := { frame := f, kind := .level, level := l, last := false, next := next } }

theorem test_splice_figures :
    (let a := ((SpliceAnswer.empty.classify workedSegment (levelAt 5000 1000 (-200) 5001)).classify workedSegment
        (levelAt 5001 1100 (-150) 5002)).classify workedSegment (levelAt 5002 1200 (-300) 5003)
     a.writes workedSegment = [levelAt 700203 1180 (-150) 700201, levelAt 700201 1181 (-150) 5002,
       levelAt 5000 1000 (-200) 700200] ∧
     a.removed = 1 ∧
     a.descriptor workedSegment { head := 5000, tail := 5003, count := 4 } =
       { head := 5000, tail := 5003, count := 7 }) := by decide +kernel

/-- The CRC of R195 (its published check value over the characters 1 to 9), and an IDLE frame and a record slot by hand
(R195, R198, R199). -/
theorem test_format_figures :
    crc16 [0x31#8, 0x32#8, 0x33#8, 0x34#8, 0x35#8, 0x36#8, 0x37#8, 0x38#8, 0x39#8] = 0x29B1#16 ∧
    parseFrame surfaceLength ([0xF2#8, 0x02#8, 0x00#8] ++ bytes2 (crc16 [0xF2#8, 0x02#8, 0x00#8]).toNat) =
      some { seat := 2, kind := 0x02#8, payload := [] } ∧
    parseFrame surfaceLength [0x02#8, 0x02#8, 0x00#8, 0x00#8, 0x00#8] = none ∧
    recordBytes { frame := 1181, kind := .level, level := -150, last := false, next := 5002 } =
      [0x00#8, 0x04#8, 0x9D#8, 0x00#8, 0xFF#8, 0x6A#8, 0x00#8, 0x13#8, 0x8A#8, 0#8, 0#8, 0#8, 0#8, 0#8, 0#8, 0#8] ∧
    recordBytes { frame := 1300, kind := .gap, level := 5, last := true, next := 3 } =
      [0x00#8, 0x05#8, 0x14#8, 0x03#8, 0#8, 0#8, 0#8, 0#8, 0#8, 0#8, 0#8, 0#8, 0#8, 0#8, 0#8, 0#8] ∧
    engineWord { stem := some 3, coefficient := 453885 } = 0x0306ECFD#32 := by decide +kernel

/-! ## States that meet the hypotheses of the statements, clause by clause

Each theorem is named after its statement in Certificates/Slice0/Obligations.lean. -/

theorem test_meets_StepRunsFrontCommand :
    ({ hub with pending := [.blockStart, .blockEnd] } : State).pending = .blockStart :: [.blockEnd] ∧ hub.pending = [] := by
  decide +kernel

theorem test_meets_LevelSumLaw : (-4608 : Level) ∈ [384, -4608] ∧ (-4608 : Level) ∉ [384, -4607] := by decide

/-- The ends of every range of levels; k is not negative at 0 and negative at -1. -/
theorem test_meets_CoefficientLaw :
    ((-4607 : Int) ≤ -4607 ∧ (-4607 : Int) ≤ 384) ∧ ((-4607 : Int) ≤ 384 ∧ (384 : Int) ≤ 384) ∧
    (0 : Int) ≤ Int.fdiv 0 192 ∧ Int.fdiv (-1) 192 < 0 ∧ ((0 : Int) ≤ 191 ∧ (191 : Int) ≤ 191) ∧
    ((192 : Int) ≤ 192 ∧ (192 : Int) ≤ 383) ∧ ((192 : Int) ≤ 383 ∧ (383 : Int) ≤ 383) ∧
    ((-4032 : Int) ≤ -4032 ∧ (-4032 : Int) ≤ 384) ∧ ((-4607 : Int) ≤ -4033 ∧ (-4033 : Int) ≤ -4033) := by decide

/-- A reading with another record of the previous evaluation. -/
def after (x : Inputs) (previous : Mode) (held : Bool) (glide : Option Glide) : Inputs :=
  { x with record := { x.record with previousMode := previous, previousHeld := held, glide := glide } }

/-- Glides: a touch ends one, a transition, the two modes that start one at a release, and the cases that keep it. -/
theorem test_meets_PresentedLevelChoice_glides :
    (readings .touch 0 none (some 0)).touch.isSome = true ∧
    (after (readings .touch 0 none none) .read true none).mode ≠
      (after (readings .touch 0 none none) .read true none).record.previousMode ∧
    ([Mode.touch, Mode.trim].all (fun m =>
      let x := after (readings m 0 none none) m true none
      x.touch == none && x.mode == x.record.previousMode && x.record.previousHeld)) = true ∧
    ([Mode.off, .read, .touch, .latch, .trim].all (fun m =>
      let x := after (readings m 0 none none) m false (some ⟨-100, 0, 8, 1⟩)
      x.touch == none && x.mode == x.record.previousMode && !x.record.previousHeld)) = true := by decide

/-- Levels: a touched and an untouched control in every mode, with and without a stored value, a glide before and at its
last step (a count of 0 has one step), and a latch that holds and one that does not. -/
theorem test_meets_PresentedLevelChoice_levels :
    (readings .off 0 none none).mode = .off ∧ (readings .read 0 none none).mode = .read ∧
    (readings .touch 0 none (some 0)).touch.isSome = true ∧
    ((readings .touch 0 none none).touch = none ∧ (readings .touch 0 none none).glide = none) ∧
    (after (readings .touch 0 none none) .touch false (some ⟨-100, 0, 0, 1⟩)).glide = some ⟨-100, 0, 0, 1⟩ ∧
    (max 0 1 ≤ 1 ∧ 1 < max 2 1) ∧
    (after (readings .trim 0 none none) .trim false (some ⟨-100, 50, 2, 1⟩)).glide = some ⟨-100, 50, 2, 1⟩ ∧
    (readings .latch 0 none (some 0)).touch.isSome = true ∧ (readings .latch 0 none none).touch = none ∧
    (let x := readings .latch 0 none none
     let y : Inputs := { x with segmentOpen := true, record := { x.record with latch := true } }
     (y.record.latch = true ∧ y.mode = y.record.previousMode ∧ y.segmentOpen = true) ∧ x.record.latch = false) ∧
    (readings .trim 0 (some 0) (some 0)).stored = some 0 ∧ (readings .trim 0 none (some 0)).stored = none ∧
    (readings .trim 0 none (some 0)).touch = some { holder := 0, lastMove := 100, reference := 0 } ∧
    ((readings .trim 0 none none).touch = none ∧ (readings .trim 0 none none).glide = none) := by decide

/-- STOPPED and CHASE; consecutive up to the last frame, and nothing consecutive to it. -/
theorem test_meets_FrameMarkTaken :
    (hub.tracker.transport = .stopped ∧ (at_ hub .chase 9).tracker.transport = .chase) ∧
    ((at_ hub .play 16777214).tracker.transport = .play ∧ (16777214 < 16777215 ∧
      (16777215#24).toNat = (at_ hub .play 16777214).tracker.currentFrame + 1)) ∧
    ((at_ hub .freewheel 16777215).tracker.transport = .freewheel ∧
      ¬((at_ hub .freewheel 16777215).tracker.currentFrame < 16777215 ∧
        (0#24).toNat = (at_ hub .freewheel 16777215).tracker.currentFrame + 1)) := by decide +kernel

/-- The transport state with a freewheel limit and count. -/
def wheeling (x : Transport) (f limit count : Nat) : Tracker :=
  { (at_ hub x f).tracker with freewheelLimit := limit, freewheelCount := count }

theorem test_meets_TimerExpiryTaken :
    hub.tracker.transport = .stopped ∧ (wheeling .chase 9 10 0).transport = .chase ∧
    ((wheeling .play 16777214 1 0).currentFrame < 16777215 ∧ 1 ≤ (wheeling .play 16777214 1 0).freewheelLimit) ∧
    ((wheeling .play 16777214 0 0).currentFrame < 16777215 ∧ (wheeling .play 16777214 0 0).freewheelLimit = 0) ∧
    16777215 ≤ (wheeling .play 16777215 10 0).currentFrame ∧
    ((wheeling .freewheel 16777214 2 1).freewheelCount + 1 ≤ (wheeling .freewheel 16777214 2 1).freewheelLimit ∧
      (wheeling .freewheel 16777214 2 1).currentFrame < 16777215) ∧
    (wheeling .freewheel 9 2 2).freewheelLimit < (wheeling .freewheel 9 2 2).freewheelCount + 1 ∧
    16777215 ≤ (wheeling .freewheel 16777215 2 1).currentFrame := by decide

/-- No pass in flight, one with nothing pending, one with a pending frame; a PARKED cursor, an empty list, a list of one record;
a port that is UP and one that is DOWN; and a notice to a seat and to the holder of a control. -/
theorem test_meets_TransportRequestsTaken :
    (hub.pass.run.inFlight = false ∧
      ((passAt hub none 9).pass.run.inFlight = true ∧ (passAt hub none 9).tracker.pendingFrame = none) ∧
      ((passAt hub none 9).setPendingFrame (some 10)).tracker.pendingFrame ≠ none) ∧
    ((hub.setCursor 40 { Cursor.reset with state := .parked }).cursorOf 40).state = .parked ∧
    ((hub.cursorOf 40).state ≠ .parked ∧ (hub.listOf 40).count = 0) ∧
    (((listed hub).cursorOf 40).state ≠ .parked ∧ ((listed hub).listOf 40).count ≠ 0) ∧
    (hub.surfaceOf 3).link = .up ∧ (State.reset.surfaceOf 3).link = .down ∧ (hub.seatOf 1).link = some 1 ∧
    hub.touchOf 40 = none ∧ (touched hub 40 0 9 0).touchOf 40 = some { holder := 0, lastMove := 9, reference := 0 } := by
  decide +kernel

/-- No open segment; an out frame at and below the last evaluated frame; a slot for the final record, a wait for one, a wait behind an older
closed segment, an empty pool; and an append that waits on the segment. -/
theorem test_meets_SegmentClosed :
    hub.segmentOf 40 = none ∧ (writing hub 100).segmentOf 40 = some segment ∧
    ((writing hub 100).recordOf 40).evaluatedFrame.getD segment.outFrame ≤ segment.outFrame ∧
    (segment.outFrame < ((writing hub 101).recordOf 40).evaluatedFrame.getD segment.outFrame ∧
      (writing hub 101).closingWaiters = 0 ∧ (writing hub 101).store.freeQueue = 0 :: [1, 2, 3, 4, 5]) ∧
    (let s := stocked (writing hub 101) [] 9
     s.store.freeQueue = [] ∧ s.totalFree ≠ 0) ∧
    (let s := closed (writing hub 101) (.waitingSlot 101)
     s.closingWaiters ≠ 0 ∧ s.totalFree ≠ 0) ∧
    (stocked (writing hub 101) [] 0).totalFree = 0 ∧
    (let s := waiting (writing hub 100) (some .freeSlot) .append
     s.pass.run.wait ≠ none ∧ (∃ e, s.pass.run.underWay = some e ∧ e.control = 40 ∧ e.todo = .append)) := by
  refine ⟨by decide +kernel, by decide +kernel, by decide +kernel, by decide +kernel, by decide +kernel, by decide +kernel,
    by decide +kernel, by decide +kernel, _, rfl, by decide, by decide⟩

/-- A wait for an append to an open segment, a wait for a punch-in with a pass in flight, and no wait. -/
theorem test_meets_BarsAndClosures_closeAll :
    (let s := waiting (writing hub 100) (some .appendRoom) .append
     s.pass.run.wait ≠ none ∧ s.segmentOf 40 ≠ none) ∧
    (let s := waiting hub (some .freeSlot) .punchIn
     s.pass.run.wait ≠ none ∧ s.pass.run.inFlight = true) ∧
    hub.pass.run.wait = none := by decide +kernel

/-- A punch-in that waits with a pass in flight, and none that waits; with the bar set, and with neither the bar nor a SAFE
stem; and an append that waits on an open segment of a control the test names. -/
theorem test_meets_BarsAndClosures_bars :
    (let s := waiting hub (some .freeSlot) .punchIn
     (∃ e, s.pass.run.wait ≠ none ∧ s.pass.run.underWay = some e ∧ e.todo = .punchIn) ∧
      (s.writer.closeAllBar || s.pass.run.inFlight) = true ∧ s.writer.closeAllBar = false ∧ s.isSafe 40 = false) ∧
    ({ waiting hub (some .freeSlot) .punchIn with
      writer := { hub.writer with closeAllBar := true } } : State).writer.closeAllBar = true ∧
    hub.pass.run.wait = none ∧
    (let s := waiting (writing hub 100) (some .appendRoom) .append
     ∃ e, s.pass.run.wait ≠ none ∧ s.pass.run.underWay = some e ∧ e.todo = .append ∧ s.segmentOf e.control ≠ none) := by
  refine ⟨⟨⟨_, by decide +kernel, rfl, rfl⟩, by decide +kernel⟩, by decide +kernel, by decide +kernel,
    ⟨_, by decide +kernel, rfl, rfl, by decide +kernel⟩⟩

/-- Nothing in flight; a load with a record; a clear; a list read; a load and a list read; a clear and a list read. -/
theorem test_meets_LeavingStopped :
    (hub.store.load = none ∧ hub.editor.clear = none ∧ hub.editor.read = none) ∧
    (∃ l h, (loading hub 1 2 false).store.load = some l ∧ l.first = some 7 ∧ l.tail = some h) ∧
    ((loading hub 1 2 false).store.load ≠ none ∧ (loading hub 1 2 false).editor.read = none) ∧
    ((clearing hub).store.load = none ∧ (clearing hub).editor.clear ≠ none ∧ (clearing hub).editor.read = none) ∧
    ((reading hub none true).editor.read ≠ none ∧ (reading hub none true).editor.clear = none) ∧
    (let s := (reading hub none true).setLoad (loading hub 1 2 false).store.load
     s.store.load ≠ none ∧ s.editor.clear = none ∧ s.editor.read ≠ none) ∧
    (let s := clearing (reading hub none true)
     s.store.load = none ∧ s.editor.clear ≠ none ∧ s.editor.read ≠ none) := by
  refine ⟨by decide +kernel, ⟨_, _, rfl, rfl, rfl⟩, by decide +kernel, by decide +kernel, by decide +kernel, by decide +kernel,
    by decide +kernel⟩

/-- The pool falls to 0 and does not; an append waits for a slot, and a load record does. -/
theorem test_meets_PoolRunsOut :
    ¬(0 < hub.totalFree ∧ hub.totalFree = 0) ∧
    (0 < hub.totalFree ∧ (stocked (waiting (writing hub 100) (some .freeSlot) .append) [] 0).totalFree = 0) ∧
    (let u := stocked (waiting (writing hub 100) (some .freeSlot) .append) [] 0
     u.pass.run.wait = some .freeSlot ∧ u.segmentOf 40 = some segment) ∧
    (let u := { loading hub 1 2 false with editor :=
       { (loading hub 1 2 false).editor with waitingRecord := some ⟨101, 0, 0⟩ } }
     u.editor.waitingRecord ≠ none ∧ u.store.load ≠ none) := by decide +kernel

/-! ### Seats -/

/-- Faders 0 and 31, and the last control, 207, untouched; seat 2 (rank 1) on a control seat 1 (rank 0) holds, and the
reverse. -/
theorem test_meets_TouchDecided :
    (Handed (hears hub 0 1 (.touch 31)) 0 1 (.touch 31) ∧ Addresses (hears hub 0 1 (.touch 31)) 0 1 0 31 31 ∧
      (hears hub 0 1 (.touch 31)).touchOf 31 = none) ∧
    (Handed (hears hub 1 2 (.touch 7)) 1 2 (.touch 7) ∧ Addresses (hears hub 1 2 (.touch 7)) 1 2 1 7 207) ∧
    (let s := touched (hears hub 1 2 (.touch 0)) 200 0 90 (-200)
     Handed s 1 2 (.touch 0) ∧ Addresses s 1 2 1 0 200 ∧ (s.touchOf 200).map Touch.holder = some 0 ∧
      (s.seatOf 0).rank < (s.seatOf 1).rank) ∧
    (let s := touched (hears hub 0 1 (.touch 0)) 0 1 90 (-200)
     Handed s 0 1 (.touch 0) ∧ Addresses s 0 1 0 0 0 ∧ (s.touchOf 0).map Touch.holder = some 1 ∧
      (s.seatOf 0).rank ≤ (s.seatOf 1).rank) := by
  unfold Handed Addresses
  decide +kernel

theorem test_meets_TouchRegranted :
    (let s := touched (hears hub 0 1 (.touch 31)) 31 0 90 (-200)
     Handed s 0 1 (.touch 31) ∧ Addresses s 0 1 0 31 31 ∧
      s.touchOf 31 = some { holder := 0, lastMove := 90, reference := -200 }) := by
  unfold Handed Addresses
  decide +kernel

theorem test_meets_ControlMessagesTaken_touches :
    (let s := touched (hears hub 0 1 (.move 31 32767)) 31 0 90 (-200)
     Handed s 0 1 (.move 31 32767) ∧ Addresses s 0 1 0 31 31 ∧ (s.touchOf 31).map Touch.holder = some 0) ∧
    (let s := touched (hears hub 0 1 (.release 31)) 31 0 90 (-200)
     Handed s 0 1 (.release 31) ∧ Addresses s 0 1 0 31 31 ∧ (s.touchOf 31).map Touch.holder = some 0) := by
  unfold Handed Addresses
  decide +kernel

theorem test_meets_BankAndHelloTaken :
    (let s := hears hub 0 1 (.bank 207)
     Handed s 0 1 (.bank 207) ∧ (s.seatOf 0).link = some 0 ∧ (s.seatOf 0).heldTouches = 0) ∧
    Handed (hears hub 0 1 .hello) 0 1 .hello := by
  unfold Handed
  decide +kernel

/-- The mode codes 0 and 4, on an untouched control and on one the seat itself holds. -/
theorem test_meets_ControlMessagesTaken_modes :
    (Handed (hears hub 0 1 (.mode 31 0#8)) 0 1 (.mode 31 0#8) ∧ Addresses (hears hub 0 1 (.mode 31 0#8)) 0 1 0 31 31 ∧
      (hears hub 0 1 (.mode 31 0#8)).touchOf 31 = none) ∧
    (let s := touched (hears hub 0 1 (.mode 31 4#8)) 31 0 90 0
     Handed s 0 1 (.mode 31 4#8) ∧ (s.touchOf 31).map Touch.holder = some 0) ∧
    (Handed (hears hub 0 1 (.query 0)) 0 1 (.query 0) ∧ Addresses (hears hub 0 1 (.query 0)) 0 1 0 0 0) := by
  unfold Handed Addresses
  decide +kernel

/-- A seat of another port; fader 32; fader 8 at bank base 200; a BANK with a touch and to 208; a RELEASE of an untouched
control; the mode code 5; a MODE on another's control. -/
theorem test_meets_SeatMessagesRefused :
    (Handed (hears hub 0 2 (.touch 0)) 0 2 (.touch 0) ∧ NotMappedAt (hears hub 0 2 (.touch 0)) 0 2) ∧
    (Handed (hears hub 0 1 (.touch 32)) 0 1 (.touch 32) ∧ 31 < 32) ∧
    (Handed (hears hub 1 2 (.query 8)) 1 2 (.query 8) ∧ 207 < ((hears hub 1 2 (.query 8)).seatOf 1).bankBase + 8) ∧
    0 < ((touched (hears hub 0 1 (.bank 0)) 31 0 90 0).seatOf 0).heldTouches ∧
    (((hears hub 0 1 (.bank 208)).seatOf 0).heldTouches = 0 ∧ 207 < 208) ∧
    (hears hub 0 1 (.release 0)).touchOf 0 = none ∧ (4 < (5#8).toNat ∧ (4#8).toNat ≤ 4) ∧
    ((touched (hears hub 0 1 (.mode 0 4#8)) 0 1 90 0).touchOf 0).map Touch.holder = some 1 := by
  unfold Handed NotMappedAt
  decide +kernel

/-! ### The pass -/

/-- The state with a stale timeout of 50 frames, in PLAY. -/
def stale50 (s : State) : State := { at_ s .play 101 with arbiter := { s.arbiter with staleTimeout := 50 } }

/-- The lookahead of control 40: a record at a frame, with or without LAST. -/
def ahead (s : State) (f : Frame) (last : Bool) : State := s.setCursor 40 { Cursor.reset with
  lookahead := .record { slot := 9, record := { frame := f, kind := .level, level := 0, last := last, next := 12 } } }

/-- The lookahead at and above the pass frame 100; a touch newer than the frame, one short of the timeout, and one at it. -/
theorem test_meets_EvaluationBegins_step :
    (let x := (ahead hub 100 true).cursorOf 40
     x.state = .ready ∧ ∃ r, x.lookahead = .record r ∧ r.record.frame ≤ 100 ∧ r.record.last = true) ∧
    (∃ r, ((ahead hub 0 false).cursorOf 40).lookahead = .record r ∧ r.record.frame ≤ 100 ∧ r.record.last = false) ∧
    (∀ r, ((ahead hub 101 false).cursorOf 40).lookahead = .record r → 100 < r.record.frame) ∧
    ((stale50 hub).arbiter.staleTimeout ≠ 0 ∧ (stale50 hub).writer.closeAllBar = false ∧
      (stale50 hub).tracker.transport = .play) ∧
    ((touched (stale50 hub) 40 0 101 0).touchOf 40).map Touch.lastMove = some 101 ∧
    ((touched (stale50 hub) 40 0 51 0).touchOf 40).map Touch.lastMove = some 51 ∧
    ((touched (stale50 hub) 40 0 50 0).touchOf 40).map Touch.lastMove = some 50 := by
  refine ⟨⟨by decide +kernel, _, rfl, by decide, by decide⟩, ⟨_, rfl, by decide, by decide⟩, ?_, by decide +kernel,
    by decide +kernel, by decide +kernel, by decide +kernel⟩
  intro r h
  have : (⟨9, ⟨101, .level, 0, false, 12⟩⟩ : SlotRecord) = r := by
    simpa [ahead, State.cursorOf, State.setCursor, tget, tset] using h
  subst this
  decide

/-- The state with an answer of the cursor of control 40. -/
def answering (s : State) (x : CursorState) (r : Option CurrentRecord) : State :=
  s.setCursor 40 { Cursor.reset with state := x, current := r }

/-- The path of a SAFE stem and one of a stem that is not; no answer, a LEVEL, a GAP, and a RELOCATING cursor, as the cursor
stands after the first step of the evaluation. -/
theorem test_meets_EvaluationBegins_inputs :
    (let s : State := { hub.setConfig 40 { ControlConfig.reset with stem := some 3 } with
       pass := { (hub.setConfig 40 { ControlConfig.reset with stem := some 3 }).pass with safe := tset hub.pass.safe 3 true } }
     16 ≤ (40 : ControlId).val ∧ (s.configOf 40).stem = some 3 ∧ tget s.pass.safe 3 = true) ∧
    (hub.configOf 40).stem = none ∧
    (((hub.evaluationStep 40 100).cursorOf 40).state ≠ .relocating ∧
      ((hub.evaluationStep 40 100).cursorOf 40).current = none) ∧
    (((answering hub .parked (some ⟨9, 90, .level, -150⟩)).evaluationStep 40 100).cursorOf 40).current =
      some ⟨9, 90, .level, -150⟩ ∧
    (((answering hub .fetching (some ⟨9, 90, .gap, 0⟩)).evaluationStep 40 100).cursorOf 40).current =
      some ⟨9, 90, .gap, 0⟩ ∧
    (((answering hub .relocating none).evaluationStep 40 100).cursorOf 40).state = .relocating ∧
    (hub.arbiter.staleTimeout = 0 ∧ (stale50 hub).touchOf 40 = none) := by decide +kernel

/-- The next control is 40 in mode TOUCH, touched and rolling: it would write. -/
def writer : State := touched (inMode (passAt (at_ hub .play 101) (some 39) 101) .touch) 40 0 101 (-200)

/-- The first control of a pass, and one after another, untouched. -/
theorem test_meets_EvaluationWithoutWriting :
    (let s := passAt hub none 101
     EvaluationDue s 0 101 ∧ s.segmentOf 0 = none ∧ ¬Writes s 0 101) ∧
    (let s := passAt hub (some 205) 101
     EvaluationDue s 206 101 ∧ s.segmentOf 206 = none ∧ ¬Writes s 206 101) := by
  unfold EvaluationDue Writes
  decide +kernel

theorem test_meets_PassCompletes :
    (let s := passAt hub (some 206) 101
     EvaluationDue s 207 101 ∧ s.segmentOf 207 = none ∧ ¬Writes s 207 101 ∧ s.tracker.pendingFrame = none) ∧
    ((passAt hub (some 206) 101).setPendingFrame (some 102)).tracker.pendingFrame = some 102 := by
  unfold EvaluationDue Writes
  decide +kernel

/-- The conditions met with two slots, met with one, met behind a closed segment that waits, and one short of the low-water
mark. -/
theorem test_meets_PunchInAttempt :
    (EvaluationDue writer 40 101 ∧ writer.segmentOf 40 = none ∧ Writes writer 40 101) ∧
    (let s := stocked writer [0, 1] 4094
     (s.spliceQueued 40 = false ∧ s.store.storeState = .ready ∧ 4096 ≤ s.totalFree) ∧
      s.store.freeQueue = 0 :: 1 :: [] ∧ s.closingWaiters = 0) ∧
    (let s := stocked writer [0] 4095
     4096 ≤ s.totalFree ∧ s.store.freeQueue.length < 2) ∧
    (let s := writer.joinSpliceQueue { segment := { segment with control := 41 }, closing := .waitingSlot 101 }
     s.spliceQueued 40 = false ∧ 4096 ≤ s.totalFree ∧ s.closingWaiters ≠ 0) ∧
    ¬ 4096 ≤ (stocked writer [0, 1] 4093).totalFree := by
  unfold EvaluationDue Writes
  decide +kernel

/-- The state with a full append queue. -/
def crowded (s : State) : State :=
  { s with port :=
      { requests := List.replicate 64 (.append (some 40) { slot := 7, record := formatRecord 7 }), access := none } }

/-- The evaluation of control 40 with its segment open, its live level another or the same. -/
def appender (live : Level) : State := (State.setLive (writing writer 100) 40 live)

/-- An equal level; a level to append with a slot; no slot anywhere; no slot at hand, or a closed segment before it; and no
room in the append queue. -/
theorem test_meets_AppendStep :
    (EvaluationDue (appender (-150)) 40 101 ∧ (appender (-150)).segmentOf 40 = some segment ∧
      (inputsAt (appender (-150)) 40 101).mode = ((appender (-150)).recordOf 40).previousMode) ∧
    ((inputsAt (appender (-200)) 40 101).choose.presented = segment.lastLevel ∧
      (inputsAt (appender (-200)) 40 101).choose.glideEnded = false) ∧
    ((inputsAt (appender (-150)) 40 101).choose.presented ≠ segment.lastLevel ∧
      (inputsAt (appender (-150)) 40 101).choose.glideEnded = false ∧
      (stocked (appender (-150)) [0] 0).store.freeQueue = 0 :: [] ∧ (appender (-150)).closingWaiters = 0 ∧
      (appender (-150)).appendQueue.length < 64) ∧
    (stocked (appender (-150)) [] 0).totalFree = 0 ∧
    ((stocked (appender (-150)) [] 1).totalFree ≠ 0 ∧ (stocked (appender (-150)) [] 1).store.freeQueue = []) ∧
    (closed (appender (-150)) (.waitingSlot 101)).closingWaiters ≠ 0 ∧
    (let s := crowded (appender (-150))
     64 ≤ s.appendQueue.length ∧ s.store.freeQueue ≠ [] ∧ s.closingWaiters = 0) := by
  unfold EvaluationDue
  decide +kernel

/-- The evaluation of control 40 at the last step of its glide, with its segment open. -/
def glidingTo (live : Level) : State :=
  let s := writing (inMode (passAt (at_ hub .play 101) (some 39) 101) .touch) 100
  State.setLive (s.setRecord 40 { s.recordOf 40 with previousHeld := false, glide := some ⟨-200, 0, 1, 1⟩ }) 40 live

/-- A mode transition that does not write and one that does; and the last step of a glide at the level last appended, and at
another with a slot and room. -/
theorem test_meets_SegmentClosesAtItsEvaluation :
    (let s := inMode (appender (-150)) .read
     EvaluationDue s 40 101 ∧ s.segmentOf 40 = some segment ∧ (inputsAt s 40 101).mode ≠ (s.recordOf 40).previousMode ∧
      ¬Writes s 40 101) ∧
    (let s := inMode (appender (-150)) .latch
     (inputsAt s 40 101).mode ≠ (s.recordOf 40).previousMode ∧ Writes s 40 101 ∧ segment.control = 40) ∧
    (let x := inputsAt (glidingTo (-200)) 40 101
     EvaluationDue (glidingTo (-200)) 40 101 ∧ x.mode = ((glidingTo (-200)).recordOf 40).previousMode ∧
      x.choose.glideEnded = true ∧ x.choose.presented = segment.lastLevel) ∧
    (let x := inputsAt (glidingTo (-150)) 40 101
     x.choose.glideEnded = true ∧ x.choose.presented ≠ segment.lastLevel ∧
      (glidingTo (-150)).store.freeQueue = 0 :: [1, 2, 3, 4, 5] ∧ (glidingTo (-150)).closingWaiters = 0 ∧
      (glidingTo (-150)).appendQueue.length < 64) := by
  unfold EvaluationDue Writes
  decide +kernel

/-- No evaluation; one released from its wait; one still waiting for room, for a slot, for the second slot of a punch-in, or
behind a closed segment; an append with its slot and no room, one with its room and no slot, with slots in record memory and
with none; one that can go on; and a punch-in that can, and a late one. -/
theorem test_meets_EvaluationResumes :
    hub.pass.run.underWay = none ∧
    (let s := waiting hub none .finish
     s.pass.run.wait = none ∧ s.pass.run.underWay.map Evaluation.todo = some .finish) ∧
    (let s := waiting (crowded hub) (some .appendRoom) .append
     s.pass.run.wait = some .appendRoom ∧ 64 ≤ s.appendQueue.length) ∧
    (let s := waiting (stocked hub [] 9) (some .freeSlot) .append
     s.pass.run.wait = some .freeSlot ∧ s.store.freeQueue = []) ∧
    (let s := waiting (stocked hub [0] 9) (some .freeSlot) .punchIn
     s.pass.run.wait = some .freeSlot ∧ s.store.freeQueue.length < 2) ∧
    (waiting (closed hub (.waitingSlot 101)) (some .freeSlot) .append).closingWaiters ≠ 0 ∧
    (let s := waiting (crowded (writing hub 100)) (some .freeSlot) .append
     s.segmentOf 40 = some segment ∧ (-150 : Level) ≠ segment.lastLevel ∧ s.store.freeQueue ≠ [] ∧ s.closingWaiters = 0 ∧
      64 ≤ s.appendQueue.length) ∧
    (let s := waiting (writing (stocked hub [] 9) 100) (some .appendRoom) .append
     s.pass.run.wait = some .appendRoom ∧ s.appendQueue.length < 64 ∧ s.totalFree ≠ 0 ∧ s.store.freeQueue = []) ∧
    (let s := waiting (writing (stocked hub [] 0) 100) (some .appendRoom) .append
     s.pass.run.wait = some .appendRoom ∧ s.appendQueue.length < 64 ∧ s.totalFree = 0) ∧
    (let s := waiting (writing (stocked hub [0] 0) 100) (some .freeSlot) .append
     s.pass.run.wait ≠ none ∧ s.segmentOf 40 = some segment ∧ s.store.freeQueue = 0 :: [] ∧ s.closingWaiters = 0 ∧
      s.appendQueue.length < 64) ∧
    (let s := waiting (stocked hub [0, 1] 4094) (some .freeSlot) .punchIn
     s.segmentOf 40 = none ∧ s.spliceQueued 40 = false ∧ s.store.storeState = .ready ∧ 4096 ≤ s.totalFree ∧
      s.store.freeQueue = 0 :: 1 :: [] ∧ s.closingWaiters = 0) ∧
    ¬ 4096 ≤ (waiting (stocked hub [0, 1] 4093) (some .freeSlot) .punchIn).totalFree := by decide +kernel

/-- A closed segment that waits for its slot, with a slot; no slot; and none that waits. -/
theorem test_meets_DeferredClosingWorkDone :
    ((closed hub (.waitingSlot 101)).store.spliceQueue = [] ++ { segment := segment, closing := .waitingSlot 101 } :: [] ∧
      (closed hub (.waitingSlot 101)).store.freeQueue = 0 :: [1, 2, 3, 4, 5]) ∧
    (stocked hub [] 9).store.freeQueue = [] ∧
    (∀ e ∈ (closed hub .writing).store.spliceQueue, ∀ k, e.closing ≠ .waitingSlot k) := by
  refine ⟨by decide +kernel, by decide +kernel, ?_⟩
  have : (closed hub .writing).store.spliceQueue = [{ segment := segment, closing := .writing }] := by decide +kernel
  rw [this]
  simp

/-! ### Record memory, lists and cursors -/

/-- An access in progress; nothing presented; a closing write presented after a fetch. -/
theorem test_meets_GrantChooses :
    (accessing hub (.fetch 40 9)).port.access ≠ none ∧ hub.presented = [] ∧
    (let s := requesting (requesting hub (.fetch 40 9)) (.closing none { slot := 7, record := formatRecord 7 })
     s.port.access = none ∧
     s.presented = [.fetch 40 9] ++ .closing none { slot := 7, record := formatRecord 7 } :: [] ∧
     (MemRequest.closing none { slot := 7, record := formatRecord 7 }).priority < (MemRequest.fetch 40 9).priority) := by
  decide +kernel

/-- Each access in progress that writes a slot, in canonical memory. -/
theorem test_meets_SlotAccessesComplete_writes :
    (let w : SlotRecord := { slot := 1048575, record := formatRecord 7 }
     (accessing hub (.append none w)).port.access = some (.append none w) ∧
     (accessing hub (.chainReturn .list w)).port.access = some (.chainReturn .list w) ∧
     (accessing hub (.loadWrite w)).port.access = some (.loadWrite w) ∧
     (accessing hub (.closing none w)).port.access = some (.closing none w) ∧
     (accessing hub (.closing (some 40) w)).port.access = some (.closing (some 40) w) ∧
     MemoryCanonical (accessing hub (.closing (some 40) w))) := by
  unfold MemoryCanonical
  decide +kernel

/-- FORMAT's last slot and the one before it; a refill read that stands and one that does not. -/
theorem test_meets_SlotAccessesComplete_format :
    (accessing State.reset (.format 1048574)).port.access = some (.format 1048574#20) ∧ (1048574#20) ≠ 1048575#20 ∧
    (accessing State.reset (.format 1048575)).port.access = some (.format 1048575#20) ∧
    MemoryCanonical (accessing State.reset (.format 1048575)) ∧
    (let s := (accessing hub (.refill 6)).setRefill (.reading 6 true)
     s.port.access = some (.refill 6) ∧ s.store.refill = .reading 6 true) ∧
    ((accessing hub (.refill 6)).setRefill (.reading 6 false)).store.refill = .reading 6 false := by
  unfold MemoryCanonical
  decide +kernel

/-- The state with the relocate walk of control 40 in flight for a target of 100. -/
def walking (s : State) : State :=
  (s.setCursor 40 { Cursor.reset with state := .relocating, target := some 100 }).setWalk
    (some { control := 40, candidate := none })

/-- A fetch that completes at a FETCHING cursor and at another; the lowest relocating control with a list, and its fetch in
flight; walk reads of a record above the target, at it with LAST and without; and a dropped walk read. -/
theorem test_meets_CursorReadsComplete :
    (let s := accessing (hub.setCursor 40 { Cursor.reset with state := .fetching, lookahead := .awaited 9 }) (.fetch 40 9)
     s.port.access = some (.fetch 40 9) ∧ (s.cursorOf 40).state = .fetching) ∧
    ((accessing hub (.fetch 40 9)).cursorOf 40).state ≠ .fetching ∧
    (let s := (listed hub).relocateOne 40
     s.cursors.walk = none ∧ s.port.access.toList ++ s.port.requests = [] ∧ (s.cursorOf 40).state = .relocating ∧
      (∀ d : ControlId, d < 40 → (s.cursorOf d).state ≠ .relocating) ∧ (s.listOf 40).count ≠ 0) ∧
    (let s := accessing ((listed hub).relocateOne 40) (.fetch 40 9)
     MemRequest.fetch 40 9 ∈ s.port.access.toList ++ s.port.requests) ∧
    (let s := accessing (walking (holding hub 9 101 false)) (.walkRead 9 true)
     s.port.access = some (.walkRead 9 true) ∧ (s.cursorOf 40).target = some 100 ∧
      100 < (Memory.readSlot s.memory 9).frame) ∧
    (let s := accessing (walking (holding hub 9 100 true)) (.walkRead 9 true)
     (Memory.readSlot s.memory 9).frame ≤ 100 ∧ (Memory.readSlot s.memory 9).last = true) ∧
    (let s := accessing (walking (holding hub 9 100 false)) (.walkRead 9 true)
     (Memory.readSlot s.memory 9).frame ≤ 100 ∧ (Memory.readSlot s.memory 9).last = false) ∧
    (accessing hub (.walkRead 9 false)).port.access = some (.walkRead 9 false) := by decide +kernel

/-- A ready head segment of a listed and of an unlisted control, one whose closing work is not complete, a splice in
progress, a fetch, a walk and a list read of the control in flight, and an empty queue. -/
theorem test_meets_SpliceStarts :
    (let s := listed (closed hub .complete)
     s.store.spliceQueue = { segment := segment, closing := .complete } :: [] ∧ s.store.splice = .waiting ∧
      s.port.access.toList ++ s.port.requests = [] ∧ s.cursors.walk = none ∧ s.editor.read = none ∧
      (s.listOf segment.control).count ≠ 0) ∧
    ((closed hub .complete).listOf segment.control).count = 0 ∧
    (closed hub .writing).store.spliceQueue = { segment := segment, closing := .writing } :: [] ∧
    ((closed (listed hub) .complete).setSplice (.walking SpliceAnswer.empty)).store.splice =
      .walking SpliceAnswer.empty ∧
    (let s := accessing (closed (listed hub) .complete) (.fetch 40 9)
     MemRequest.fetch segment.control 9 ∈ s.port.access.toList ++ s.port.requests) ∧
    (walking (closed (listed hub) .complete)).cursors.walk = some { control := segment.control, candidate := none } ∧
    ((reading (closed (listed hub) .complete) none false).editor.read.map ListRead.control = some segment.control) ∧
    hub.store.spliceQueue = [] := by decide +kernel

/-- The state with the splice of control 40 walking, a record of a frame at slot 9 being read. -/
def splicing (f : Frame) (last : Bool) : State :=
  accessing ((closed (listed (holding hub 9 f last)) .complete).setSplice (.walking SpliceAnswer.empty)) (.spliceRead 9)

/-- The in frame and the out frame are 100: a record below, in the run, and above; with LAST and without. -/
theorem test_meets_SpliceWalkReads :
    ([(99, false), (100, false), (101, false), (99, true)].all (fun x =>
      decide ((splicing x.1 x.2).port.access = some (.spliceRead 9)) &&
      decide ((splicing x.1 x.2).store.splice = .walking SpliceAnswer.empty) &&
      decide ((splicing x.1 x.2).store.spliceQueue = { segment := segment, closing := .complete } :: []) &&
      decide ((Memory.readSlot (splicing x.1 x.2).memory 9).frame = x.1) &&
      decide ((Memory.readSlot (splicing x.1 x.2).memory 9).last = x.2))) = true ∧
    (SpliceAnswer.empty.n = none ∧ segment.outFrame < 16777215) ∧
    (∃ n : SlotRecord, some n = some (levelAt 9 101 0 12) ∧ n.record.frame = segment.outFrame + 1) := by
  refine ⟨by decide +kernel, by decide, _, rfl, by decide⟩

/-- The state with the splice of control 40 writing, one splice write completing. -/
def spliceWriting (a : SpliceAnswer) : State :=
  accessing ((closed (listed hub) .complete).setSplice (.writing a)) (.spliceWrite { slot := 7, record := formatRecord 7 })

/-- A write with another to come, the last one, an answer that uses the reserve slot, and two that do not: N at out + 1,
and an out frame at the last frame. -/
theorem test_meets_SpliceWriteCompletes :
    (spliceWriting SpliceAnswer.empty).port.access = some (.spliceWrite { slot := 7, record := formatRecord 7 }) ∧
    (spliceWriting SpliceAnswer.empty).store.splice = .writing SpliceAnswer.empty ∧
    (spliceWriting SpliceAnswer.empty).store.spliceQueue = { segment := segment, closing := .complete } :: [] ∧
    (spliceWriting SpliceAnswer.empty).port.requests = [] ∧
    MemRequest.spliceWrite (levelAt 8 0 0 0) ∈
      (requesting (spliceWriting SpliceAnswer.empty) (.spliceWrite (levelAt 8 0 0 0))).port.requests ∧
    SpliceAnswer.empty.usesReserve segment = true ∧
    ({ SpliceAnswer.empty with n := some (levelAt 9 101 0 12) } : SpliceAnswer).usesReserve segment = false ∧
    SpliceAnswer.empty.usesReserve { segment with outFrame := 16777215 } = false ∧
    MemoryCanonical (spliceWriting SpliceAnswer.empty) := by
  unfold MemoryCanonical
  decide +kernel

theorem test_meets_ChainsReturn :
    (hub.setRefill (.reading 6 true)).store.refill = .reading 6 true ∧ hub.segmentOf 40 = none ∧
    (writing hub 100).segmentOf 40 = some segment := by decide +kernel

/-- A load whose LIST END is not taken, one with a write, a fetch or a walk outstanding. -/
theorem test_meets_LoadAndClearEvents_waiting :
    (∃ l, (loading hub 1 1 false).store.load = some l ∧ l.endTaken = false) ∧
    ((loading hub 1 1 true).store.load ≠ none ∧
      MemRequest.loadWrite (levelAt 7 100 0 0) ∈ (requesting (loading hub 1 1 true) (.loadWrite (levelAt 7 100 0 0))).port.requests) ∧
    MemRequest.fetch 40 9 ∈ (requesting (loading hub 1 1 true) (.fetch 40 9)).port.requests ∧
    (walking (loading hub 1 1 true)).cursors.walk = some { control := 40, candidate := none } := by
  refine ⟨⟨_, rfl, rfl⟩, by decide +kernel, by decide +kernel, by decide +kernel⟩

/-- A finished load of a listed and of an unlisted control; a waiting record with a slot and without; a clear with nothing
in flight, with a fetch, with a walk; and none of these. -/
theorem test_meets_LoadAndClearEvents_events :
    (let s := loading (listed hub) 1 1 true
     (∃ l, s.store.load = some l ∧ l.endTaken = true ∧ l.control = 40 ∧ l.received ≠ 0) ∧
      s.port.access.toList ++ s.port.requests = [] ∧ s.cursors.walk = none ∧ (s.listOf 40).count ≠ 0) ∧
    ((loading hub 1 1 true).listOf 40).count = 0 ∧ hub.store.load = none ∧
    (let s := { stocked (loading hub 1 2 false) [0] 0 with editor :=
       { hub.editor with waitingRecord := some ⟨101, 1, 0⟩ } }
     s.editor.waitingRecord = some ⟨101, 1, 0⟩ ∧ s.store.load ≠ none ∧ s.store.freeQueue = 0 :: [] ∧
      s.closingWaiters = 0 ∧ s.pass.run.wait ≠ some .freeSlot) ∧
    ((stocked hub [] 9).store.freeQueue = [] ∧ (closed hub (.waitingSlot 101)).closingWaiters ≠ 0 ∧
      (waiting hub (some .freeSlot) .append).pass.run.wait = some .freeSlot) ∧
    hub.editor.waitingRecord = none ∧
    (let s := clearing (listed hub)
     s.editor.clear = some 40 ∧ (s.listOf 40).count ≠ 0 ∧ s.port.access.toList ++ s.port.requests = []) ∧
    (let s := accessing (clearing (listed hub)) (.fetch 40 9)
     MemRequest.fetch 40 9 ∈ s.port.access.toList ++ s.port.requests) ∧
    (clearing (walking (listed hub))).cursors.walk = some { control := 40, candidate := none } ∧
    hub.editor.clear = none := by
  refine ⟨⟨⟨_, rfl, by decide, by decide, by decide⟩, by decide +kernel⟩, by decide +kernel, by decide +kernel,
    by decide +kernel, by decide +kernel, by decide +kernel, by decide +kernel, by decide +kernel, by decide +kernel,
    by decide +kernel⟩

/-- A list read before its first record with a list and without, and after one; records above the range, at its ends with
LAST and without, and below it with LAST and without; and a dropped read. -/
theorem test_meets_ListReadStreams :
    (let s := reading (listed hub) none false
     (∃ r, s.editor.read = some r ∧ r.atPort = false ∧ r.next = none) ∧ s.editor.replies.length < 16 ∧
      s.port.access.toList ++ s.port.requests = [] ∧ s.store.splice = .idle ∧ (s.listOf 40).count ≠ 0) ∧
    ((reading hub none false).listOf 40).count = 0 ∧
    (∃ r, (reading hub (some 9) false).editor.read = some r ∧ r.next = some 9) ∧ hub.editor.read = none ∧
    ([(201, false), (100, false), (200, true), (99, false), (99, true)].all (fun x =>
      let s := accessing (reading (holding hub 9 x.1 x.2) (some 9) true) (.listRead 9 true)
      decide (s.port.access = some (.listRead 9 true)) && decide ((Memory.readSlot s.memory 9).frame = x.1) &&
        decide ((Memory.readSlot s.memory 9).last = x.2))) = true ∧
    (accessing hub (.listRead 9 false)).port.access = some (.listRead 9 false) := by
  refine ⟨⟨⟨_, rfl, by decide, by decide⟩, by decide +kernel⟩, by decide +kernel, ⟨_, rfl, by decide⟩, by decide +kernel,
    by decide +kernel, by decide +kernel⟩

/-! ### The engine port and the links -/

/-- A published table, none; a latched table with and without a newer one, none; indexes 191 and 192. -/
theorem test_meets_EngineRequestsTaken :
    hub.engine.published = some 0 ∧ ({ hub.engine with published := none } : EnginePort).published = none ∧
    hub.engine.reading = none ∧
    (let x := hub.engine.blockStart
     x.reading = some 0 ∧ x.published = none ∧ ({ x with published := some 1 } : EnginePort).published = some 1) ∧
    ((191#8).toNat = (191 : Fin 192).val ∧ (hub.entryOf 0 191).coefficient < 16777216) ∧ 192 ≤ (192#8).toNat := by
  decide +kernel

/-- The bytes of a frame from a seat. -/
def fromSeat (n : Nat) (kind : Byte) (payload : List Byte) : List Byte := frameBytes n kind payload

/-- A frame too short; IDLE; a seat not mapped; a kind no port takes; TOUCH with room (the 24th message), and without; at a
port that is UP and at one that is DOWN; a partial frame that a start of frame ends, symbols before one with no frame in
progress, and a frame in progress. -/
theorem test_meets_SurfaceFrameReceived :
    parseFrame surfaceLength [0x01#8] = none ∧
    parseFrame surfaceLength (fromSeat 1 kindIdle []) = some { seat := 1, kind := kindIdle, payload := [] } ∧
    parseFrame surfaceLength (fromSeat 9 kindTouch [5#8]) = some { seat := 9, kind := kindTouch, payload := [5#8] } ∧
    parseFrame surfaceLength (fromSeat 1 0x41#8 []) = some { seat := 1, kind := 0x41#8, payload := [] } ∧
    (let s := hub.setSurface 0 { hub.surfaceOf 0 with inbound := List.replicate 23 { seat := 1, body := .hello } }
     1 = (0 : SeatId).val + 1 ∧ (s.seatOf 0).link = some 0 ∧ (s.surfaceOf 0).inbound.length < 32 ∧
      24 ≤ (s.surfaceOf 0).inbound.length + 1) ∧
    32 ≤ ((hub.setSurface 0 { hub.surfaceOf 0 with
      inbound := List.replicate 32 { seat := 1, body := .hello } }).surfaceOf 0).inbound.length ∧
    (hub.surfaceOf 0).link = .up ∧ (State.reset.surfaceOf 0).link = .down ∧ (hub.surfaceOf 0).receiving = none ∧
    ((∀ y ∈ [LineSymbol.startOfFrame, .data 1#8], y ≠ .endOfFrame) ∧
      ∀ y ∈ [LineSymbol.data 1#8, .endOfFrame], y ≠ .startOfFrame) ∧
    ((hub.setReceiving 0 (some [1#8])).surfaceOf 0).receiving = some [1#8] := by decide +kernel

/-- The same at the editor port, where every frame carries seat 0. -/
theorem test_meets_EditorFrameReceived :
    parseFrame editorLength [0x01#8] = none ∧
    parseFrame editorLength (fromSeat 0 kindIdle []) = some { seat := 0, kind := kindIdle, payload := [] } ∧
    parseFrame editorLength (fromSeat 1 kindStatus []) = some { seat := 1, kind := kindStatus, payload := [] } ∧
    parseFrame editorLength (fromSeat 0 kindTouch [5#8]) = some { seat := 0, kind := kindTouch, payload := [5#8] } ∧
    parseFrame editorLength (fromSeat 0 kindStatus []) = some { seat := 0, kind := kindStatus, payload := [] } ∧
    hub.editor.inbound.length < 32 ∧
    32 ≤ ({ hub.editor with inbound := List.replicate 32 .status } : EditorPort).inbound.length ∧
    hub.editor.link = .up ∧ State.reset.editor.link = .down ∧ hub.editor.receiving = none ∧
    ({ hub.editor with receiving := some [1#8] } : EditorPort).receiving = some [1#8] := by decide +kernel

theorem test_meets_SilenceExpires :
    (hub.surfaceOf 0).silenceTimer = some 120 ∧ (State.reset.surfaceOf 0).silenceTimer = none ∧
    hub.editor.silenceTimer = some 120 ∧ State.reset.editor.silenceTimer = none ∧
    (∃ l h, (loading hub 1 2 false).store.load = some l ∧ l.first = some 7 ∧ l.tail = some h) := by
  refine ⟨by decide +kernel, by decide +kernel, by decide +kernel, by decide +kernel, _, _, rfl, rfl, rfl⟩

/-- A reply; a notice; a transport notice; a follow entry above the follow position, and one at it; a port that is DOWN, busy,
or with nothing to send; and at the editor port a reply past a reserved place, FLAGS, and a transport notice. -/
theorem test_meets_ArbiterChooses :
    ((hub.surfaceOf 0).link = .up ∧ (hub.surfaceOf 0).sending = none ∧ (hub.surfaceOf 0).farHold = false) ∧
    ({ hub.surfaceOf 0 with replies := [{ seat := 1, message := .grant 40 }] } : SurfacePort).replies =
      { seat := 1, message := .grant 40 } :: [] ∧
    (let x := (hub.postNotice 0 40 .stale).surfaceOf 0
     x.replies = [] ∧ tget x.notices 40 ≠ none ∧ (∀ d : ControlId, d < 40 → tget x.notices d = none)) ∧
    (let x := (hub.postTransportTo 0).surfaceOf 0
     x.replies = [] ∧ (∀ d, tget x.notices d = none) ∧ x.transportNotice ≠ none) ∧
    (let x := (hub.feedFollowAt 5 0 true 0).surfaceOf 0
     x.transportNotice = none ∧ tget x.follow 5 ≠ none ∧ (∀ d : ControlId, d < 5 → tget x.follow d = none) ∧
      ∀ d : ControlId, 5 < d → tget x.follow d = none) ∧
    (State.reset.surfaceOf 0).link = .down ∧
    ({ hub.surfaceOf 0 with sending := some ⟨.reply, []⟩ } : SurfacePort).sending ≠ none ∧
    ((hub.surfaceOf 0).replies = [] ∧ (hub.surfaceOf 0).transportNotice = none ∧
      ∀ d, tget (hub.surfaceOf 0).follow d = none) ∧
    (hub.editor.link = .up ∧ hub.editor.sending = none ∧ hub.editor.farHold = false ∧ (∀ r ∈ hub.editor.replies, r = .reserved .load)) ∧
    ([ReplyPlace.reserved .load, .held (.done 0)] = [ReplyPlace.reserved .load] ++ .held (.done 0) :: []) ∧
    ({ hub.editor with flagNotice := some false } : EditorPort).flagNotice ≠ none ∧
    (hub.postTransportToEditor.editor.flagNotice = none ∧ hub.postTransportToEditor.editor.transportNotice ≠ none) ∧
    State.reset.editor.link = .down := by decide +kernel

/-- Each source of a frame sent by a surface port and by the editor port. -/
theorem test_meets_FramesSent :
    ([TxSource.reply, .notice 40, .transport, .follow 40 0, .gone].all (fun y =>
      decide (({ hub.surfaceOf 0 with sending := some ⟨y, []⟩ } : SurfacePort).sending = some ⟨y, []⟩))) = true ∧
    tget ((hub.postNotice 0 40 .stale).surfaceOf 0).notices 40 ≠ none ∧
    ((hub.postTransportTo 0).surfaceOf 0).transportNotice ≠ none ∧ (hub.surfaceOf 0).sending = none ∧
    ([ReplyPlace.reserved .load, .held (.done 0)] = [ReplyPlace.reserved .load] ++ .held (.done 0) :: []) ∧
    ({ hub.editor with flagNotice := some true } : EditorPort).flagNotice = some true ∧
    hub.postTransportToEditor.editor.transportNotice ≠ none ∧ hub.editor.sending = none := by decide +kernel

/-- A frame under way at a surface port and at the editor port, through a block start and through the port's silence. -/
theorem test_meets_FrameUnderWayKept :
    (let f : Transmission := ⟨.reply, [1#8]⟩
     let s : State := { hub.setSurface 0 { hub.surfaceOf 0 with sending := some f } with
       editor := { hub.editor with sending := some f } }
     (s.surfaceOf 0).sending = some f ∧ s.editor.sending = some f ∧
      ([Instr.blockStart, .silenceExpiry 0, .editorSilenceExpiry].all (fun c =>
        c != .surfaceFrameSent 0 && c != .editorFrameSent && c != .powerOnReset && (next? (exec c s)).isSome)) = true) := by
  decide +kernel

/-! ### Editor commands -/

/-- The command waits at the editor port of the hub. -/
theorem test_told (c : EditorCommand) : HandedToPart (told hub c) c :=
  ⟨(by decide +kernel : hub.editor.replies.length < 16), (by decide +kernel : hub.editor.waitingRecord = none),
    (by decide +kernel : hub.editor.clear = none), rfl⟩

/-- SET CONTROL with every field at its highest value, of a path and of a master; with a field past it; of control 208;
SET STEM of a legal and of an illegal stem. -/
theorem test_meets_ConfigurationCommandsTaken :
    (let f : SetControlFields :=
      { control := 207, presence := 0x1F, mode := 4, stem := 11, groupA := 15, groupB := 255, glide := 63 }
     f.control.toNat = (207 : ControlId).val ∧ f.mode.toNat ≤ 4 ∧ f.glide.toNat ≤ 63 ∧ f.stem.toNat ≤ 11 ∧
      f.groupA.toNat ≤ 15 ∧ f.groupB.toNat = 255) ∧
    (let f : SetControlFields :=
      { control := 15, presence := 0x02, mode := 0, stem := 255, groupA := 0, groupB := 0, glide := 0 }
     f.control.toNat < 16 ∧ f.hasStem = true ∧ f.stem.toNat = 255 ∧ f.hasGroupA = false) ∧
    (let f : SetControlFields :=
      { control := 16, presence := 0x10, mode := 0, stem := 0, groupA := 0, groupB := 0, glide := 64 }
     f.hasGlide = true ∧ ¬f.glide.toNat ≤ 63) ∧
    207 < (208#8).toNat ∧ ((11#8).toNat = (11 : StemId).val ∧ (1#8).toNat ≤ 1) ∧ 11 < (12#8).toNat ∧ 1 < (2#8).toNat := by
  decide

/-- A change of rank, a remap, a port with three other seats, an illegal rank; SET HUB rolling, illegal and legal. -/
theorem test_meets_SeatAndHubSettingsTaken :
    ((hub.seatOf 0).link = some 0 ∧ (hub.seatOf 2).link ≠ some 0) ∧
    (let s := ((hub.setSeat 1 { Seat.reset with link := some 0 }).setSeat 2 { Seat.reset with link := some 0 })
     3 ≤ (List.finRange 8).countP (fun j => decide (j ≠ (7 : SeatId)) && (s.seatOf j).link == some 0)) ∧
    ((8#8).toNat = (7 : SeatId).val + 1 ∧ ¬(4#8).toNat ≤ 3) ∧
    (at_ hub .play 0).tracker.transport = .play ∧ hub.tracker.transport ≠ .play ∧ hub.tracker.transport ≠ .freewheel ∧
    ((30#8).toNat = 30 ∧ 1 ≤ (8#8).toNat ∧ (8#8).toNat ≤ 8 ∧ (30#8).toNat ≤ 30 ∧ 4095 ≤ 4095) := by decide +kernel

/-- LIST BEGIN: control 208, count 0, a FORMATTING store, a rolling transport, a busy list, and none of these. LIST RECORD:
no load, a load past LIST END, an illegal kind, one record too many, a frame out of order, an empty pool, a slot, a wait.
LIST END: records missing, and all there. -/
theorem test_meets_ListLoadCommandsTaken :
    (207 < (208#8).toNat ∧ State.reset.store.storeState ≠ .ready ∧ hub.store.storeState = .ready ∧
      (at_ hub .chase 0).tracker.transport ≠ .stopped ∧ hub.tracker.transport = .stopped ∧
      (closed hub .complete).spliceQueued 40 = true ∧ hub.spliceQueued 40 = false) ∧
    (∃ l, (loading hub 1 1 true).store.load = some l ∧ l.endTaken = true) ∧
    (¬(2#8).toNat ≤ 1 ∧ (1#8).toNat ≤ 1) ∧
    (∃ l, (loading hub 1 1 false).store.load = some l ∧ l.endTaken = false ∧ l.received = l.expected ∧ l.tail ≠ none) ∧
    (∃ l, (loading hub 1 2 false).store.load = some l ∧ l.endTaken = false ∧ l.received ≠ l.expected ∧ 0 < l.received ∧
      100 ≤ l.lastFrame ∧ l.lastFrame < 101) ∧
    (∃ l, (loading hub 0 1 false).store.load = some l ∧ l.received = 0 ∧ l.received ≠ l.expected) ∧
    (stocked hub [] 0).totalFree = 0 ∧
    (let s := loading hub 0 1 false
     s.store.freeQueue = 0 :: [1, 2, 3, 4, 5] ∧ s.closingWaiters = 0 ∧ s.pass.run.wait ≠ some .freeSlot) ∧
    (let s := stocked (loading hub 0 1 false) [] 9
     s.totalFree ≠ 0 ∧ s.store.freeQueue = []) ∧
    (let s := waiting (closed (loading hub 0 1 false) (.waitingSlot 101)) (some .freeSlot) .append
     s.totalFree ≠ 0 ∧ s.closingWaiters ≠ 0 ∧ s.pass.run.wait = some .freeSlot) := by
  refine ⟨by decide +kernel, ⟨_, rfl, by decide⟩, by decide, ⟨_, rfl, by decide, by decide, by decide⟩,
    ⟨_, rfl, by decide, by decide, by decide, by decide, by decide⟩, ⟨_, rfl, by decide, by decide⟩, by decide +kernel,
    by decide +kernel, by decide +kernel, by decide +kernel⟩

/-- READ LIST: an illegal range, rolling, busy, a list, and an empty list. CLEAR LIST: not ready, rolling, busy, an empty
list, a list, and a list whose fetch is in flight. -/
theorem test_meets_ReadAndClearListTaken :
    (¬(101 ≤ 16777215 ∧ 100 ≤ 16777215 ∧ 101 ≤ 100) ∧ (16777215 ≤ 16777215 ∧ 0 ≤ 16777215)) ∧
    ((reading hub none false).editor.read ≠ none ∧ hub.editor.read = none ∧ hub.store.load = none) ∧
    ((listed hub).listOf 40).count ≠ 0 ∧
    ((hub.listOf 40).count = 0 ∧ hub.spliceRunning 40 = false ∧ ReplyPlace.reserved .read ∉ hub.editor.replies) ∧
    (State.reset.store.storeState ≠ .ready ∧ hub.store.storeState = .ready ∧ hub.tracker.transport = .stopped ∧
      (at_ hub .play 0).tracker.transport ≠ .stopped ∧ hub.spliceQueued 40 = false) ∧
    (accessing (listed hub) (.fetch 40 9)).fetchInFlight 40 = true ∧
    ((listed hub).fetchInFlight 40 = false ∧ (listed hub).cursors.walk = none) := by decide +kernel

/-- MIX RESET with and without a load in flight, on a cursor that is PARKED and one that is not, and with a segment open. -/
theorem test_meets_MixResetTaken :
    HandedToPart (told hub .mixReset) .mixReset ∧ HandedToPart (told (loading hub 1 2 false) .mixReset) .mixReset ∧
    (loading hub 1 2 false).store.load ≠ none ∧ hub.store.load = none ∧ (hub.cursorOf 40).state ≠ .parked ∧
    ((hub.setCursor 40 { Cursor.reset with state := .parked }).cursorOf 40).state = .parked ∧
    (writing hub 100).segmentOf 40 = some segment := by
  refine ⟨test_told _, ⟨by decide +kernel, by decide +kernel, by decide +kernel, rfl⟩, by decide +kernel, by decide +kernel,
    by decide +kernel, by decide +kernel, by decide +kernel⟩

theorem test_meets_LinkResetTaken :
    (3#8).toNat = (3 : SurfaceId).val ∧ (4#8).toNat = 4 ∧ 4 < (5#8).toNat ∧
    HandedToPart (told hub (.linkReset 3)) (.linkReset 3) ∧
    (HandedToPart (told (loading hub 1 2 false) (.linkReset 4)) (.linkReset 4) ∧
      (loading hub 1 2 false).store.load ≠ none ∧ hub.store.load = none) :=
  ⟨by decide, by decide, by decide, test_told _, ⟨by decide +kernel, by decide +kernel, by decide +kernel, rfl⟩,
    by decide +kernel, by decide +kernel⟩

/-! ### Formats and invariants -/

/-- Seat 15, the longest payload, a kind the port knows and one it does not; a record at the ends of its fields. -/
theorem test_meets_Formats :
    (15 < 16 ∧ (List.replicate 255 (0#8)).length < 256 ∧ surfaceLength 0x41#8 = none ∧
      surfaceLength kindMove = some ([1#8, 2#8, 3#8] : List Byte).length) ∧
    (parseFrame surfaceLength (fromSeat 15 kindMove [1#8, 2#8, 3#8])).isSome = true ∧
    seatBody kindMove [31#8, 0xFF#8, 0x6A#8] = some (.move 31 (-150)) ∧
    editorCommand kindListBegin [207#8, 1#8, 0#8] = some (.listBegin 207 256) ∧
    (Memory.wf hub.memory = true ∧ (16777215 : Frame) ≤ 16777215 ∧ (-4608 : Level) ≤ -4608 ∧ (384 : Level) ≤ 384) := by
  decide +kernel

/-- Every invariant of the statements holds at reset with a command waiting, and the step answers a next state. -/
theorem test_meets_StepKeeps :
    (let s := { State.reset with pending := [.memoryGrant] }
     MemoryCanonical s ∧ RolesLegal s ∧ TrackerLegal s ∧ HeldCountsExact s ∧ (next? (step s)).isSome = true) := by
  unfold MemoryCanonical RolesLegal TrackerLegal HeldCountsExact
  decide +kernel

theorem test_meets_StepKeeps_places : SegmentsPlaced State.reset ∧ ReplyPlacesHeld State.reset := by
  unfold SegmentsPlaced ReplyPlacesHeld
  refine ⟨⟨fun c g h => ?_, by decide, by decide⟩, by decide +kernel⟩
  have none : ∀ c, State.reset.segmentOf c = none := by decide +kernel
  rw [none c] at h
  cases h

theorem test_meets_StepKeeps_ports :
    QueuesBounded State.reset ∧ DownPortsEmpty State.reset ∧ ArbitersDone State.reset ∧
    (next? (step { State.reset with pending := [.memoryGrant] })).isSome = true := by
  have h : ∀ p, State.reset.surfaceOf p = SurfacePort.reset := by decide +kernel
  have down : ∀ p, (State.reset.surfaceOf p).link ≠ .up := by decide +kernel
  refine ⟨⟨fun p => ?_, by decide, by decide, by decide, by decide, by decide⟩, fun p => ?_,
    ⟨fun p hp => absurd hp (down p), fun he => absurd he (by decide)⟩, by decide +kernel⟩
  · unfold portWithinCapacity; rw [h]; decide
  · unfold downPortEmpty; rw [h]
    exact fun _ => ⟨rfl, rfl, rfl, rfl, rfl, rfl, by decide +kernel, by intro t ht; cases ht⟩

end Sys2Proof.Tests
end

section
/-! SUPPORT. The part after power-on reset (R1): what each table holds there, that every invariant of Safety.lean holds
there, and the effect of POWER_ON_RESET. -/

namespace Sys2Proof.Machine

open Sys2Proof.Safety

namespace State

/-! ## The tables after reset -/

@[simp] theorem seatOf_reset (i : SeatId) : State.reset.seatOf i = Seat.reset := tget_replicate _ i
@[simp] theorem touchOf_reset (c : ControlId) : State.reset.touchOf c = none := tget_replicate _ c
@[simp] theorem liveOf_reset (c : ControlId) : State.reset.liveOf c = Config.off := tget_replicate _ c
@[simp] theorem configOf_reset (c : ControlId) : State.reset.configOf c = ControlConfig.reset := tget_replicate _ c
@[simp] theorem recordOf_reset (c : ControlId) : State.reset.recordOf c = EvalRecord.reset := tget_replicate _ c
@[simp] theorem safe_reset (i : StemId) : tget State.reset.pass.safe i = false := tget_replicate _ i
@[simp] theorem segmentOf_reset (c : ControlId) : State.reset.segmentOf c = none := tget_replicate _ c
@[simp] theorem listOf_reset (c : ControlId) : State.reset.listOf c = Descriptor.empty := tget_replicate _ c
@[simp] theorem cursorOf_reset (c : ControlId) : State.reset.cursorOf c = Cursor.reset := tget_replicate _ c
@[simp] theorem surfaceOf_reset (p : SurfaceId) : State.reset.surfaceOf p = SurfacePort.reset := tget_replicate _ p

@[simp] theorem entryOf_reset (b : BankId) (p : Fin 192) : State.reset.entryOf b p = Entry.reset := by
  have bank : tget State.reset.engine.banks b = Vector.replicate 192 Entry.reset := tget_replicate _ b
  rw [entryOf, bank, tget_replicate]

@[simp] theorem outstanding_reset : State.reset.outstanding = [] := rfl
@[simp] theorem appendQueue_reset : State.reset.appendQueue = [] := rfl

end State

/-! ## A surface port after reset -/

theorem SurfacePort.downPortEmpty_reset : downPortEmpty SurfacePort.reset := fun _ =>
  ⟨rfl, rfl, rfl, rfl, rfl, rfl, fun c => ⟨tget_replicate _ c, tget_replicate _ c, tget_replicate _ c⟩,
    fun _ sent => nomatch sent⟩

theorem SurfacePort.portWithinCapacity_reset : portWithinCapacity SurfacePort.reset :=
  ⟨Nat.zero_le _, Nat.zero_le _⟩

/-! ## The invariants at reset -/

namespace State

theorem memoryCanonical_reset : MemoryCanonical State.reset :=
  (Memory.wf_iff []).2 ⟨List.Pairwise.nil, fun _ listed => nomatch listed⟩

/-- Bank 0 is published, no bank has another role, and no pass is in flight. -/
theorem rolesLegal_reset : RolesLegal State.reset := by
  unfold RolesLegal
  decide

theorem trackerLegal_reset : TrackerLegal State.reset := by
  unfold TrackerLegal
  decide

theorem queuesBounded_reset : QueuesBounded State.reset := by
  refine ⟨fun p => ?ports, Nat.zero_le _, Nat.zero_le _, .inl rfl, ?appends, fun _ posted => nomatch posted⟩
  case ports =>
    rw [surfaceOf_reset]
    exact SurfacePort.portWithinCapacity_reset
  case appends => simp

/-- No control is touched, so no record names a seat. -/
theorem recordsHeldBy_reset (i : SeatId) : recordsHeldBy State.reset i = 0 := by
  simp [recordsHeldBy]

theorem heldCountsExact_reset : HeldCountsExact State.reset := fun i => by
  rw [recordsHeldBy_reset, seatOf_reset]
  rfl

theorem downPortsEmpty_reset : DownPortsEmpty State.reset := fun p => by
  rw [surfaceOf_reset]
  exact SurfacePort.downPortEmpty_reset

theorem segmentsPlaced_reset : SegmentsPlaced State.reset := by
  refine ⟨fun c g standing => ?_, List.nodup_nil, Nat.zero_le _⟩
  rw [segmentOf_reset] at standing
  cases standing

/-- No place is taken and no operation is in flight. -/
theorem replyPlacesHeld_reset : ReplyPlacesHeld State.reset :=
  ⟨Nat.zero_le _, rfl, rfl, rfl, rfl, rfl⟩

/-- Every port is DOWN, so none could send. -/
theorem arbitersDone_reset : ArbitersDone State.reset := by
  refine ⟨fun p => ?_, fun up => nomatch up⟩
  rw [surfaceOf_reset]
  exact fun up => nomatch up

/-! ## POWER_ON_RESET -/

theorem exec_powerOnReset (s : State) : exec .powerOnReset s = .next s.powerOnReset := rfl

/-- The reset input leaves the state of `State.reset` but for what it does not reach and the frame timer, which is set from
the present time (R1, R27; log 5). -/
theorem powerOnReset_eq (s : State) : s.powerOnReset = { State.reset with
    pending := s.pending
    now := s.now
    freeDraws := s.freeDraws
    memory := s.memory
    tracker := { State.reset.tracker with frameTimer := s.now + 1200 / 24 }
    surface := tbuild (fun p => { State.reset.surfaceOf p with farHold := (s.surfaceOf p).farHold })
    editor := { State.reset.editor with farHold := s.editor.farHold } } := by
  simp only [surfaceOf_reset]
  rfl

end State

/-- Settles O2: block by block from the tables after reset, then the invariants at reset, then the reset command. -/
theorem resetState : Obligations.ResetState := by
  refine ⟨⟨?tracker, ⟨rfl, State.seatOf_reset⟩, fun c => ?control, State.safe_reset, ⟨rfl, rfl, rfl⟩, ?store,
    ⟨rfl, rfl, rfl, rfl, rfl, State.entryOf_reset⟩, fun p => ?surface, rfl, ⟨rfl, rfl, rfl⟩⟩, ?invariants, fun s => ?command⟩
  case tracker => exact ⟨rfl, rfl, rfl, rfl, rfl, rfl, rfl, rfl, rfl, rfl, rfl⟩
  case control =>
    exact ⟨State.touchOf_reset c, State.liveOf_reset c, State.segmentOf_reset c, State.configOf_reset c,
      State.recordOf_reset c, State.listOf_reset c, State.cursorOf_reset c⟩
  case store => exact ⟨rfl, rfl, rfl, rfl, rfl, rfl, rfl, rfl, rfl, rfl, rfl⟩
  case surface =>
    rw [State.surfaceOf_reset]
    exact ⟨rfl, rfl, SurfacePort.downPortEmpty_reset, rfl, rfl, rfl⟩
  case invariants =>
    exact ⟨State.memoryCanonical_reset, State.rolesLegal_reset, State.trackerLegal_reset, State.queuesBounded_reset,
      State.heldCountsExact_reset, State.downPortsEmpty_reset, State.segmentsPlaced_reset, State.replyPlacesHeld_reset,
      State.arbitersDone_reset⟩
  case command => rw [State.exec_powerOnReset, State.powerOnReset_eq]

end Sys2Proof.Machine
end

section
/-! SUPPORT. The level sum and the coefficient law (R5, R7, R8). A level that is not OFF is written as a whole number of
doublings above or below 0 and a fraction of 0 to 191 steps; the coefficient is then the mantissa of the fraction, shifted. -/

namespace Sys2Proof.Machine

/-! ## The level sum (R5) -/

theorem clampTotal_eq (v : Int) : clampTotal v = max (-4607) (min 384 v) := by
  unfold clampTotal Config.maxLevel Config.minAudible
  grind

theorem levelSum_of_off_mem {levels : List Level} (h : (-4608) ∈ levels) (offset : Int) :
    levelSum levels offset = -4608 := by
  have silent : levels.any (· == Config.off) = true := List.any_eq_true.2 ⟨_, h, beq_self_eq_true _⟩
  rw [levelSum, if_pos silent]

theorem levelSum_of_off_notMem {levels : List Level} (h : (-4608) ∉ levels) (offset : Int) :
    levelSum levels offset = max (-4607) (min 384 (levels.sum + offset)) := by
  have audible : ¬levels.any (· == Config.off) = true := by simpa using h
  rw [levelSum, if_neg audible, clampTotal_eq]

/-- Settles O4: a clamped total is at least the lowest audible level, so it is never OFF. -/
theorem levelSumLaw : Obligations.LevelSumLaw := by
  refine fun levels offset => ⟨fun h => levelSum_of_off_mem h offset, fun h => ?_⟩
  rw [levelSum_of_off_notMem h]
  have least : (-4607 : Int) ≤ max (-4607) (min 384 (levels.sum + offset)) := le_max_left _ _
  exact ⟨rfl, fun off => absurd (off ▸ least) (by decide)⟩

/-! ## The mantissa (R7) -/

/-- The table rises from entry to entry, from 2^20 on, and 11/12 of the way through no interval is it past 2089742. -/
theorem mantissaEntry_bounds : ∀ i < 16, 1048576 ≤ mantissaEntry i ∧ mantissaEntry i ≤ mantissaEntry (i + 1) ∧
    mantissaEntry i + (mantissaEntry (i + 1) - mantissaEntry i) * 11 / 12 ≤ 2089742 := by
  decide

theorem mantissa_bounds {f : Nat} (hf : f < 192) : 1048576 ≤ mantissa f ∧ mantissa f ≤ 2089742 := by
  obtain ⟨low, -, high⟩ := mantissaEntry_bounds (f / 12) (by omega)
  have part : (mantissaEntry (f / 12 + 1) - mantissaEntry (f / 12)) * (f % 12) / 12 ≤
      (mantissaEntry (f / 12 + 1) - mantissaEntry (f / 12)) * 11 / 12 :=
    Nat.div_le_div_right (Nat.mul_le_mul_left _ (by omega))
  unfold mantissa
  omega

/-- The mantissa as R7 computes it on integers: the table rises, so no subtraction of naturals is cut off. -/
theorem mantissa_eq_interpolation {f : Nat} (hf : f < 192) : (mantissa f : Int) = mantissaEntry (f / 12) +
    Int.fdiv (((mantissaEntry (f / 12 + 1) : Int) - mantissaEntry (f / 12)) * (f % 12 : Nat)) 12 := by
  have rises := (mantissaEntry_bounds (f / 12) (by omega)).2.1
  rw [Int.fdiv_eq_ediv_of_nonneg _ (by decide), mantissa]
  push_cast [rises]
  rfl

/-! ## The coefficient (R7) -/

/-- Every level is a fraction of 0 to 191 steps over whole doublings, above level 0 or below it. -/
theorem level_cases (l : Int) :
    ∃ f : Nat, f < 192 ∧ ((∃ k : Nat, l = 192 * k + f) ∨ ∃ n : Nat, l = f - 192 * (n + 1)) := by
  refine ⟨(l % 192).toNat, by omega, ?_⟩
  by_cases sign : 0 ≤ l
  · exact .inl ⟨(l / 192).toNat, by omega⟩
  · exact .inr ⟨(-(l / 192)).toNat - 1, by omega⟩

/-- At k doublings from level 0 up, the coefficient is the mantissa shifted up. -/
theorem coefficient_above {f : Nat} (hf : f < 192) (k : Nat) : coefficient (192 * k + f) = mantissa f * 2 ^ k := by
  have audible : (192 * k + f : Int) ≠ -4608 := by omega
  have whole : (192 * k + f : Int) / 192 = k := by omega
  rw [coefficient, if_neg audible]
  simp [whole]

/-- At n + 1 doublings below level 0, the coefficient is the mantissa shifted down, a half rounded up. -/
theorem coefficient_below {f : Nat} (hf : f < 192) {n : Nat} (audible : (f - 192 * (n + 1) : Int) ≠ -4608) :
    coefficient (f - 192 * (n + 1)) = (mantissa f + 2 ^ n) / 2 ^ (n + 1) := by
  have whole : (f - 192 * (n + 1) : Int) / 192 = -(n + 1 : Nat) := by omega
  have fraction : (f - 192 * (n + 1) - 192 * (-(n + 1 : Nat)) : Int).toNat = f := by omega
  have negative : ¬(0 : Int) ≤ -(n + 1 : Nat) := by omega
  rw [coefficient, if_neg audible]
  simp only [whole, fraction, if_neg negative, neg_neg, Int.toNat_natCast, Nat.add_sub_cancel]

theorem coefficient_off : coefficient (-4608) = 0 := rfl

/-- R7 step by step: the doublings k, the fraction f, the table index i and the rest r, then the mantissa shifted. -/
theorem coefficient_computed {l k f i r : Int} (lowest : -4607 ≤ l) (doublings : k = Int.fdiv l 192)
    (fraction : f = l - 192 * k) (index : i = Int.fdiv f 12) (rest : r = f - 12 * i) :
    let m : Int := mantissaEntry i.toNat +
      Int.fdiv (((mantissaEntry (i.toNat + 1) : Int) - mantissaEntry i.toNat) * r) 12
    (0 ≤ f ∧ f ≤ 191 ∧ 0 ≤ i ∧ i ≤ 15 ∧ 0 ≤ r ∧ r ≤ 11) ∧
    (0 ≤ k → (coefficient l : Int) = m * 2 ^ k.toNat) ∧
    (k < 0 → (coefficient l : Int) = Int.fdiv (m + 2 ^ ((-k).toNat - 1)) (2 ^ (-k).toNat)) := by
  intro m
  rw [Int.fdiv_eq_ediv_of_nonneg _ (by decide)] at doublings index
  obtain ⟨g, hg, shape⟩ := level_cases l
  have same : f = g := by obtain ⟨n, above⟩ | ⟨n, below⟩ := shape <;> omega
  have entry : i.toNat = g / 12 := by omega
  have steps : r = (g % 12 : Nat) := by omega
  have hm : m = mantissa g := by rw [mantissa_eq_interpolation hg, ← entry, ← steps]
  refine ⟨by omega, fun sign => ?_, fun sign => ?_⟩
  · obtain ⟨n, above⟩ | ⟨n, below⟩ := shape
    · have up : k.toNat = n := by omega
      rw [hm, up, above, coefficient_above hg]
      push_cast
      rfl
    · omega
  · obtain ⟨n, above⟩ | ⟨n, below⟩ := shape
    · omega
    · have down : (-k).toNat = n + 1 := by omega
      rw [hm, down, below, coefficient_below hg (by omega), Int.fdiv_eq_ediv_of_nonneg _ (by positivity)]
      push_cast
      rfl

/-! ## The coefficient at the limits of the level domain (R8) -/

/-- The coefficient of a level from 0 to one step below the first doubling. -/
theorem coefficient_of_first_doubling {l : Int} (low : 0 ≤ l) (high : l ≤ 191) :
    coefficient l = mantissa l.toNat ∧ 1048576 ≤ coefficient l ∧ coefficient l ≤ 2089742 := by
  have value : coefficient l = mantissa l.toNat := by
    have := coefficient_above (f := l.toNat) (by omega) 0
    rwa [show 192 * ((0 : Nat) : Int) + l.toNat = l by omega, pow_zero, mul_one] at this
  rw [value]
  exact ⟨rfl, mantissa_bounds (by omega)⟩

theorem coefficient_of_second_doubling {l : Int} (low : 192 ≤ l) (high : l ≤ 383) :
    coefficient l = 2 * mantissa (l - 192).toNat ∧ 2097152 ≤ coefficient l ∧ coefficient l ≤ 4179484 := by
  have value : coefficient l = 2 * mantissa (l - 192).toNat := by
    have := coefficient_above (f := (l - 192).toNat) (by omega) 1
    rwa [show 192 * ((1 : Nat) : Int) + (l - 192).toNat = l by omega, pow_one, mul_comm] at this
  have bounds := mantissa_bounds (f := (l - 192).toNat) (by omega)
  rw [value]
  omega

theorem coefficient_of_maxLevel : coefficient 384 = 4194304 := by decide

/-- As far down as 21 doublings, the half that is added is no more than the mantissa, so the coefficient is not 0. -/
theorem coefficient_pos_of_negative {l : Int} (low : -4032 ≤ l) (high : l < 0) : 1 ≤ coefficient l := by
  obtain ⟨f, hf, ⟨k, rfl⟩ | ⟨n, rfl⟩⟩ := level_cases l
  · omega
  · have half : 2 ^ n ≤ 2 ^ 20 := Nat.pow_le_pow_right (by decide) (show n ≤ 20 by omega)
    have least := (mantissa_bounds hf).1
    rw [coefficient_below hf (by omega), Nat.one_le_div_iff (by positivity), pow_succ]
    omega

/-- From 22 doublings down, the mantissa is less than the half that is added, so the coefficient is 0. -/
theorem coefficient_eq_zero {l : Int} (low : -4607 ≤ l) (high : l ≤ -4033) : coefficient l = 0 := by
  obtain ⟨f, hf, ⟨k, rfl⟩ | ⟨n, rfl⟩⟩ := level_cases l
  · omega
  · have half : 2 ^ 21 ≤ 2 ^ n := Nat.pow_le_pow_right (by decide) (show 21 ≤ n by omega)
    have greatest := (mantissa_bounds hf).2
    rw [coefficient_below hf (by omega), pow_succ]
    exact Nat.div_eq_of_lt (by omega)

/-- Below level 0 the coefficient is no more than the mantissa. -/
theorem coefficient_le_of_negative {l : Int} (low : -4607 ≤ l) (high : l < 0) : coefficient l ≤ 2089742 := by
  obtain ⟨f, hf, ⟨k, rfl⟩ | ⟨n, rfl⟩⟩ := level_cases l
  · omega
  · obtain ⟨least, greatest⟩ := mantissa_bounds hf
    have half : 1 ≤ 2 ^ n := Nat.one_le_two_pow
    rw [coefficient_below hf (by omega), pow_succ]
    refine (Nat.div_le_of_le_mul ?_).trans greatest
    nlinarith

/-- The level domain in the parts that R8 tells apart, from OFF up. -/
theorem levelDomain_cases {l : Int} (low : -4608 ≤ l) (high : l ≤ 384) :
    l = -4608 ∨ (-4607 ≤ l ∧ l < 0) ∨ (0 ≤ l ∧ l ≤ 191) ∨ (192 ≤ l ∧ l ≤ 383) ∨ l = 384 := by
  omega

theorem coefficient_le {l : Int} (low : -4608 ≤ l) (high : l ≤ 384) : coefficient l ≤ 4194304 := by
  obtain rfl | ⟨h1, h2⟩ | ⟨h1, h2⟩ | ⟨h1, h2⟩ | rfl := levelDomain_cases low high
  · simp [coefficient_off]
  · have := coefficient_le_of_negative h1 h2
    omega
  · have := coefficient_of_first_doubling h1 h2
    omega
  · have := coefficient_of_second_doubling h1 h2
    omega
  · exact coefficient_of_maxLevel.le

theorem coefficient_pos {l : Int} (low : -4032 ≤ l) (high : l ≤ 384) : 1 ≤ coefficient l := by
  obtain rfl | ⟨h1, h2⟩ | ⟨h1, h2⟩ | ⟨h1, h2⟩ | rfl := levelDomain_cases (by omega) high
  · omega
  · exact coefficient_pos_of_negative low h2
  · have := coefficient_of_first_doubling h1 h2
    omega
  · have := coefficient_of_second_doubling h1 h2
    omega
  · simp [coefficient_of_maxLevel]

/-- Settles O5: the computation from the two shifts of the mantissa, the limits from the bounds of each part of the domain. -/
theorem coefficientLaw : Obligations.CoefficientLaw := by
  refine ⟨⟨by decide, coefficient_off, fun l lowest _ => coefficient_computed lowest rfl rfl rfl rfl⟩,
    fun l => coefficient_le, fun l => coefficient_of_first_doubling, fun l => coefficient_of_second_doubling,
    coefficient_of_maxLevel, by decide, fun l => coefficient_pos, fun l stem lowest silent => ?_⟩
  have zero := coefficient_eq_zero lowest silent
  exact ⟨zero, by rw [engineEntry, engineEntry, zero, coefficient_off]⟩

end Sys2Proof.Machine
end

section
/-! SUPPORT. The take of an editor command, and the configuration commands SET CONTROL and SET STEM: which bytes are legal,
what each legal field names, and what a change of configuration closes (R11, R14 to R17, R96, R178, R180). -/

namespace Sys2Proof.Machine

open Sys2Proof.Safety

/-! ## The take of an editor command (R178) -/

namespace State

theorem headCommand_of_handed {s : State} {c : EditorCommand} (h : HandedToPart s c) : s.headCommand = some c := by
  obtain ⟨room, record, clear, head⟩ := h
  have accepts : 1 ≤ s.editor.room ∧ s.editor.stalled = false :=
    ⟨Nat.sub_pos_of_lt room, by simp [EditorPort.stalled, record, clear]⟩
  rw [headCommand, if_pos accepts, head]

theorem popEditor_eq (s : State) : s.popEditor = { s with editor := tookCommand s.editor [] } := by
  simp [popEditor, setEditor, EditorPort.taken, tookCommand]

theorem popEditor_refuseEditor (s : State) (reason : RefusalReason) (kind : Byte) (control : Option Byte) :
    s.popEditor.refuseEditor reason kind control =
      { s with editor := tookCommand s.editor [.held (.refused reason kind control)] } := rfl

end State

/-! ## The bytes of a field (R9, R194) -/

@[simp] theorem controlNumber_val (c : ControlId) : controlNumber c.val = some c := by
  simp [controlNumber]

theorem controlNumber_eq_none {n : Nat} (h : 207 < n) : controlNumber n = none :=
  dif_neg (by omega)

theorem modeOfCode_eq_none_iff (b : Byte) : modeOfCode b = none ↔ 4 < b.toNat := by
  have code (k : Byte) : b = k ↔ b.toNat = k.toNat := BitVec.toNat_inj.symm
  simp only [modeOfCode, code]
  split_ifs <;> simp_all; omega

theorem modeCode_of_modeOfCode {b : Byte} {m : Mode} (h : modeOfCode b = some m) : modeCode m = b := by
  unfold modeOfCode at h
  grind [modeCode]

/-- What stem and group fields have in common: a byte below n names a number, and 255 is NONE. -/
def fieldOfByte (n : Nat) (b : Byte) : Option (Option (Fin n)) :=
  if h : b.toNat < n then some (some ⟨b.toNat, h⟩) else if b = 255#8 then some none else none

theorem stemOfByte_eq (b : Byte) : stemOfByte b = fieldOfByte 12 b := rfl
theorem groupOfByte_eq (b : Byte) : groupOfByte b = fieldOfByte 16 b := rfl

theorem fieldOfByte_of_lt {n : Nat} {b : Byte} (h : b.toNat < n) : fieldOfByte n b = some (some ⟨b.toNat, h⟩) :=
  dif_pos h

theorem fieldOfByte_none {n : Nat} {b : Byte} (small : n ≤ 255) (h : b.toNat = 255) : fieldOfByte n b = some none := by
  have byte : b = 255#8 := BitVec.eq_of_toNat_eq h
  rw [fieldOfByte, dif_neg (by omega), if_pos byte]

theorem fieldOfByte_eq_none_iff {n : Nat} (small : n ≤ 255) (b : Byte) :
    fieldOfByte n b = none ↔ ¬(b.toNat < n ∨ b.toNat = 255) := by
  by_cases low : b.toNat < n
  · simp [fieldOfByte_of_lt low, low]
  · by_cases unnamed : b.toNat = 255
    · simp [fieldOfByte_none small unnamed, unnamed]
    · have byte : b ≠ 255#8 := fun e => unnamed (by rw [e]; rfl)
      simp [fieldOfByte, low, unnamed, byte]

/-- What a legal field byte gives, whatever it replaces. -/
theorem fieldOfByte_names {n : Nat} {b : Byte} (small : n ≤ 255) (legal : b.toNat < n ∨ b.toNat = 255)
    (old : Option (Fin n)) :
    ((fieldOfByte n b).getD old).map Fin.val = if b.toNat = 255 then none else some b.toNat := by
  obtain low | unnamed := legal
  · have named : b.toNat ≠ 255 := by omega
    simp [fieldOfByte_of_lt low, named]
  · simp [fieldOfByte_none small unnamed, unnamed]

/-! ## What SET CONTROL carries (R11, R180) -/

namespace SetControlFields

/-- R11's checks of the fields carried for a control. -/
def Legal (f : SetControlFields) (c : ControlId) : Prop :=
  (f.hasMode = true → f.mode.toNat ≤ 4) ∧ (f.hasGlide = true → f.glide.toNat ≤ 63) ∧
  (f.hasStem = true → f.stem.toNat ≤ 11 ∨ f.stem.toNat = 255) ∧
  (f.hasGroupA = true → f.groupA.toNat ≤ 15 ∨ f.groupA.toNat = 255) ∧
  (f.hasGroupB = true → f.groupB.toNat ≤ 15 ∨ f.groupB.toNat = 255) ∧
  (c.val < 16 → (f.hasStem = true → f.stem.toNat = 255) ∧ (f.hasGroupA = true → f.groupA.toNat = 255) ∧
    (f.hasGroupB = true → f.groupB.toNat = 255))

theorem givesPathField_eq_false_iff (f : SetControlFields) : f.givesPathField = false ↔
    (f.hasStem = true → f.stem.toNat = 255) ∧ (f.hasGroupA = true → f.groupA.toNat = 255) ∧
    (f.hasGroupB = true → f.groupB.toNat = 255) := by
  have byte (b : Byte) : b = 255#8 ↔ b.toNat = 255 := BitVec.toNat_inj.symm
  simp [givesPathField, byte, and_assoc]

/-- The checks pass just when the fields are legal; each that fails answers BAD VALUE. -/
theorem refusal_eq (f : SetControlFields) {c : ControlId} (h : f.control.toNat = c.val) :
    (f.Legal c → f.refusal = none) ∧ (¬f.Legal c → f.refusal = some .badValue) := by
  simp only [refusal, Legal, h, controlNumber_val, modeOfCode_eq_none_iff, stemOfByte_eq, groupOfByte_eq,
    fieldOfByte_eq_none_iff (show 12 ≤ 255 by decide), fieldOfByte_eq_none_iff (show 16 ≤ 255 by decide),
    ← givesPathField_eq_false_iff]
  split_ifs <;> grind

/-- A stem or group field after the command: what its byte names if the command carries it, and as it was if not. -/
theorem field_carried {n : Nat} {b : Byte} {carried : Bool} (small : n ≤ 255) (old : Option (Fin n))
    (legal : carried = true → b.toNat < n ∨ b.toNat = 255) :
    let new := if carried then (fieldOfByte n b).getD old else old
    (carried = true → new.map Fin.val = if b.toNat = 255 then none else some b.toNat) ∧ (carried = false → new = old) := by
  cases carried
  · simp
  · simpa using fieldOfByte_names small (legal rfl) old

theorem mode_carried (f : SetControlFields) (x : ControlConfig) (legal : f.hasMode = true → f.mode.toNat ≤ 4) :
    (f.hasMode = true → modeCode (f.apply x).mode = f.mode) ∧ (f.hasMode = false → (f.apply x).mode = x.mode) := by
  refine ⟨fun carried => ?_, fun kept => by simp [apply, kept]⟩
  obtain ⟨m, named⟩ : ∃ m, modeOfCode f.mode = some m := by
    rw [← Option.ne_none_iff_exists', Ne, modeOfCode_eq_none_iff, not_lt]
    exact legal carried
  simp [apply, carried, named, modeCode_of_modeOfCode named]

theorem glideFrames_carried (f : SetControlFields) (x : ControlConfig) :
    (f.hasGlide = true → (f.apply x).glideFrames = f.glide.toNat) ∧
    (f.hasGlide = false → (f.apply x).glideFrames = x.glideFrames) :=
  ⟨fun carried => if_pos carried, fun kept => by simp [apply, kept]⟩

end SetControlFields

/-! ## What a change of configuration closes (R15 to R17, R96) -/

namespace State

theorem configure_eq (s : State) (c : ControlId) (x : ControlConfig) :
    s.configure c x = if (s.setConfig c x).isSafe c = true ∧ s.isSafe c = false then
      ((s.setConfig c x).closeOutside c).endBarredPunchIn else s.setConfig c x := by
  simp [configure]

/-- The paths of a stem, by their configuration: masters have no stem. -/
def stemMembers (s : State) (i : StemId) (c : ControlId) : Bool := decide (16 ≤ c.val) && (s.configOf c).stem == some i

/-- With a stem SAFE, its SAFE members are all its members. -/
theorem safeMembers_setSafe (s : State) (i : StemId) :
    (fun c => (s.setSafe i true).isSafe c && ((s.setSafe i true).configOf c).stem == some i) = s.stemMembers i := by
  funext c
  have config : (s.setSafe i true).configOf c = s.configOf c := rfl
  by_cases member : (s.configOf c).stem = some i
  · simp [isSafe, stemMembers, config, member]
  · have other : ((s.configOf c).stem == some i) = false := beq_false_of_ne member
    simp [stemMembers, config, other]

/-- Setting the flag, by 1, of a stem that was not SAFE closes the segments of the stem's paths. -/
theorem changeSafe_eq (s : State) (i : StemId) (n : Nat) :
    s.changeSafe i (n == 1) = if n = 1 ∧ tget s.pass.safe i = false then
      ((s.setSafe i (n == 1)).closeWhere (s.stemMembers i)).endBarredPunchIn else s.setSafe i (n == 1) := by
  by_cases set : n = 1
  · subst set
    simp [changeSafe, ← safeMembers_setSafe]
  · have clear : (n == 1) = false := beq_false_of_ne set
    simp [changeSafe, clear, set]

/-! ## The takes (R178, R180) -/

theorem exec_setControl {s : State} {f : SetControlFields} (h : HandedToPart s (.setControl f)) :
    exec .setControl s = .next (s.popEditor.takeSetControl f).transmitAll := by
  show execSetControl s = _
  rw [execSetControl, headCommand_of_handed h]

theorem exec_setStem {s : State} {stem safe : Byte} (h : HandedToPart s (.setStem stem safe)) :
    exec .setStem s = .next (s.popEditor.takeSetStem stem safe).transmitAll := by
  show execSetStem s = _
  rw [execSetStem, headCommand_of_handed h]

theorem takeSetControl_of_refusal {f : SetControlFields} {reason : RefusalReason} (s : State)
    (h : f.refusal = some reason) : s.takeSetControl f = s.refuseEditor reason kindSetControl (some f.control) := by
  rw [takeSetControl, h]

theorem takeSetControl_of_legal {f : SetControlFields} {c : ControlId} (s : State) (hc : f.control.toNat = c.val)
    (legal : f.Legal c) :
    s.takeSetControl f = ((s.configure c (f.apply (s.configOf c))).settlePool s).postDone kindSetControl := by
  rw [takeSetControl, (f.refusal_eq hc).1 legal, hc, controlNumber_val]

theorem takeSetStem_of_legal {stem safe : Byte} {i : StemId} (s : State) (hi : stem.toNat = i.val)
    (legal : safe.toNat ≤ 1) :
    s.takeSetStem stem safe = ((s.changeSafe i (safe.toNat == 1)).settlePool s).postDone kindSetStem := by
  have named : stemOfByte stem = some (some i) := by
    rw [stemOfByte_eq, fieldOfByte_of_lt (by omega)]
    simp [hi]
  have byte : (safe == 1#8) = (safe.toNat == 1) := by
    rw [Bool.eq_iff_iff, beq_iff_eq, beq_iff_eq]
    exact BitVec.toNat_inj.symm
  rw [takeSetStem, named]
  simp [legal, byte]

theorem takeSetStem_of_illegal {stem safe : Byte} (s : State) (h : 11 < stem.toNat ∨ 1 < safe.toNat) :
    s.takeSetStem stem safe = s.refuseEditor .badValue kindSetStem none := by
  unfold takeSetStem
  split
  · next i named =>
    have low : stem.toNat < 12 := by
      by_contra high
      simp [stemOfByte, high] at named
    rw [if_neg (by omega)]
  · rfl

end State

/-! ## The statement (R11, R14 to R17, R180) -/

theorem refused_goesOn {c : Instr} {s : State} {reason : RefusalReason} {kind : Byte} {control : Option Byte}
    (h : exec c s = .next (s.popEditor.refuseEditor reason kind control).transmitAll) :
    GoesOnTo (exec c s) { s with editor := tookCommand s.editor [.held (.refused reason kind control)] } := by
  rw [h, State.popEditor_refuseEditor]
  exact goesOn_transmitAll _

/-- SET CONTROL, taken (R17, R180): the configuration as `apply` makes it, and what becoming SAFE closes. -/
theorem setControl_taken {s : State} {f : SetControlFields} {c : ControlId} (handed : HandedToPart s (.setControl f))
    (hc : f.control.toNat = c.val) (legal : f.Legal c) :
    let taken : State := { s with editor := tookCommand s.editor [] }
    let u := taken.setConfig c (f.apply (s.configOf c))
    let v := if u.isSafe c = true ∧ s.isSafe c = false then (u.closeOutside c).endBarredPunchIn else u
    let w := v.settlePool taken
    GoesOnTo (exec .setControl s)
      { w with editor := { w.editor with replies := w.editor.replies ++ [.held (.done kindSetControl)] } } := by
  intro taken u v w
  rw [State.exec_setControl handed, State.takeSetControl_of_legal _ hc legal, State.popEditor_eq, State.configure_eq]
  exact goesOn_transmitAll _

/-- SET STEM, taken (R14 to R16, R180): the SAFE flag, and what setting it closes. -/
theorem setStem_taken {s : State} {stem safe : Byte} {i : StemId} (handed : HandedToPart s (.setStem stem safe))
    (hi : stem.toNat = i.val) (legal : safe.toNat ≤ 1) :
    let taken : State := { s with editor := tookCommand s.editor [] }
    let u := taken.setSafe i (safe.toNat == 1)
    let v := if safe.toNat = 1 ∧ tget s.pass.safe i = false then (u.closeWhere (s.stemMembers i)).endBarredPunchIn else u
    let w := v.settlePool taken
    GoesOnTo (exec .setStem s)
      { w with editor := { w.editor with replies := w.editor.replies ++ [.held (.done kindSetStem)] } } := by
  intro taken u v w
  rw [State.exec_setStem handed, State.takeSetStem_of_legal _ hi legal, State.popEditor_eq, State.changeSafe_eq]
  exact goesOn_transmitAll _

/-- Settles O43: each command by its checks, a refusal as its one reply, and a take by what its fields give and close. -/
theorem configurationCommandsTaken : Obligations.ConfigurationCommandsTaken := by
  refine ⟨fun s f c handed hc => ⟨fun legal => ?control, fun illegal => ?badControl⟩, fun s f handed above => ?noControl,
    fun s stem safe handed => ⟨fun i hi legal => setStem_taken handed hi legal, fun illegal => ?badStem⟩⟩
  case control =>
    obtain ⟨mode, -, stem, groupA, groupB, -⟩ := id legal
    obtain ⟨modeNew, modeOld⟩ := f.mode_carried (s.configOf c) mode
    obtain ⟨glideNew, glideOld⟩ := f.glideFrames_carried (s.configOf c)
    obtain ⟨stemNew, stemOld⟩ := SetControlFields.field_carried (by decide) (s.configOf c).stem
      (fun carried => (stem carried).imp_left Nat.lt_succ_of_le)
    obtain ⟨groupANew, groupAOld⟩ := SetControlFields.field_carried (by decide) (s.configOf c).groupA
      (fun carried => (groupA carried).imp_left Nat.lt_succ_of_le)
    obtain ⟨groupBNew, groupBOld⟩ := SetControlFields.field_carried (by decide) (s.configOf c).groupB
      (fun carried => (groupB carried).imp_left Nat.lt_succ_of_le)
    exact ⟨f.apply (s.configOf c), modeNew, modeOld, glideNew, glideOld, stemNew, stemOld, groupANew, groupAOld,
      groupBNew, groupBOld, setControl_taken handed hc legal⟩
  case badControl =>
    refine refused_goesOn ?_
    rw [State.exec_setControl handed, State.takeSetControl_of_refusal _ ((f.refusal_eq hc).2 illegal)]
  case noControl =>
    have refused : f.refusal = some .noControl := by rw [SetControlFields.refusal, controlNumber_eq_none above]
    refine refused_goesOn ?_
    rw [State.exec_setControl handed, State.takeSetControl_of_refusal _ refused]
  case badStem =>
    refine refused_goesOn ?_
    rw [State.exec_setStem handed, State.takeSetStem_of_illegal _ illegal]

end Sys2Proof.Machine
end

section
/-! SUPPORT. Frame marks and expiries of the frame timer (R23 to R31, R37, R38): each take as one state, by the transport
state it is taken in. -/

namespace Sys2Proof.Machine

open Sys2Proof.Safety

theorem Transport.rolling_iff (x : Transport) : x.rolling = true ↔ x = .play ∨ x = .freewheel := by
  cases x <;> decide

theorem Tracker.consecutive_iff (x : Tracker) (f : Frame) :
    x.consecutive f = true ↔ x.currentFrame < 16777215 ∧ f = x.currentFrame + 1 := by
  simp [consecutive, Config.maxFrame]

namespace State

theorem postTransportWhen_eq (s : State) {b : Bool} {p : Prop} [Decidable p] (h : b = true ↔ p) :
    s.postTransportWhen b = if p then s.postTransport else s := by
  simp [postTransportWhen, h]

/-! ## Marks (R23 to R26) -/

/-- A mark that passes the line check goes on to what its take leaves (R23). -/
theorem frameMark_goesOn {s u : State} {f : BitVec 24} {m : Motion} (h : s.takeMark f.toNat m = u) :
    GoesOnTo (exec (.frameMark true f m) s) (u.settlePool s) := by
  subst h
  exact goesOn_transmitAll _

theorem takeMark_moving_parked {s : State} (f : Frame) (h : s.tracker.transport = .stopped ∨ s.tracker.transport = .chase) :
    s.takeMark f .moving = s.takeMovingMarkParked f := by
  rcases h with h | h <;> simp [takeMark, h, Transport.rolling]

theorem takeMark_moving_rolling {s : State} (f : Frame) (h : s.tracker.transport = .play ∨ s.tracker.transport = .freewheel) :
    s.takeMark f .moving = s.takeMovingMarkRolling f := by
  rw [takeMark, if_pos ((Transport.rolling_iff _).2 h)]

/-- R24: a STOPPED mark. -/
theorem takeStoppedMark_eq (s : State) (f : Frame) :
    let x := s.tracker
    let parked : State := { s with tracker := { x with
      transport := .stopped, runCount := 0, freewheelCount := 0, currentFrame := f
      frameTimer := if x.transport = .stopped then x.frameTimer else s.now + 1200 / x.rate } }
    let closed := if x.transport = .play ∨ x.transport = .freewheel then parked.closeAll else parked
    let relocated := if f ≠ x.currentFrame then closed.relocateAll else closed
    s.takeStoppedMark f =
      if x.transport ≠ .stopped ∨ f ≠ x.currentFrame then relocated.postTransport else relocated := by
  intro x parked closed relocated
  have closes : (if x.transport.rolling then parked.closeAll else parked) = closed :=
    if_congr (Transport.rolling_iff _) rfl rfl
  have relocates : (if f = x.currentFrame then closed else closed.relocateAll) = relocated := (ite_not ..).symm
  have notices : (x.transport != .stopped || f != x.currentFrame) = true ↔
      x.transport ≠ .stopped ∨ f ≠ x.currentFrame := by simp
  rw [← postTransportWhen_eq relocated notices, ← relocates, ← closes]
  rfl

/-- R25: a MOVING mark in STOPPED or CHASE. -/
theorem takeMovingMarkParked_eq (s : State) (f : Frame) :
    let x := s.tracker
    let consecutive := x.currentFrame < 16777215 ∧ f = x.currentFrame + 1
    let run := if consecutive then min 255 (x.runCount + 1) else 1
    let state : Transport := if x.acquireCount ≤ run then .play else .chase
    let marked : State := { s with tracker := { x with
      transport := state, runCount := run, currentFrame := f, frameTimer := s.now + 3 * 1200 / (2 * x.rate) } }
    let relocated := if ¬consecutive ∧ f ≠ x.currentFrame then marked.relocateAll else marked
    let acquired := if state = .play then relocated.acquire else relocated
    let left := if x.transport = .stopped then acquired.leaveStopped else acquired
    let started := left.frameEvent f
    s.takeMovingMarkParked f = if state ≠ x.transport then started.postTransport else started := by
  intro x consecutive run state marked relocated acquired left started
  have near : (x.consecutive f || f == x.currentFrame) = true ↔ ¬(¬consecutive ∧ f ≠ x.currentFrame) := by
    rw [Bool.or_eq_true, x.consecutive_iff, beq_iff_eq]
    tauto
  have notices : (x.transport != state) = true ↔ state ≠ x.transport := by rw [bne_iff_ne, ne_comm]
  unfold takeMovingMarkParked
  extract_lets run' state' marked' relocated'
  have runs : run' = run := if_congr (x.consecutive_iff f) rfl rfl
  clear_value run'
  subst runs
  have relocates : relocated' = relocated := (if_congr near rfl rfl).trans (ite_not ..)
  clear_value relocated'
  subst relocates
  exact postTransportWhen_eq _ notices

/-- R26: a consecutive MOVING mark in PLAY or FREEWHEEL. -/
theorem takeMovingMarkRolling_of_consecutive {s : State} {f : Frame}
    (rolling : s.tracker.transport = .play ∨ s.tracker.transport = .freewheel)
    (h : s.tracker.currentFrame < 16777215 ∧ f = s.tracker.currentFrame + 1) :
    let started := State.frameEvent { s with tracker := { s.tracker with
      transport := .play, runCount := min 255 (s.tracker.runCount + 1), freewheelCount := 0, currentFrame := f
      frameTimer := s.now + 3 * 1200 / (2 * s.tracker.rate) } } f
    s.takeMovingMarkRolling f = if s.tracker.transport = .freewheel then started.postTransport else started := by
  intro started
  have notices : (s.tracker.transport != .play) = true ↔ s.tracker.transport = .freewheel := by
    rcases rolling with h | h <;> simp [h]
  rw [takeMovingMarkRolling, if_pos ((s.tracker.consecutive_iff f).2 h), postTransportWhen_eq _ notices]
  rfl

/-- R26: a MOVING mark in PLAY or FREEWHEEL that is not consecutive. -/
theorem takeMovingMarkRolling_of_jump {s : State} {f : Frame}
    (h : ¬(s.tracker.currentFrame < 16777215 ∧ f = s.tracker.currentFrame + 1)) :
    let jumped : State := { s with tracker := { s.tracker with
      transport := .chase, runCount := 1, freewheelCount := 0, currentFrame := f
      frameTimer := s.now + 3 * 1200 / (2 * s.tracker.rate) } }
    s.takeMovingMarkRolling f = ((jumped.closeAll.relocateAll).frameEvent f).postTransport := by
  intro jumped
  rw [takeMovingMarkRolling, if_neg (mt (s.tracker.consecutive_iff f).1 h)]
  rfl

end State

/-- Settles O7: each mark by its motion flag, the transport state and whether its frame is consecutive. -/
theorem frameMarkTaken : Obligations.FrameMarkTaken := by
  refine ⟨⟨fun f m s => rfl, fun f s => ?_⟩, fun f s parked => ?_, fun f s rolling => ⟨fun next => ?_, fun jump => ?_⟩⟩
  · exact State.frameMark_goesOn (s.takeStoppedMark_eq f.toNat)
  · exact State.frameMark_goesOn ((State.takeMark_moving_parked _ parked).trans (s.takeMovingMarkParked_eq f.toNat))
  · exact State.frameMark_goesOn ((State.takeMark_moving_rolling _ rolling).trans
      (State.takeMovingMarkRolling_of_consecutive rolling next))
  · exact State.frameMark_goesOn ((State.takeMark_moving_rolling _ rolling).trans
      (State.takeMovingMarkRolling_of_jump jump))

namespace State

/-! ## Expiries of the frame timer (R27 to R31) -/

/-- LOCK_LOST rises once (R37). -/
theorem raiseLockLost_eq (u : State) : u.raiseLockLost = if u.tracker.lockLost then u else
    { u with
      tracker := { u.tracker with lockLost := true }
      editor := { u.editor with flagNotice := if u.editor.link = .up then some false else u.editor.flagNotice } } := by
  unfold raiseLockLost flagRise
  split
  · rfl
  · split <;> rfl

/-- R27: an expiry goes on to what its take leaves at the time of the expiry. -/
theorem frameTimerExpiry_goesOn {s u : State} (h : s.atExpiry.takeExpiry = u) :
    GoesOnTo (exec .frameTimerExpiry s) (u.settlePool s) := by
  subst h
  exact goesOn_transmitAll _

theorem takeExpiry_stopped {s : State} (h : s.tracker.transport = .stopped) :
    s.takeExpiry = s.frameEvent s.tracker.currentFrame := by
  simp only [takeExpiry, h]

theorem takeExpiry_chase {s : State} (h : s.tracker.transport = .chase) :
    s.takeExpiry = ((s.setTracker { s.tracker with transport := .stopped, runCount := 0, freewheelCount := 0 }).frameEvent
      s.tracker.currentFrame).postTransport := by
  simp only [takeExpiry, h]

theorem takeExpiry_play {s : State} (h : s.tracker.transport = .play) :
    s.takeExpiry = if 16777215 ≤ s.tracker.currentFrame then s.stopByTimer false
      else if s.tracker.freewheelLimit = 0 then s.stopByTimer true else s.freewheelTo 1 := by
  simp only [takeExpiry, h, Config.maxFrame]

theorem takeExpiry_freewheel {s : State} (h : s.tracker.transport = .freewheel) :
    s.takeExpiry = if s.tracker.freewheelLimit < s.tracker.freewheelCount + 1 ∨ 16777215 ≤ s.tracker.currentFrame then
      s.stopByTimer true else s.freewheelTo (s.tracker.freewheelCount + 1) := by
  simp only [takeExpiry, h, Config.maxFrame]

/-- A stop that loses lock sets LOCK_LOST before it closes all (R29, R30). -/
theorem stopByTimer_true (s : State) : s.stopByTimer true =
    (((s.setTracker { s.tracker with transport := .stopped, runCount := 0, freewheelCount := 0 }).raiseLockLost.closeAll.frameEvent
      s.tracker.currentFrame)).postTransport := rfl

/-- An advance into FREEWHEEL is notified to the ports (R38). -/
theorem freewheelTo_play {s : State} (n : Nat) (h : s.tracker.transport = .play) : s.freewheelTo n =
    ((s.setTracker { s.tracker with
      transport := .freewheel, freewheelCount := n
      currentFrame := s.tracker.currentFrame + 1 }).frameEvent (s.tracker.currentFrame + 1)).postTransport := by
  simp [freewheelTo, postTransportWhen, h]

/-- An advance in FREEWHEEL is notified to nobody (R38). -/
theorem freewheelTo_freewheel {s : State} (n : Nat) (h : s.tracker.transport = .freewheel) : s.freewheelTo n =
    (s.setTracker { s.tracker with
      transport := .freewheel, freewheelCount := n
      currentFrame := s.tracker.currentFrame + 1 }).frameEvent (s.tracker.currentFrame + 1) := by
  simp [freewheelTo, postTransportWhen, h]

end State

/-- Settles O8: an expiry by the transport state, and in PLAY and FREEWHEEL by the limits it reaches. -/
theorem timerExpiryTaken : Obligations.TimerExpiryTaken := by
  intro s x time timed stopped freewheeled lockLost ends
  have ends_of {u : State} (h : timed.takeExpiry = u) : ends u := State.frameTimerExpiry_goesOn h
  have lost : timed.stopByTimer true = ((lockLost stopped).closeAll.frameEvent x.currentFrame).postTransport := by
    rw [State.stopByTimer_true, State.raiseLockLost_eq]
    rfl
  refine ⟨fun h => ?stopped, fun h => ?chase, fun h => ⟨fun inside limit => ?advances, fun inside limit => ?unlocked,
    fun last => ?ended⟩, fun h => ⟨fun limit inside => ?goesOn, fun beyond => ?lost⟩⟩
  case stopped => exact ends_of (State.takeExpiry_stopped h)
  case chase => exact ends_of (State.takeExpiry_chase h)
  case advances =>
    exact ends_of ((State.takeExpiry_play (s := timed) h).trans ((if_neg (Nat.not_le.2 inside)).trans
      ((if_neg (Nat.one_le_iff_ne_zero.1 limit)).trans (State.freewheelTo_play 1 h))))
  case unlocked =>
    exact ends_of ((State.takeExpiry_play (s := timed) h).trans ((if_neg (Nat.not_le.2 inside)).trans
      ((if_pos limit).trans lost)))
  case ended => exact ends_of ((State.takeExpiry_play (s := timed) h).trans (if_pos last))
  case goesOn =>
    exact ends_of ((State.takeExpiry_freewheel (s := timed) h).trans
      ((if_neg (not_or.2 ⟨Nat.not_lt.2 limit, Nat.not_le.2 inside⟩)).trans (State.freewheelTo_freewheel _ h)))
  case lost => exact ends_of ((State.takeExpiry_freewheel (s := timed) h).trans ((if_pos beyond).trans lost))

end Sys2Proof.Machine
end

section
/-! SUPPORT. What the transport asks of the other blocks: frame events, transport and seat notices, relocate-all requests
(R35, R38, R44, R133, R136, R137, R165, R166). -/

namespace Sys2Proof.Machine

open Sys2Proof.Safety

/-! ## Frame events (R35, R61, R144) -/

/-- The bank a pass builds is the lowest-numbered one that is free (R144). -/
theorem EnginePort.bankToBuild_eq (x : EnginePort) :
    let free (b : BankId) : Bool := x.published ≠ some b ∧ x.reading ≠ some b
    x.bankToBuild = if free 0 then some 0 else if free 1 then some 1 else if free 2 then some 2 else none := by
  intro free
  have tests (b : BankId) : (x.published != some b && x.reading != some b) = free b := by
    rw [Bool.eq_iff_iff, Bool.and_eq_true, bne_iff_ne, bne_iff_ne]
    exact decide_eq_true_iff.symm
  have banks : List.finRange 3 = [0, 1, 2] := rfl
  rw [bankToBuild, banks]
  by_cases first : free 0 = true
  · simp [tests, first]
  · by_cases second : free 1 = true
    · simp [tests, first, second]
    · by_cases third : free 2 = true <;> simp [tests, first, second, third]

namespace State

/-- PASS_OVERRUN rises once (R37, R191). -/
theorem raisePassOverrun_eq (s : State) : s.raisePassOverrun = { s with
    tracker := { s.tracker with passOverrun := true }
    editor := { s.editor with flagNotice :=
      if s.tracker.passOverrun = false ∧ s.editor.link = .up then some false else s.editor.flagNotice } } := by
  unfold raisePassOverrun flagRise
  by_cases set : s.tracker.passOverrun = true
  · have same : s.tracker = { s.tracker with passOverrun := true } := by rw [← set]
    simp only [set, if_true, Bool.true_eq_false, false_and, if_false]
    rw [← same]
  · by_cases up : s.editor.link = .up <;> simp [set, up]

theorem frameEvent_idle {s : State} (t : Frame) (h : s.pass.run.inFlight = false) : s.frameEvent t = s.startPass t := by
  simp [frameEvent, h]

theorem frameEvent_pends {s : State} (t : Frame) (h : s.pass.run.inFlight = true) (unheld : s.tracker.pendingFrame = none) :
    s.frameEvent t = s.setPendingFrame (some t) := by
  simp [frameEvent, h, unheld]

theorem frameEvent_overruns {s : State} (t : Frame) (h : s.pass.run.inFlight = true) (held : s.tracker.pendingFrame ≠ none) :
    s.frameEvent t = (s.setPendingFrame (some t)).raisePassOverrun := by
  obtain ⟨f, pending⟩ := Option.ne_none_iff_exists'.1 held
  simp [frameEvent, h, pending]

/-! ## Notices (R38, R44, R165, R166) -/

/-- What replacing an UP port does to each surface port. -/
theorem whenUp_surfaceOf (s : State) (p q : SurfaceId) (f : SurfacePort → SurfacePort) : (s.whenUp p f).surfaceOf q =
    if p = q ∧ (s.surfaceOf q).link = .up then f (s.surfaceOf q) else s.surfaceOf q := by
  unfold whenUp
  by_cases same : p = q
  · subst same
    split <;> simp [*]
  · split <;> simp [same]

/-- Replacing an UP port changes nothing but the surface ports. -/
theorem whenUp_eq (s : State) (p : SurfaceId) (f : SurfacePort → SurfacePort) :
    s.whenUp p f = { s with surface := (s.whenUp p f).surface } := by
  unfold whenUp
  split <;> rfl

/-- The transport notice a port is owed (R38). -/
def transportNotice (s : State) : TransportNotice :=
  { state := s.tracker.transport, frame := s.tracker.currentFrame, onLink := false }

theorem postTransportTo_surfaceOf (s : State) (p q : SurfaceId) : (s.postTransportTo p).surfaceOf q =
    if p = q ∧ (s.surfaceOf q).link = .up then { s.surfaceOf q with transportNotice := some s.transportNotice }
    else s.surfaceOf q := whenUp_surfaceOf ..

@[simp] theorem postTransportTo_transportNotice (s : State) (p : SurfaceId) :
    (s.postTransportTo p).transportNotice = s.transportNotice := by
  simp [transportNotice]

theorem postTransportToEditor_editor (s : State) : s.postTransportToEditor.editor =
    if s.editor.link = .up then { s.editor with transportNotice := some s.transportNotice } else s.editor := by
  unfold postTransportToEditor
  split <;> rfl

theorem postTransport_surfaceOf (s : State) (p : SurfaceId) : s.postTransport.surfaceOf p =
    if (s.surfaceOf p).link = .up then { s.surfaceOf p with transportNotice := some s.transportNotice }
    else s.surfaceOf p := by
  have editorAlone (u : State) : u.postTransportToEditor.surfaceOf p = u.surfaceOf p := surfaceOf_congr (by simp) p
  unfold postTransport
  simp only [editorAlone, postTransportTo_surfaceOf, postTransportTo_transportNotice]
  fin_cases p <;> simp

theorem postTransport_editor (s : State) : s.postTransport.editor =
    if s.editor.link = .up then { s.editor with transportNotice := some s.transportNotice } else s.editor := by
  simp [postTransport, postTransportToEditor_editor]

/-- A transport notice changes nothing but the ports. -/
theorem postTransport_eq (s : State) :
    s.postTransport = { s with surface := s.postTransport.surface, editor := s.postTransport.editor } :=
  eq_but_ports (by simp)

theorem postNotice_surfaceOf (s : State) (i : SeatId) (c : ControlId) (n : SeatNotice) (p : SurfaceId) :
    (s.postNotice i c n).surfaceOf p = if (s.seatOf i).link = some p ∧ (s.surfaceOf p).link = .up then
      { s.surfaceOf p with notices := tset (s.surfaceOf p).notices c (some { notice := n, seat := i, onLink := false }) }
    else s.surfaceOf p := by
  unfold postNotice
  split
  · next q mapped => simp [whenUp_surfaceOf, mapped]
  · next unmapped => simp [unmapped]

/-- A notice to a seat changes nothing but the surface ports. -/
theorem postNotice_eq (s : State) (i : SeatId) (c : ControlId) (n : SeatNotice) :
    s.postNotice i c n = { s with surface := (s.postNotice i c n).surface } := by
  unfold postNotice
  split
  · exact whenUp_eq ..
  · rfl

theorem noticeHolder_unheld {s : State} {c : ControlId} (n : SeatNotice) (h : s.touchOf c = none) :
    s.noticeHolder c n = s := by
  simp [noticeHolder, h]

theorem noticeHolder_held {s : State} {c : ControlId} {r : Touch} (n : SeatNotice) (h : s.touchOf c = some r) :
    s.noticeHolder c n = s.postNotice r.holder c n := by
  simp [noticeHolder, h]

/-! ## Relocate-all requests (R133, R136, R137) -/

theorem relocateAll_cursorOf (s : State) (c : ControlId) : s.relocateAll.cursorOf c =
    if (s.cursorOf c).state = .parked then s.cursorOf c else (s.cursorOf c).relocated ((s.listOf c).count == 0) :=
  tget_tbuild _ c

/-- The requests of the memory port once a walk in flight is abandoned (R136). -/
theorem relocateAll_port (s : State) : s.relocateAll.port = walksDropped s.port := by
  refine congrArg₂ MemoryPort.mk (List.map_congr_left fun r _ => ?_) (Option.map_congr fun r _ => ?_) <;> cases r <;> rfl

end State

/-- Settles O9: the four operations by their equations, port by port and cursor by cursor. -/
theorem transportRequestsTaken : Obligations.TransportRequestsTaken := by
  refine ⟨fun s t => ⟨fun idle => ?starts, fun busy unheld => ?pends, fun busy held => ?overruns⟩,
    fun s => ⟨s.postTransport_surfaceOf, s.postTransport_editor, s.postTransport_eq⟩, fun s => ?relocates,
    fun s i c n => ⟨s.postNotice_surfaceOf i c n, s.postNotice_eq i c n⟩,
    fun s c n => ⟨State.noticeHolder_unheld n, fun r => State.noticeHolder_held n⟩⟩
  case starts =>
    intro free chosen
    have chooses : s.engine.bankToBuild = chosen := s.engine.bankToBuild_eq
    rw [State.frameEvent_idle t idle, ← chooses]
    rfl
  case pends => exact State.frameEvent_pends t busy unheld
  case overruns =>
    rw [State.frameEvent_overruns t busy held, State.raisePassOverrun_eq]
    rfl
  case relocates =>
    refine ⟨fun c => ⟨fun parked => ?_, fun moves empty => ?_, fun moves filled => ?_⟩, rfl, s.relocateAll_port, rfl⟩
    · rw [State.relocateAll_cursorOf, if_pos parked]
    · rw [State.relocateAll_cursorOf, if_neg moves, empty]
      rfl
    · rw [State.relocateAll_cursorOf, if_neg moves, beq_false_of_ne filled]
      rfl

end Sys2Proof.Machine
end

section
/-! SUPPORT. What the transport's leaving STOPPED ends (R34, R123, R185, R187, R188): each of the three aborts by itself, then
the two orders in which they can come. -/

namespace Sys2Proof.Machine

open Sys2Proof.Safety

/-- The reply places after the abort of a list read: the read's own place and the one of the record it has requested are
given up, and ABORTED stands at the tail (R187). -/
def readAborted (places : List ReplyPlace) : List ReplyPlace :=
  (places.erase (.reserved .record)).erase (.reserved .read) ++ [.held (.aborted kindReadList .rolling)]

/-- The reply places after the abort of an operation that holds one place (R185, R188). -/
def placeAborted (o : PlaceOwner) (kind : Byte) (places : List ReplyPlace) : List ReplyPlace :=
  places.erase (.reserved o) ++ [.held (.aborted kind .rolling)]

/-- The reply places after the abort of a load and of a clear, whichever is in flight (R185, R188). -/
def loadAndClearAborted (load : Option Load) (clear : Option ControlId) (places : List ReplyPlace) : List ReplyPlace :=
  let unloaded := if load = none then places else placeAborted .load kindListBegin places
  if clear = none then unloaded else placeAborted .clear kindClearList unloaded

theorem loadAndClearAborted_load {load : Option Load} {clear : Option ControlId} (loads : load ≠ none) (unclear : clear = none)
    (places : List ReplyPlace) : loadAndClearAborted load clear places = placeAborted .load kindListBegin places := by
  rw [loadAndClearAborted, if_neg loads, if_pos unclear]

theorem loadAndClearAborted_clear {load : Option Load} {clear : Option ControlId} (idle : load = none) (clears : clear ≠ none)
    (places : List ReplyPlace) : loadAndClearAborted load clear places = placeAborted .clear kindClearList places := by
  rw [loadAndClearAborted, if_pos idle, if_neg clears]

theorem loadAndClearAborted_neither {load : Option Load} {clear : Option ControlId} (idle : load = none)
    (unclear : clear = none) (places : List ReplyPlace) : loadAndClearAborted load clear places = places := by
  rw [loadAndClearAborted, if_pos idle, if_pos unclear]

/-- Dropping the list reads of a port touches no chain return, so it commutes with the abort of a load (R109, R123, R187). -/
theorem loadAborted_readsDropped {s t u : State} {before : MemoryPort} {l : Load} (h : LoadAborted s before l t)
    (store : u.store = t.store) (port : u.port = readsDropped t.port) : LoadAborted s (readsDropped before) l u := by
  obtain ⟨unfilled, filled⟩ := h
  refine ⟨fun k => ?_, fun f r hf hr => ?_⟩
  · obtain ⟨hs, hp⟩ := unfilled k
    exact ⟨store.trans hs, by rw [port, hp]⟩
  · obtain ⟨hs, hp⟩ := filled f r hf hr
    exact ⟨store.trans hs, by rw [port, hp]; simp [Safety.readsDropped]⟩

theorem loadAborted_idle {s t : State} {before : MemoryPort} {l : Load} (h : LoadAborted s before l t) :
    t.store.load = none := by
  obtain ⟨unfilled, filled⟩ := h
  cases first : l.first with
  | none => rw [(unfilled (.inl first)).1]
  | some f =>
    cases tail : l.tail with
    | none => rw [(unfilled (.inr tail)).1]
    | some r => rw [(filled f r first tail).1]

namespace State

/-! ## Each abort by itself -/

theorem mapRequests_dropList_port (s : State) : (s.mapRequests MemRequest.dropList).port = readsDropped s.port := by
  refine congrArg₂ MemoryPort.mk (List.map_congr_left fun r _ => ?_) (Option.map_congr fun r _ => ?_) <;> cases r <;> rfl

theorem abortRead_none {s : State} (h : s.editor.read = none) : s.abortRead = s := by
  simp [abortRead, h]

theorem abortRead_some {s : State} (h : s.editor.read ≠ none) : s.abortRead = { s with
    port := readsDropped s.port
    editor := { s.editor with read := none, replies := readAborted s.editor.replies } } := by
  obtain ⟨r, reads⟩ := Option.ne_none_iff_exists'.1 h
  rw [← mapRequests_dropList_port]
  simp only [abortRead, reads]
  rfl

theorem abandonClear_none {s : State} (h : s.editor.clear = none) : s.abandonClear = s := by
  simp [abandonClear, h]

theorem abandonClear_some {s : State} (h : s.editor.clear ≠ none) : s.abandonClear = { s with
    editor := { s.editor with clear := none, replies := placeAborted .clear kindClearList s.editor.replies } } := by
  obtain ⟨c, clears⟩ := Option.ne_none_iff_exists'.1 h
  simp only [abandonClear, clears]
  rfl

theorem abortLoad_none {s : State} (reason : Option AbortReason) (h : s.store.load = none) : s.abortLoad reason = s := by
  simp [abortLoad, h]

/-- The record that waits for a slot once the load it belongs to is aborted, if one is (R183, R185). -/
def recordLeftWaiting (s : State) : Option LoadRecord := if s.store.load = none then s.editor.waitingRecord else none

/-- The abort of a load that leaves STOPPED, in flight or not: all it changes. -/
theorem abortLoad_rolling (s : State) : s.abortLoad (some .rolling) = { s with
    store := (s.abortLoad (some .rolling)).store
    port := (s.abortLoad (some .rolling)).port
    editor := { s.editor with
      waitingRecord := s.recordLeftWaiting
      replies := if s.store.load = none then s.editor.replies else
        placeAborted .load kindListBegin s.editor.replies } } := by
  cases load : s.store.load with
  | none => simp [abortLoad_none _ load, recordLeftWaiting, load]
  | some l =>
    rw [(abortLoad_spec s l (some .rolling) load).2]
    simp [recordLeftWaiting, load, placeAborted]

theorem abandonClear_eq (s : State) : s.abandonClear = { s with editor := { s.editor with
    clear := none
    replies := if s.editor.clear = none then s.editor.replies else
      placeAborted .clear kindClearList s.editor.replies } } := by
  by_cases clear : s.editor.clear = none
  · rw [abandonClear_none clear, if_pos clear, ← clear]
  · rw [abandonClear_some clear, if_neg clear]

/-! ## All together -/

/-- What leaving STOPPED leaves, by the reply places and the free values drawn (R34, R185, R187, R188). -/
structure StoppedLeft (s t : State) (places : List ReplyPlace) (draws : Nat) : Prop where
  store : s.store.load = none → t.store = s.store
  port : s.store.load = none → t.port = if s.editor.read = none then s.port else readsDropped s.port
  load : ∀ l, s.store.load = some l →
    LoadAborted s (if s.editor.read = none then s.port else readsDropped s.port) l t
  rest : t = { s with
    store := t.store
    port := t.port
    editor := { s.editor with
      read := none, clear := none, waitingRecord := s.recordLeftWaiting, replies := places }
    freeDraws := draws }

/-- The load's abort and the clear's: all they change. -/
theorem abortLoadAndClear_eq (s : State) : s.abortLoadAndClear = { s with
    store := (s.abortLoad (some .rolling)).store
    port := (s.abortLoad (some .rolling)).port
    editor := { s.editor with
      clear := none
      waitingRecord := s.recordLeftWaiting
      replies := loadAndClearAborted s.store.load s.editor.clear s.editor.replies } } := by
  rw [abortLoadAndClear, abandonClear_eq, abortLoad_rolling]
  rfl

/-- A list read ends after the load and the clear, if one is in flight. -/
theorem abortRead_last (s : State) :
    let places := loadAndClearAborted s.store.load s.editor.clear s.editor.replies
    StoppedLeft s s.abortLoadAndClear.abortRead (if s.editor.read = none then places else readAborted places)
      s.freeDraws := by
  intro places
  have storeKept (h : s.store.load = none) : (s.abortLoad (some .rolling)).store = s.store := by rw [abortLoad_none _ h]
  have portKept (h : s.store.load = none) : (s.abortLoad (some .rolling)).port = s.port := by rw [abortLoad_none _ h]
  rw [abortLoadAndClear_eq]
  by_cases idle : s.editor.read = none
  · rw [abortRead_none (by exact idle)]
    refine ⟨storeKept, fun h => (portKept h).trans (if_pos idle).symm, fun l h => ?_, ?_⟩
    · rw [if_pos idle]
      exact (abortLoad_spec s l (some .rolling) h).1
    · rw [if_pos idle, ← idle]
  · rw [abortRead_some (by exact idle)]
    refine ⟨storeKept, fun h => (congrArg readsDropped (portKept h)).trans (if_neg idle).symm, fun l h => ?_, ?_⟩
    · rw [if_neg idle]
      exact loadAborted_readsDropped (abortLoad_spec s l (some .rolling) h).1 rfl rfl
    · rw [if_neg idle]

/-- A list read ends before the load and the clear. -/
theorem abortRead_first {s : State} (reads : s.editor.read ≠ none) :
    StoppedLeft s s.abortRead.abortLoadAndClear
      (loadAndClearAborted s.store.load s.editor.clear (readAborted s.editor.replies)) s.freeDraws := by
  rw [abortRead_some reads]
  have last := abortRead_last { s with
    port := readsDropped s.port
    editor := { s.editor with read := none, replies := readAborted s.editor.replies } }
  rw [abortRead_none (by simp [abortLoadAndClear_eq])] at last
  obtain ⟨store, port, load, rest⟩ := last
  refine ⟨store, fun h => ?_, fun l h => ?_, rest⟩
  · rw [if_neg reads]
    exact port h
  · rw [if_neg reads]
    exact load l h

/-- With no list read, or no load and no clear, nothing is drawn and the read comes last (R34). -/
theorem leaveStopped_alone {s : State} (h : s.editor.read = none ∨ (s.store.load = none ∧ s.editor.clear = none)) :
    let places := loadAndClearAborted s.store.load s.editor.clear s.editor.replies
    StoppedLeft s s.leaveStopped (if s.editor.read = none then places else readAborted places) s.freeDraws := by
  have alone : ¬(s.editor.read.isSome ∧ (s.store.load.isSome ∨ s.editor.clear.isSome)) := by
    rcases h with h | ⟨hl, hc⟩
    · simp [h]
    · simp [hl, hc]
  rw [leaveStopped, if_neg alone]
  exact abortRead_last s

/-- With a list read and a load or clear, a free value says which comes first (log 7). -/
theorem leaveStopped_both {s : State} (reads : s.editor.read ≠ none)
    (h : s.store.load ≠ none ∨ s.editor.clear ≠ none) :
    StoppedLeft s s.leaveStopped
      (loadAndClearAborted s.store.load s.editor.clear (readAborted s.editor.replies)) (s.freeDraws + 1) ∨
    StoppedLeft s s.leaveStopped
      (readAborted (loadAndClearAborted s.store.load s.editor.clear s.editor.replies)) (s.freeDraws + 1) := by
  have both : s.editor.read.isSome ∧ (s.store.load.isSome ∨ s.editor.clear.isSome) := by
    simpa only [Option.isSome_iff_ne_none] using And.intro reads h
  rw [leaveStopped, if_pos both]
  dsimp only
  split
  · obtain ⟨store, port, load, rest⟩ := abortRead_first (s := { s with freeDraws := s.freeDraws + 1 }) reads
    exact .inl ⟨store, port, load, rest⟩
  · obtain ⟨store, port, load, rest⟩ := abortRead_last { s with freeDraws := s.freeDraws + 1 }
    rw [if_neg (by exact reads)] at rest
    exact .inr ⟨store, port, load, rest⟩

theorem leaveStopped_left (s : State) : ∃ places draws, StoppedLeft s s.leaveStopped places draws := by
  by_cases h : s.editor.read = none ∨ (s.store.load = none ∧ s.editor.clear = none)
  · exact ⟨_, _, leaveStopped_alone h⟩
  · obtain ⟨reads, other⟩ := not_or.1 h
    rcases leaveStopped_both reads (not_and_or.1 other) with left | left <;> exact ⟨_, _, left⟩

/-- With nothing in flight nothing ends. -/
theorem leaveStopped_nothing {s : State} (load : s.store.load = none) (clear : s.editor.clear = none)
    (read : s.editor.read = none) : s.leaveStopped = s := by
  simp [leaveStopped, abortLoadAndClear, abortLoad_none _ load, abandonClear_none clear, abortRead_none read, read]

namespace StoppedLeft

variable {s t : State} {places : List ReplyPlace} {draws : Nat}

/-- The load is idle, whether one was in flight or not. -/
theorem load_idle (h : StoppedLeft s t places draws) : t.store.load = none := by
  cases load : s.store.load with
  | none => rw [h.store load, load]
  | some l => exact loadAborted_idle (h.load l load)

theorem editor_eq (h : StoppedLeft s t places draws) : t.editor = { s.editor with
    read := none, clear := none, waitingRecord := s.recordLeftWaiting, replies := places } := by
  rw [h.rest]

theorem freeDraws_eq (h : StoppedLeft s t places draws) : t.freeDraws = draws := by
  rw [h.rest]

theorem replies_eq (h : StoppedLeft s t places draws) : t.editor.replies = places := by
  rw [h.editor_eq]

theorem waitingRecord_eq (h : StoppedLeft s t places draws) : t.editor.waitingRecord = s.recordLeftWaiting := by
  rw [h.editor_eq]

theorem frame (h : StoppedLeft s t places draws) :
    t = { s with store := t.store, port := t.port, editor := t.editor, freeDraws := t.freeDraws } := by
  rw [h.rest]

end StoppedLeft

end State

/-- Settles O12: what is left in every case, and the reply places in each. -/
theorem leavingStopped : Obligations.LeavingStopped := by
  intro s t aborted kept withoutRead without
  obtain ⟨places, draws, left⟩ := s.leaveStopped_left
  have alone (h : s.editor.read = none ∨ (s.store.load = none ∧ s.editor.clear = none)) := State.leaveStopped_alone h
  have both (reads : s.editor.read ≠ none) (h : s.store.load ≠ none ∨ s.editor.clear ≠ none) :
      (t.editor.replies = readAborted (loadAndClearAborted s.store.load s.editor.clear s.editor.replies) ∨
        t.editor.replies = loadAndClearAborted s.store.load s.editor.clear (readAborted s.editor.replies)) ∧
      t.freeDraws = s.freeDraws + 1 := by
    rcases State.leaveStopped_both reads h with first | last
    · exact ⟨.inr first.replies_eq, first.freeDraws_eq⟩
    · exact ⟨.inl last.replies_eq, last.freeDraws_eq⟩
  refine ⟨left.load_idle, by rw [left.editor_eq], by rw [left.editor_eq], State.leaveStopped_nothing,
    fun load => ⟨left.store load, left.port load⟩,
    fun l load => ⟨left.load l load, left.waitingRecord_eq.trans (if_neg (by simp [load]))⟩,
    fun load => left.waitingRecord_eq.trans (if_pos load),
    by rw [left.editor_eq], fun h => (alone h).freeDraws_eq,
    fun load clear read => (alone (.inl read)).replies_eq.trans ?loads,
    fun load clear read => (alone (.inl read)).replies_eq.trans ?clears,
    fun load clear read => (alone (.inr ⟨load, clear⟩)).replies_eq.trans ?reads,
    fun load clear read => ?loadAndRead, fun load clear read => ?clearAndRead, left.frame⟩
  case loads => exact (if_pos read).trans (loadAndClearAborted_load load clear _)
  case clears => exact (if_pos read).trans (loadAndClearAborted_clear load clear _)
  case reads => exact (if_neg read).trans (congrArg readAborted (loadAndClearAborted_neither load clear _))
  case loadAndRead =>
    have orders := both read (.inl load)
    simp only [loadAndClearAborted_load load clear] at orders
    exact orders
  case clearAndRead =>
    have orders := both read (.inr clear)
    simp only [loadAndClearAborted_clear load clear] at orders
    exact orders

end Sys2Proof.Machine
end

section
/-! SUPPORT. Bars and closures (R15, R17, R32, R78, R87, R88, R96 to R98): what one close from outside leaves of the pass and
keeps of the rest, then the closures of many controls by induction on the controls in order. -/

namespace Sys2Proof.Machine

open Sys2Proof.Safety

namespace State

/-! ## The end of a wait (R78, R87, R88) -/

/-- The pass state once the wait of an evaluation is over: it goes on after its Segment Writer step (R78). -/
def released (x : PassRun) (e : Evaluation) : PassRun :=
  { x with wait := none, underWay := some { e with todo := .finish } }

theorem endWait_eq {s : State} {e : Evaluation} (h : s.pass.run.underWay = some e) :
    s.endWait = s.setRun (released s.pass.run e) := by
  simp [endWait, h, released]

theorem waitsAt_iff (s : State) (c : ControlId) (todo : EvalTodo) : s.waitsAt c todo = true ↔
    s.pass.run.wait ≠ none ∧ ∃ e, s.pass.run.underWay = some e ∧ e.control = c ∧ e.todo = todo := by
  unfold waitsAt
  split
  · next w e wait run => simp [wait, run]
  · next other =>
    simp only [Bool.false_eq_true, false_iff, not_and, not_exists]
    intro wait e run
    obtain ⟨w, wait⟩ := Option.ne_none_iff_exists'.1 wait
    exact (other w e wait run).elim

theorem waitsAt_congr {s t : State} (h : t.pass = s.pass) (c : ControlId) (todo : EvalTodo) :
    t.waitsAt c todo = s.waitsAt c todo := by
  unfold waitsAt
  rw [h]

theorem endWait_pass_congr {s t : State} (h : t.pass = s.pass) : t.endWait.pass = s.endWait.pass := by
  unfold endWait
  rw [h]
  split
  · simp [setRun, h]
  · exact h

/-- Once a wait is over nothing waits. -/
theorem endWait_waitsAt {s : State} {c : ControlId} {todo : EvalTodo} (h : s.waitsAt c todo = true) (d : ControlId)
    (other : EvalTodo) : s.endWait.waitsAt d other = false := by
  obtain ⟨-, e, run, -⟩ := (s.waitsAt_iff c todo).1 h
  simp [endWait_eq run, waitsAt, released]

/-- The wait of a punch-in under way is barred (R87, R88). -/
def Barred (s : State) (e : Evaluation) : Prop :=
  s.pass.run.wait ≠ none ∧ s.pass.run.underWay = some e ∧ e.todo = .punchIn ∧
    (s.writer.closeAllBar = true ∨ s.isSafe e.control = true)

theorem endBarredPunchIn_barred {s : State} {e : Evaluation} (h : s.Barred e) :
    s.endBarredPunchIn = s.setRun (released s.pass.run e) := by
  obtain ⟨wait, run, todo, bar⟩ := h
  have waits : s.waitsAt e.control .punchIn = true := (waitsAt_iff ..).2 ⟨wait, e, run, rfl, todo⟩
  simp only [endBarredPunchIn, run]
  rw [if_pos ⟨waits, bar⟩, endWait_eq run]

theorem not_barred_of_wait {s : State} (h : s.pass.run.wait = none) (e : Evaluation) : ¬s.Barred e :=
  fun barred => barred.1 h

theorem endBarredPunchIn_unbarred {s : State} (h : ∀ e, ¬s.Barred e) : s.endBarredPunchIn = s := by
  unfold endBarredPunchIn
  split
  · next e run =>
    refine if_neg fun ⟨waits, bar⟩ => ?_
    obtain ⟨wait, e', run', -, todo⟩ := (waitsAt_iff ..).1 waits
    obtain rfl : e = e' := Option.some.inj (run.symm.trans run')
    exact h e ⟨wait, run, todo, bar⟩
  · rfl

/-- The state with the close-all bar set if a pass is in flight (R87). -/
def barredInFlight (s : State) : State :=
  { s with writer := { s.writer with closeAllBar := s.writer.closeAllBar || s.pass.run.inFlight } }

theorem barIfInFlight_eq (s : State) : s.barIfInFlight = s.barredInFlight := by
  by_cases flight : s.pass.run.inFlight = true <;> simp [barIfInFlight, barredInFlight, flight]

/-! ## One close from outside (R96, R97) -/

/-- What closures keep: every block but the pass, the Segment Writer, the store, the memory port and the editor port, and of
these the pass's tables, the close-all bar, and the store's descriptors, state, load and free list. -/
structure KeptByClosures (s t : State) : Prop where
  frame : t = { s with pass := { s.pass with run := t.pass.run }, writer := t.writer, store := t.store, port := t.port,
                       editor := t.editor }
  bar : t.writer.closeAllBar = s.writer.closeAllBar
  descriptors : t.store.descriptors = s.store.descriptors
  storeState : t.store.storeState = s.store.storeState
  load : t.store.load = s.store.load
  freeHead : t.store.freeHead = s.store.freeHead
  memoryCount : t.store.memoryCount = s.store.memoryCount

namespace KeptByClosures

theorem refl (s : State) : KeptByClosures s s := ⟨rfl, rfl, rfl, rfl, rfl, rfl, rfl⟩

theorem trans {s t u : State} (h : KeptByClosures s t) (k : KeptByClosures t u) : KeptByClosures s u where
  frame := k.frame.trans (by rw [h.frame])
  bar := k.bar.trans h.bar
  descriptors := k.descriptors.trans h.descriptors
  storeState := k.storeState.trans h.storeState
  load := k.load.trans h.load
  freeHead := k.freeHead.trans h.freeHead
  memoryCount := k.memoryCount.trans h.memoryCount

end KeptByClosures

theorem setRun_kept (s : State) (x : PassRun) : KeptByClosures s (s.setRun x) := ⟨rfl, rfl, rfl, rfl, rfl, rfl, rfl⟩

theorem endWait_kept (s : State) : KeptByClosures s s.endWait := by
  unfold endWait
  split
  · exact setRun_kept ..
  · exact .refl s

theorem endBarredPunchIn_kept (s : State) : KeptByClosures s s.endBarredPunchIn := by
  unfold endBarredPunchIn
  split
  · split
    · exact endWait_kept s
    · exact .refl s
  · exact .refl s

theorem enqueueClosed_kept (s : State) (g : Segment) (final : Option Frame) : KeptByClosures s (s.enqueueClosed g final) := by
  have joined (u : State) (e : ClosedSegment) : KeptByClosures u (u.joinSpliceQueue e) := ⟨rfl, rfl, rfl, rfl, rfl, rfl, rfl⟩
  unfold enqueueClosed
  split
  · exact joined ..
  · split
    · split
      · next slot taken took =>
        obtain ⟨rest, -, -, takes⟩ := takeSlot_spec took
        have slotTaken : KeptByClosures s taken := by
          rw [takes]
          exact ⟨rfl, rfl, rfl, rfl, rfl, rfl, rfl⟩
        have posted : KeptByClosures taken (taken.postClosingWrite g slot) := ⟨rfl, rfl, rfl, rfl, rfl, rfl, rfl⟩
        exact (slotTaken.trans posted).trans (joined ..)
      · exact joined ..
    · exact joined ..

theorem closeOutside_kept (s : State) (c : ControlId) : KeptByClosures s (s.closeOutside c) := by
  unfold closeOutside
  split
  · next g opened =>
    have left : KeptByClosures s (s.setSegment c none) := ⟨rfl, rfl, rfl, rfl, rfl, rfl, rfl⟩
    have closed := left.trans (enqueueClosed_kept (s.setSegment c none) g
      (if g.outFrame < s.lastEvaluatedFrame c g then some (s.lastEvaluatedFrame c g) else none))
    dsimp only
    split
    · exact closed.trans (endWait_kept _)
    · exact closed
  · exact .refl s

/-- An append waits on the open segment of a control (R78). -/
def AppendWaits (s : State) (c : ControlId) : Prop := s.segmentOf c ≠ none ∧ s.waitsAt c .append = true

theorem closeOutside_pass_waiting {s : State} {c : ControlId} (h : s.AppendWaits c) :
    (s.closeOutside c).pass = s.endWait.pass := by
  obtain ⟨opened, waits⟩ := h
  obtain ⟨g, opened⟩ := Option.ne_none_iff_exists'.1 opened
  simp only [closeOutside, opened, waits, if_true]
  exact endWait_pass_congr (by simp [closeSegment])

theorem closeOutside_pass_other {s : State} {c : ControlId} (h : ¬s.AppendWaits c) : (s.closeOutside c).pass = s.pass := by
  unfold closeOutside
  split
  · next g opened =>
    have waits : ¬s.waitsAt c .append = true := fun waits => h ⟨by simp [opened], waits⟩
    simp [waits, closeSegment]
  · rfl

/-! ## Closures in order (R96) -/

/-- The closes from outside of controls, one after another. -/
def closeEach (s : State) (l : List ControlId) : State := l.foldl (fun u c => u.closeOutside c) s

theorem closeWhere_eq (s : State) (which : ControlId → Bool) :
    s.closeWhere which = s.closeEach ((List.finRange 208).filter which) := by
  rw [closeWhere, closeEach, List.foldl_filter]

theorem closeEach_kept (s : State) (l : List ControlId) : KeptByClosures s (s.closeEach l) := by
  induction l generalizing s with
  | nil => exact .refl s
  | cons c l ih => exact (closeOutside_kept s c).trans (ih _)

theorem closeEach_segmentOf (s : State) (l : List ControlId) (c : ControlId) :
    (s.closeEach l).segmentOf c = if c ∈ l then none else s.segmentOf c := by
  induction l generalizing s with
  | nil => simp [closeEach]
  | cons d l ih =>
    have step : (s.closeEach (d :: l)).segmentOf c = if c ∈ l then none else (s.closeOutside d).segmentOf c := ih _
    rw [step, closeOutside_segmentOf]
    by_cases same : c = d <;> simp [same]

/-- Each closed segment stands in the splice queue, in the order of the closes (R96, R99). -/
theorem closeEach_queued (s : State) {l : List ControlId} (once : l.Nodup) :
    (s.closeEach l).store.spliceQueue.map (fun e => e.segment.control) =
      s.store.spliceQueue.map (fun e => e.segment.control) ++ l.filterMap (fun c => (s.segmentOf c).map Segment.control) := by
  induction l generalizing s with
  | nil => simp [closeEach]
  | cons d l ih =>
    obtain ⟨notLater, once⟩ := List.nodup_cons.1 once
    have later : l.filterMap (fun c => ((s.closeOutside d).segmentOf c).map Segment.control) =
        l.filterMap (fun c => (s.segmentOf c).map Segment.control) :=
      List.filterMap_congr fun c hc => by
        rw [closeOutside_segmentOf, if_neg (ne_of_mem_of_not_mem hc notLater)]
    have step := ih (s.closeOutside d) once
    rw [later, closeOutside_queued, List.append_assoc] at step
    refine step.trans (congrArg _ ?_)
    cases opened : (s.segmentOf d).map Segment.control <;> simp [opened]

theorem closeEach_pass_other {s : State} {l : List ControlId} (h : ∀ c ∈ l, ¬s.AppendWaits c) :
    (s.closeEach l).pass = s.pass := by
  induction l generalizing s with
  | nil => rfl
  | cons d l ih =>
    have first := closeOutside_pass_other (h d List.mem_cons_self)
    refine (ih (s := s.closeOutside d) fun c hc waits => ?_).trans first
    obtain ⟨opened, waits⟩ := waits
    rw [waitsAt_congr first] at waits
    rw [closeOutside_segmentOf] at opened
    refine h c (List.mem_cons_of_mem d hc) ⟨fun closed => opened ?_, waits⟩
    simp [closed]

theorem closeEach_pass_waiting {s : State} {l : List ControlId} {c : ControlId} (hc : c ∈ l) (h : s.AppendWaits c) :
    (s.closeEach l).pass = s.endWait.pass := by
  induction l generalizing s with
  | nil => cases hc
  | cons d l ih =>
    by_cases here : s.AppendWaits d
    · have first := closeOutside_pass_waiting here
      refine (closeEach_pass_other (s := s.closeOutside d) fun k _ waits => ?_).trans first
      have ended : (s.closeOutside d).waitsAt k .append = s.endWait.waitsAt k .append := waitsAt_congr first k .append
      rw [endWait_waitsAt here.2] at ended
      exact Bool.false_ne_true (ended.symm.trans waits.2)
    · have first := closeOutside_pass_other here
      have later : c ≠ d := fun same => here (same ▸ h)
      obtain ⟨opened, waits⟩ := h
      refine (ih (s := s.closeOutside d) ((List.mem_cons.1 hc).resolve_left later) ⟨?_, ?_⟩).trans (endWait_pass_congr first)
      · rwa [closeOutside_segmentOf, if_neg later]
      · rwa [waitsAt_congr first]

theorem closeEach_run {s : State} {l : List ControlId} {e : Evaluation} (wait : s.pass.run.wait ≠ none)
    (run : s.pass.run.underWay = some e) (todo : e.todo = .append) (named : e.control ∈ l)
    (opened : s.segmentOf e.control ≠ none) : (s.closeEach l).pass.run = released s.pass.run e := by
  have waits : s.AppendWaits e.control := ⟨opened, (waitsAt_iff ..).2 ⟨wait, e, run, rfl, todo⟩⟩
  rw [closeEach_pass_waiting named waits, endWait_eq run]
  rfl

theorem not_appendWaits_of_todo {s : State} {e : Evaluation} (run : s.pass.run.underWay = some e) (todo : e.todo ≠ .append)
    (c : ControlId) : ¬s.AppendWaits c := by
  rintro ⟨-, waits⟩
  obtain ⟨-, e', run', -, todo'⟩ := (waitsAt_iff ..).1 waits
  obtain rfl : e = e' := Option.some.inj (run.symm.trans run')
  exact todo todo'

theorem not_appendWaits_of_wait {s : State} (h : s.pass.run.wait = none) (c : ControlId) : ¬s.AppendWaits c := by
  rintro ⟨-, waits⟩
  exact ((waitsAt_iff ..).1 waits).1 h

/-! ## A close-all request (R32, R87) -/

/-- Every control closes in order, under the bar; then a barred punch-in waits no more. -/
theorem closeAll_eq (s : State) :
    s.closeAll = (s.barredInFlight.closeEach (List.finRange 208)).endBarredPunchIn := by
  rw [closeAll, closeWhere_eq, List.filter_true, barIfInFlight_eq]

theorem closeAll_kept (s : State) : KeptByClosures s.barredInFlight s.closeAll := by
  rw [closeAll_eq]
  exact (closeEach_kept ..).trans (endBarredPunchIn_kept _)

theorem closeAll_segmentOf (s : State) (c : ControlId) : s.closeAll.segmentOf c = none := by
  have writer : s.closeAll.writer = (s.barredInFlight.closeEach (List.finRange 208)).writer := by
    rw [closeAll_eq]
    simp
  rw [segmentOf_congr writer, closeEach_segmentOf, if_pos (List.mem_finRange c)]

theorem closeAll_queued (s : State) : s.closeAll.store.spliceQueue.map (fun e => e.segment.control) =
    s.store.spliceQueue.map (fun e => e.segment.control) ++
      (List.finRange 208).filterMap (fun c => (s.segmentOf c).map Segment.control) := by
  have store : s.closeAll.store = (s.barredInFlight.closeEach (List.finRange 208)).store := by
    rw [closeAll_eq]
    simp
  rw [store]
  exact closeEach_queued _ (List.nodup_finRange 208)

/-- A wait for an append to a segment the request closes is over (R78). -/
theorem closeAll_run_of_append {s : State} {e : Evaluation} (wait : s.pass.run.wait ≠ none)
    (run : s.pass.run.underWay = some e) (todo : e.todo = .append) (opened : s.segmentOf e.control ≠ none) :
    s.closeAll.pass.run = released s.pass.run e := by
  have closed : (s.barredInFlight.closeEach (List.finRange 208)).pass.run = released s.pass.run e :=
    closeEach_run (s := s.barredInFlight) wait run todo (List.mem_finRange _) opened
  rw [closeAll_eq, endBarredPunchIn_unbarred (not_barred_of_wait (by rw [closed, released])), closed]

/-- A wait for a punch-in that the request bars is over (R87). -/
theorem closeAll_run_of_punchIn {s : State} {e : Evaluation} (wait : s.pass.run.wait ≠ none)
    (run : s.pass.run.underWay = some e) (todo : e.todo = .punchIn) (flight : s.pass.run.inFlight = true) :
    s.closeAll.pass.run = released s.pass.run e := by
  have pass : (s.barredInFlight.closeEach (List.finRange 208)).pass = s.pass :=
    closeEach_pass_other fun c _ => not_appendWaits_of_todo (s := s.barredInFlight) run (by simp [todo]) c
  have bar : (s.barredInFlight.closeEach (List.finRange 208)).writer.closeAllBar = true := by
    rw [(closeEach_kept ..).bar, barredInFlight]
    simp [flight]
  rw [closeAll_eq, endBarredPunchIn_barred (e := e) ⟨by rw [pass]; exact wait, by rw [pass]; exact run, todo, .inl bar⟩, pass]
  rfl

theorem closeAll_pass_of_wait {s : State} (h : s.pass.run.wait = none) : s.closeAll.pass = s.pass := by
  have pass : (s.barredInFlight.closeEach (List.finRange 208)).pass = s.pass :=
    closeEach_pass_other fun c _ => not_appendWaits_of_wait (s := s.barredInFlight) h c
  rw [closeAll_eq, endBarredPunchIn_unbarred (not_barred_of_wait (by rw [pass]; exact h)), pass]

theorem acquire_eq (s : State) : s.acquire = s.barredInFlight.endBarredPunchIn := by
  rw [acquire, barIfInFlight_eq]

end State

/-- Settles O11: a close-all request and the closures of named controls by induction on the controls in order, the bars by
whether the evaluation under way waits for a barred punch-in. -/
theorem barsAndClosures : Obligations.BarsAndClosures := by
  refine ⟨fun s => ?closeAll, fun s => ⟨fun e waits barred => ?acquireEnds, fun free => ?acquireKeeps⟩,
    fun s => ⟨fun e barred => State.endBarredPunchIn_barred barred, State.endBarredPunchIn_unbarred⟩,
    fun s which => ?closeWhere⟩
  case closeAll =>
    have kept := s.closeAll_kept
    refine ⟨s.closeAll_eq, s.closeAll_segmentOf, kept.bar, s.closeAll_queued, fun e wait run waits => ?_,
      State.closeAll_pass_of_wait, kept.frame,
      kept.descriptors, kept.storeState, kept.load, kept.freeHead, kept.memoryCount⟩
    rcases waits with ⟨todo, opened⟩ | ⟨todo, flight⟩
    · exact State.closeAll_run_of_append wait run todo opened
    · exact State.closeAll_run_of_punchIn wait run todo flight
  case acquireEnds =>
    obtain ⟨wait, run, todo⟩ := waits
    rw [State.acquire_eq]
    exact State.endBarredPunchIn_barred (s := s.barredInFlight) ⟨wait, run, todo, barred⟩
  case acquireKeeps =>
    rw [State.acquire_eq]
    refine State.endBarredPunchIn_unbarred (s := s.barredInFlight) fun e ⟨wait, run, todo, barred⟩ => ?_
    obtain ⟨unbarred, unsafeStem⟩ := free e ⟨wait, run, todo⟩
    rcases barred with bar | safe
    · exact Bool.false_ne_true (unbarred.symm.trans bar)
    · exact Bool.false_ne_true (unsafeStem.symm.trans safe)
  case closeWhere =>
    have named (c : ControlId) : c ∈ (List.finRange 208).filter which ↔ which c = true := by simp
    have kept := s.closeEach_kept ((List.finRange 208).filter which)
    intro t
    have each : t = s.closeEach ((List.finRange 208).filter which) := s.closeWhere_eq which
    rw [← each] at kept
    refine ⟨each, fun c => ?_, ?_, fun e wait run todo member opened => ?_, fun wait => ?_, kept.bar, kept.frame,
      kept.descriptors, kept.storeState, kept.load, kept.freeHead, kept.memoryCount⟩
    · rw [each, State.closeEach_segmentOf, if_congr (named c) rfl rfl]
    · rw [each]
      exact State.closeEach_queued s ((List.nodup_finRange 208).filter _)
    · rw [each]
      exact State.closeEach_run wait run todo ((named _).2 member) opened
    · rw [each]
      exact State.closeEach_pass_other fun c _ => State.not_appendWaits_of_wait wait c

end Sys2Proof.Machine
end

section
/-! SUPPORT. The held-touches counts (R42, R45 to R50, R54 to R58): a seat's count and the number of records that name it
change together, for one control at a time or for all the touches of some seats; no other command reaches the seats. -/

namespace Sys2Proof.Machine

open Sys2Proof.Safety

/-! ## Counting a table with one entry changed -/

/-- Two tests that agree but at one number pass as often, but for what they say of that number. -/
theorem countP_finRange_of_agree {n : Nat} {p q : Fin n → Bool} (c : Fin n) (agree : ∀ d, d ≠ c → p d = q d) :
    (List.finRange n).countP p + (q c).toNat = (List.finRange n).countP q + (p c).toNat := by
  have split (test : Fin n → Bool) :
      (List.finRange n).countP test = ((List.finRange n).erase c).countP test + (test c).toNat := by
    rw [(List.perm_cons_erase (List.mem_finRange c)).countP_eq, List.countP_cons]
    cases test c <;> rfl
  have rest : ((List.finRange n).erase c).countP p = ((List.finRange n).erase c).countP q :=
    List.countP_congr fun d listed => by rw [agree d ((List.nodup_finRange n).mem_erase_iff.1 listed).1]
  rw [split p, split q, rest]
  omega

namespace State

/-! ## Who holds a control (R42) -/

theorem holds_of_unheld {s : State} {c : ControlId} (i : SeatId) (h : s.touchOf c = none) : s.holds i c = false := by
  simp [holds, h]

theorem holds_of_held {s : State} {c : ControlId} {r : Touch} (i : SeatId) (h : s.touchOf c = some r) :
    s.holds i c = (r.holder == i) := by
  simp [holds, h]

theorem holds_congr {s t : State} {c : ControlId} (i : SeatId) (h : t.touchOf c = s.touchOf c) :
    t.holds i c = s.holds i c := by
  simp [holds, h]

theorem recordsHeldBy_eq (s : State) (i : SeatId) : recordsHeldBy s i = (List.finRange 208).countP (s.holds i) := rfl

theorem heldTouches_countHeld (s : State) (i j : SeatId) (f : Nat → Nat) :
    ((s.countHeld i f).seatOf j).heldTouches =
      if i = j then f (s.seatOf j).heldTouches else (s.seatOf j).heldTouches := by
  by_cases same : i = j
  · subst same
    simp [countHeld]
  · simp [countHeld, same]

@[simp] theorem touchOf_countHeld (s : State) (i : SeatId) (f : Nat → Nat) (c : ControlId) :
    (s.countHeld i f).touchOf c = s.touchOf c := rfl

/-! ## What keeps the counts exact -/

theorem heldCountsExact_congr {s t : State} (exact : HeldCountsExact s)
    (counts : ∀ i, (t.seatOf i).heldTouches = (s.seatOf i).heldTouches) (records : ∀ c, t.touchOf c = s.touchOf c) :
    HeldCountsExact t := fun i => by
  have same : t.holds i = s.holds i := funext fun c => holds_congr i (records c)
  rw [counts, exact, recordsHeldBy_eq, recordsHeldBy_eq, same]

theorem heldCountsExact_of_arbiter {s t : State} (exact : HeldCountsExact s) (h : t.arbiter = s.arbiter) :
    HeldCountsExact t :=
  heldCountsExact_congr exact (fun i => by rw [seatOf_congr h]) (touchOf_congr h)

/-- The counts stay exact where one record changes and each seat's count follows it. -/
theorem heldCountsExact_of_oneRecord {s t : State} (c : ControlId) (exact : HeldCountsExact s)
    (others : ∀ d, d ≠ c → t.touchOf d = s.touchOf d)
    (follows : ∀ i, (t.seatOf i).heldTouches + (s.holds i c).toNat = (s.seatOf i).heldTouches + (t.holds i c).toNat) :
    HeldCountsExact t := fun i => by
  have records : recordsHeldBy t i + (s.holds i c).toNat = recordsHeldBy s i + (t.holds i c).toNat :=
    countP_finRange_of_agree c fun d other => holds_congr i (others d other)
  have count := follows i
  rw [exact i] at count
  omega

/-- The holder of a record has a count of one at least, so taking the record away lowers it. -/
theorem heldTouches_pos {s : State} {c : ControlId} {r : Touch} (exact : HeldCountsExact s) (h : s.touchOf c = some r) :
    0 < (s.seatOf r.holder).heldTouches := by
  rw [exact, recordsHeldBy_eq, List.countP_pos_iff]
  exact ⟨c, List.mem_finRange c, by simp [holds_of_held _ h]⟩

theorem heldCountsExact_postReply {s : State} (exact : HeldCountsExact s) {p : SurfaceId} {n : Nat} {m : OutMessage} :
    HeldCountsExact (s.postReply p n m) := heldCountsExact_of_arbiter exact (by simp)

theorem heldCountsExact_postNotice {s : State} (exact : HeldCountsExact s) {i : SeatId} {c : ControlId} {n : SeatNotice} :
    HeldCountsExact (s.postNotice i c n) := heldCountsExact_of_arbiter exact (by simp)

theorem heldCountsExact_postEditor {s : State} (exact : HeldCountsExact s) {m : OutMessage} :
    HeldCountsExact (s.postEditor m) := heldCountsExact_of_arbiter exact (by simp)

theorem heldCountsExact_adjustVisibility {s : State} (exact : HeldCountsExact s) {before : State} {p : SurfaceId} :
    HeldCountsExact (s.adjustVisibility before p) := heldCountsExact_of_arbiter exact (by simp)

/-! ## The operations on one touch (R45 to R50, R54, R55) -/

/-- A record that keeps its holder changes no count (R46, R49, R55). -/
theorem heldCountsExact_setTouch_sameHolder {s : State} {c : ControlId} {r r' : Touch} (exact : HeldCountsExact s)
    (h : s.touchOf c = some r) (same : r'.holder = r.holder) : HeldCountsExact (s.setTouch c (some r')) := by
  refine heldCountsExact_of_oneRecord c exact (fun d other => touchOf_setTouch_ne s other.symm _) fun i => ?_
  rw [holds_of_held i h, holds_of_held i (touchOf_setTouch_self s c _), same, seatOf_setTouch]

theorem heldCountsExact_grantTouch {s : State} {c : ControlId} (i : SeatId) (exact : HeldCountsExact s)
    (unheld : s.touchOf c = none) : HeldCountsExact (s.grantTouch i c) := by
  unfold grantTouch
  refine heldCountsExact_of_oneRecord c exact (fun d other => by simp [other.symm]) fun j => ?_
  rw [holds_of_unheld j unheld, holds_of_held j (by simp; rfl), heldTouches_countHeld, seatOf_setTouch]
  by_cases granted : i = j <;> simp [granted]

theorem heldCountsExact_takeOver {s : State} {c : ControlId} {r : Touch} {i : SeatId} (exact : HeldCountsExact s)
    (held : s.touchOf c = some r) (other : r.holder ≠ i) : HeldCountsExact (s.takeOver i c r) := by
  have pos := heldTouches_pos exact held
  unfold takeOver
  refine heldCountsExact_postNotice ?_
  refine heldCountsExact_of_oneRecord c exact (fun d different => by simp [different.symm]) fun j => ?_
  rw [holds_of_held j held, holds_of_held j (by simp; rfl)]
  simp only [heldTouches_countHeld, seatOf_setTouch]
  by_cases gains : i = j
  · subst gains
    simp [other]
  · by_cases loses : r.holder = j
    · subst loses
      simp [gains, beq_false_of_ne gains]
      omega
    · simp [gains, loses, beq_false_of_ne gains, beq_false_of_ne loses]

theorem removeTouch_eq {s : State} {c : ControlId} {r : Touch} (held : s.touchOf c = some r) :
    s.removeTouch c = (s.setTouch c none).countHeld r.holder (· - 1) := by
  simp only [removeTouch, held]
  rfl

theorem heldCountsExact_removeTouch {s : State} (c : ControlId) (exact : HeldCountsExact s) :
    HeldCountsExact (s.removeTouch c) := by
  cases held : s.touchOf c with
  | none => simpa [removeTouch, held] using exact
  | some r =>
    have pos := heldTouches_pos exact held
    rw [removeTouch_eq held]
    refine heldCountsExact_of_oneRecord c exact (fun d other => by simp [other.symm]) fun j => ?_
    rw [holds_of_held j held, holds_of_unheld j (by simp), heldTouches_countHeld, seatOf_setTouch]
    by_cases loses : r.holder = j
    · subst loses
      simp
      omega
    · simp [loses]

theorem heldCountsExact_staleTest {s : State} (c : ControlId) (t : Frame) (exact : HeldCountsExact s) :
    HeldCountsExact (s.staleTest c t) := by
  unfold staleTest
  split
  · exact exact
  · split
    · next r held =>
      split_ifs
      · exact heldCountsExact_setTouch_sameHolder exact held rfl
      · exact heldCountsExact_postNotice (heldCountsExact_removeTouch c exact)
      · exact exact
    · exact exact

/-! ## The isolation release (R57, R58) -/

theorem seatOf_isolate (s : State) (seats : SeatId → Bool) (i : SeatId) :
    (s.isolate seats).seatOf i = if seats i then { s.seatOf i with heldTouches := 0 } else s.seatOf i :=
  tget_tbuild _ i

theorem touchOf_isolate (s : State) (seats : SeatId → Bool) (c : ControlId) :
    (s.isolate seats).touchOf c = (s.touchOf c).filter (fun r => !seats r.holder) := by
  refine (tget_tbuild _ c).trans ?_
  cases s.touchOf c with
  | none => rfl
  | some r => cases isolated : seats r.holder <;> simp [Option.filter_some, isolated]

/-- An isolated seat holds nothing, and every other seat what it held. -/
theorem holds_isolate (s : State) (seats : SeatId → Bool) (i : SeatId) (c : ControlId) :
    (s.isolate seats).holds i c = (!seats i && s.holds i c) := by
  unfold holds
  rw [touchOf_isolate]
  cases s.touchOf c with
  | none => simp
  | some r =>
    by_cases named : r.holder = i
    · subst named
      cases isolated : seats r.holder <;> simp [Option.filter_some, isolated]
    · cases isolated : seats r.holder <;> simp [Option.filter_some, isolated, named]

theorem heldCountsExact_isolate {s : State} (seats : SeatId → Bool) (exact : HeldCountsExact s) :
    HeldCountsExact (s.isolate seats) := fun i => by
  have records : (s.isolate seats).holds i = fun c => !seats i && s.holds i c := funext (holds_isolate s seats i)
  rw [recordsHeldBy_eq, records, seatOf_isolate]
  cases isolated : seats i
  · exact exact i
  · simp

/-! ## The commands that reach the seats -/

theorem heldCountsExact_evaluate {s : State} (c : ControlId) (t : Frame) (exact : HeldCountsExact s) :
    HeldCountsExact (s.evaluate c t) := by
  have stepped : HeldCountsExact (s.evaluationStep c t) :=
    heldCountsExact_staleTest c t (heldCountsExact_of_arbiter exact (by simp))
  exact heldCountsExact_of_arbiter stepped (by simp [evaluate])

theorem heldCountsExact_surfaceDown {s : State} (p : SurfaceId) (exact : HeldCountsExact s) :
    HeldCountsExact (s.surfaceDown p) :=
  heldCountsExact_isolate _ (heldCountsExact_of_arbiter exact (by simp))

theorem heldCountsExact_surfaceSilent {s : State} (p : SurfaceId) (expiry : Nat) (exact : HeldCountsExact s) :
    HeldCountsExact (s.surfaceSilent p expiry) := by
  have later : HeldCountsExact { s with now := max s.now expiry } := heldCountsExact_of_arbiter exact rfl
  exact heldCountsExact_of_arbiter (heldCountsExact_surfaceDown p later) (by simp [surfaceSilent])

theorem heldCountsExact_popEditor {s : State} (exact : HeldCountsExact s) : HeldCountsExact s.popEditor :=
  heldCountsExact_of_arbiter exact (by simp)

theorem heldCountsExact_touchControl {s : State} (p : SurfaceId) (m : SeatMessage) (i : SeatId) (c : ControlId)
    (exact : HeldCountsExact s) : HeldCountsExact (touchControl p m s i c) := by
  unfold touchControl
  split
  · next unheld => exact heldCountsExact_postReply (heldCountsExact_grantTouch i exact unheld)
  · next r held =>
    split_ifs with again
    · exact heldCountsExact_postReply (heldCountsExact_setTouch_sameHolder exact held (by rfl))
    · exact heldCountsExact_postReply (heldCountsExact_takeOver exact held again)
    · exact heldCountsExact_postReply exact

theorem heldCountsExact_moveControl {s : State} (p : SurfaceId) (m : SeatMessage) (l : Int) (i : SeatId) (c : ControlId)
    (exact : HeldCountsExact s) : HeldCountsExact (moveControl p m l s i c) := by
  unfold moveControl
  split
  · next r held =>
    split_ifs
    · exact heldCountsExact_setTouch_sameHolder (s := s.setLive c _)
        (heldCountsExact_congr exact (fun _ => rfl) fun _ => rfl) held rfl
    · exact heldCountsExact_postReply exact
  · exact heldCountsExact_postReply exact

theorem heldCountsExact_releaseControl {s : State} (p : SurfaceId) (m : SeatMessage) (i : SeatId) (c : ControlId)
    (exact : HeldCountsExact s) : HeldCountsExact (releaseControl p m s i c) := by
  unfold releaseControl
  split
  · exact heldCountsExact_postReply (heldCountsExact_removeTouch c exact)
  · exact heldCountsExact_postReply exact

/-- The take of a message that names a fader keeps the counts exact if the message's effect does (R44). -/
theorem heldCountsExact_takeFader {s : State} (p : SurfaceId) (m : SeatMessage) (f : Nat)
    {effect : State → SeatId → ControlId → State}
    (keeps : ∀ (s : State) (i : SeatId) (c : ControlId), HeldCountsExact s → HeldCountsExact (effect s i c))
    (exact : HeldCountsExact s) : HeldCountsExact (s.takeFader p m f effect) := by
  have popped : HeldCountsExact (s.popSurface p) := heldCountsExact_of_arbiter exact (by simp)
  unfold takeFader
  dsimp only
  split
  · exact heldCountsExact_postReply popped
  · split
    · exact heldCountsExact_postReply popped
    · exact heldCountsExact_postReply popped
    · exact keeps _ _ _ popped

/-- A seat record whose count stays changes no count. -/
theorem heldCountsExact_setSeat {s : State} {i : SeatId} {x : Seat} (exact : HeldCountsExact s)
    (same : x.heldTouches = (s.seatOf i).heldTouches) : HeldCountsExact (s.setSeat i x) := by
  refine heldCountsExact_congr exact (fun j => ?_) fun c => rfl
  by_cases changed : i = j
  · subst changed
    simpa using same
  · simp [changed]

theorem heldCountsExact_takeBank {s : State} (p : SurfaceId) (m : SeatMessage) (base : Nat) (exact : HeldCountsExact s) :
    HeldCountsExact (s.takeBank p m base) := by
  have popped : HeldCountsExact (s.popSurface p) := heldCountsExact_of_arbiter exact (by simp)
  unfold takeBank
  dsimp only
  split
  · exact heldCountsExact_postReply popped
  · next i _ =>
    split_ifs
    · exact heldCountsExact_postReply popped
    · exact heldCountsExact_postReply popped
    · exact heldCountsExact_adjustVisibility (heldCountsExact_setSeat popped (by rfl))

theorem heldCountsExact_remapSeat {s : State} (i : SeatId) (link : Option SurfaceId) (rank : Nat)
    (exact : HeldCountsExact s) : HeldCountsExact (s.remapSeat i link rank) := by
  unfold remapSeat
  split
  · exact heldCountsExact_setSeat exact rfl
  · have remapped : HeldCountsExact ((s.isolate (fun j => j == i)).setSeat i
        { (s.isolate (fun j => j == i)).seatOf i with link := link, rank := rank, bankBase := 0 }) :=
      heldCountsExact_setSeat (heldCountsExact_isolate (fun j => j == i) exact) rfl
    exact heldCountsExact_of_arbiter remapped (by simp)

theorem heldCountsExact_takeSetSeat {s : State} (seat link rank : Byte) (exact : HeldCountsExact s) :
    HeldCountsExact (s.takeSetSeat seat link rank) := by
  unfold takeSetSeat
  split
  · next i l _ _ =>
    split_ifs
    · exact heldCountsExact_postEditor exact
    · exact heldCountsExact_postEditor exact
    · exact heldCountsExact_postEditor (heldCountsExact_remapSeat i l _ exact)
  · exact heldCountsExact_postEditor exact

theorem heldCountsExact_takeSetHub {s : State} (rate acquire limit : Byte) (stale : Nat) (exact : HeldCountsExact s) :
    HeldCountsExact (s.takeSetHub rate acquire limit stale) := by
  unfold takeSetHub
  split
  · exact heldCountsExact_postEditor exact
  · exact heldCountsExact_congr exact (fun _ => rfl) fun _ => rfl

theorem heldCountsExact_takeMixReset {s : State} (exact : HeldCountsExact s) : HeldCountsExact s.takeMixReset :=
  heldCountsExact_of_arbiter (heldCountsExact_isolate (fun _ => true) exact) (by simp [takeMixReset, removeAllTouches])

theorem heldCountsExact_takeLinkReset {s : State} (port : Byte) (exact : HeldCountsExact s) :
    HeldCountsExact (s.takeLinkReset port) := by
  unfold takeLinkReset
  split_ifs
  · exact heldCountsExact_postEditor (heldCountsExact_surfaceDown _ exact)
  · exact heldCountsExact_of_arbiter exact (by simp)
  · exact heldCountsExact_postEditor exact

theorem heldCountsExact_powerOnReset (s : State) : HeldCountsExact s.powerOnReset :=
  heldCountsExact_of_arbiter heldCountsExact_reset rfl

/-- The take of a message that names a fader leaves the Touch Arbiter as it is if the message's effect does. -/
theorem takeFader_arbiter (s : State) (p : SurfaceId) (m : SeatMessage) (f : Nat)
    {effect : State → SeatId → ControlId → State}
    (keeps : ∀ (s : State) (i : SeatId) (c : ControlId), (effect s i c).arbiter = s.arbiter) :
    (s.takeFader p m f effect).arbiter = s.arbiter := by
  unfold takeFader
  dsimp only
  split
  · simp
  · split
    · simp
    · simp
    · simp [keeps]

end State

/-! ## Every step (R42) -/

/-- An outcome that goes on to a state with exact counts. -/
def GoesOnExact (o : Host.Outcome State Fault Refusal) : Prop := ∃ t, o = .next t ∧ HeldCountsExact t

theorem goesOnExact_next {t : State} (exact : HeldCountsExact t) : GoesOnExact (.next t) := ⟨t, rfl, exact⟩

theorem goesOnExact_transmitAt {t : State} {p : SurfaceId} (exact : HeldCountsExact t) :
    GoesOnExact (.next (t.transmitAt p)) :=
  goesOnExact_next (State.heldCountsExact_of_arbiter exact (by simp))

theorem goesOnExact_transmitEditor {t : State} (exact : HeldCountsExact t) : GoesOnExact (.next t.transmitEditor) :=
  goesOnExact_next (State.heldCountsExact_of_arbiter exact (by simp))

theorem goesOnExact_transmitAll {t : State} (exact : HeldCountsExact t) : GoesOnExact (.next t.transmitAll) :=
  goesOnExact_next (State.heldCountsExact_of_arbiter exact (by simp))

/-- The commands that reach the seats, the touch table or the stale timeout. -/
def reachesArbiter : Instr → Bool
  | .powerOnReset | .controlEvaluation | .silenceExpiry _ | .touch _ | .move _ | .release _ | .bank _ | .setSeat
  | .setHub | .mixReset | .linkReset => true
  | _ => false

/-- Every other command leaves the Touch Arbiter as it is. -/
theorem exec_arbiter {c : Instr} (s : State) (apart : reachesArbiter c = false) :
    ∃ t, exec c s = .next t ∧ t.arbiter = s.arbiter := by
  cases c with
  | powerOnReset | controlEvaluation | silenceExpiry | touch | move | release | bank | setSeat | setHub | mixReset
  | linkReset => cases apart
  | frameMark ok f m => exact ⟨_, rfl, by split <;> simp⟩
  | frameTimerExpiry | deferredClosingWork | loadRecordSlot => exact ⟨_, rfl, by simp⟩
  | blockStart | blockEnd | engineRead => exact ⟨_, rfl, rfl⟩
  | surfaceFrameReceived | editorFrameReceived => exact ⟨_, rfl, by simp⟩
  | farHoldChange port raised => cases port <;> exact ⟨_, rfl, by simp⟩
  | mode | query =>
    simp only [exec, execMode, execQuery]
    split
    · exact ⟨_, rfl, by simp [State.takeFader_arbiter]⟩
    · exact ⟨_, rfl, rfl⟩
  | evaluationResume | memoryGrant | appendWriteComplete | closingWriteComplete | chainReturnWriteComplete
  | refillReadComplete | fetchComplete | walkStart | walkReadComplete | spliceStart | spliceWalkReadComplete
  | spliceWriteComplete | formatWriteComplete | loadWriteComplete | loadReplacement | clearListEvent | listReadRequest
  | listReadComplete | surfaceFrameSent | hello | editorSilenceExpiry | editorFrameSent | setControl | setStem
  | listBegin | listRecord | listEnd | readList | clearList | status | clearFlags =>
    simp only [exec, execEvaluationResume, execMemoryGrant, execAppendWriteComplete, execClosingWriteComplete,
      execChainReturnWriteComplete, execRefillReadComplete, execFetchComplete, execWalkStart, execWalkReadComplete,
      execSpliceStart, execSpliceWalkReadComplete, execSpliceWriteComplete, execFormatWriteComplete,
      execLoadWriteComplete, execLoadReplacement, execClearListEvent, execListReadRequest, execListReadComplete,
      execSurfaceFrameSent, execHello, execEditorSilenceExpiry, execEditorFrameSent, execSetControl, execSetStem,
      execListBegin, execListRecord, execListEnd, execReadList, execClearList, execStatus, execClearFlags]
    split <;> exact ⟨_, rfl, by simp⟩

/-- Each command that reaches the seats keeps the counts exact. -/
theorem exec_heldCountsExact {c : Instr} {s : State} (reaches : reachesArbiter c = true) (exact : HeldCountsExact s) :
    GoesOnExact (exec c s) := by
  cases c with
  | powerOnReset => exact goesOnExact_next (State.heldCountsExact_powerOnReset s)
  | controlEvaluation =>
    simp only [exec, execControlEvaluation]
    split
    · next c t _ =>
      exact goesOnExact_transmitAll (State.heldCountsExact_of_arbiter (State.heldCountsExact_evaluate c t exact) (by simp))
    · exact goesOnExact_next exact
  | silenceExpiry p =>
    simp only [exec, execSilenceExpiry]
    split
    · next expiry _ => exact goesOnExact_transmitEditor (State.heldCountsExact_surfaceSilent p expiry exact)
    · exact goesOnExact_next exact
  | touch p =>
    simp only [exec, execTouch]
    split
    · exact goesOnExact_transmitAll
        (State.heldCountsExact_takeFader p _ _ (fun _ i c => State.heldCountsExact_touchControl p _ i c) exact)
    · exact goesOnExact_next exact
  | move p =>
    simp only [exec, execMove]
    split
    · exact goesOnExact_transmitAt
        (State.heldCountsExact_takeFader p _ _ (fun _ i c => State.heldCountsExact_moveControl p _ _ i c) exact)
    · exact goesOnExact_next exact
  | release p =>
    simp only [exec, execRelease]
    split
    · exact goesOnExact_transmitAt
        (State.heldCountsExact_takeFader p _ _ (fun _ i c => State.heldCountsExact_releaseControl p _ i c) exact)
    · exact goesOnExact_next exact
  | bank p =>
    simp only [exec, execBank]
    split
    · exact goesOnExact_transmitAt (State.heldCountsExact_takeBank p _ _ exact)
    · exact goesOnExact_next exact
  | setSeat =>
    simp only [exec, execSetSeat]
    split
    · exact goesOnExact_transmitAll (State.heldCountsExact_takeSetSeat _ _ _ (State.heldCountsExact_popEditor exact))
    · exact goesOnExact_next exact
  | setHub =>
    simp only [exec, execSetHub]
    split
    · exact goesOnExact_transmitEditor (State.heldCountsExact_takeSetHub _ _ _ _ (State.heldCountsExact_popEditor exact))
    · exact goesOnExact_next exact
  | mixReset =>
    simp only [exec, execMixReset]
    split
    · exact goesOnExact_transmitEditor (State.heldCountsExact_takeMixReset (State.heldCountsExact_popEditor exact))
    · exact goesOnExact_next exact
  | linkReset =>
    simp only [exec, execLinkReset]
    split
    · exact goesOnExact_transmitEditor (State.heldCountsExact_takeLinkReset _ (State.heldCountsExact_popEditor exact))
    · exact goesOnExact_next exact
  | _ => cases reaches

theorem exec_goesOnExact (c : Instr) {s : State} (exact : HeldCountsExact s) : GoesOnExact (exec c s) := by
  cases reaches : reachesArbiter c with
  | true => exact exec_heldCountsExact reaches exact
  | false =>
    obtain ⟨t, next, kept⟩ := exec_arbiter s reaches
    exact ⟨t, next, State.heldCountsExact_of_arbiter exact kept⟩

/-- Settles O58: an idle step reaches no seat, and each command keeps the counts exact. -/
theorem stepKeepsHeldCountsExact : Obligations.StepKeepsHeldCountsExact := by
  intro s t exact stepped
  have goesOn : GoesOnExact (step s) := by
    unfold step
    split
    · exact goesOnExact_next (State.heldCountsExact_of_arbiter exact rfl)
    · exact exec_goesOnExact _ (State.heldCountsExact_of_arbiter exact rfl)
  obtain ⟨u, next, kept⟩ := goesOn
  rw [stepped] at next
  cases next
  exact kept

end Sys2Proof.Machine
end

section
/-! SUPPORT. The take of a seat message (R40, R44, R161, R162): the message leaves the queue, the seat number and the fader
are checked in the order of R44's table, and the message's effect follows. -/

namespace Sys2Proof.Machine

open Sys2Proof.Safety

namespace State

/-! ## The take (R44, R161) -/

theorem headMessage_of_handed {s : State} {p : SurfaceId} {n : Nat} {b : SeatBody} (h : Handed s p n b) :
    s.headMessage p = some { seat := n, body := b } := by
  obtain ⟨-, room, head⟩ := h
  rw [headMessage, if_pos room, head]

@[simp] theorem setSurface_setSurface (s : State) (p : SurfaceId) (x y : SurfacePort) :
    (s.setSurface p x).setSurface p y = s.setSurface p y := by
  simp [setSurface, tset]

theorem popSurface_eq (s : State) (p : SurfaceId) :
    s.popSurface p = s.setSurface p (tookMessage (s.surfaceOf p) []) := by
  simp [popSurface, SurfacePort.taken, tookMessage]

/-- A take that posts one reply (R164). -/
theorem popSurface_postReply {s : State} {p : SurfaceId} (up : (s.surfaceOf p).link = .up) (n : Nat) (m : OutMessage) :
    (s.popSurface p).postReply p n m = s.setSurface p (tookMessage (s.surfaceOf p) [{ seat := n, message := m }]) := by
  simp [popSurface, SurfacePort.taken, tookMessage, postReply, whenUp, up]

theorem popSurface_refuseTake {s : State} {p : SurfaceId} (up : (s.surfaceOf p).link = .up) (m : SeatMessage)
    (reason : RefusalReason) (control : Option Byte) :
    (s.popSurface p).refuseTake p m reason control =
      s.setSurface p (tookMessage (s.surfaceOf p)
        [{ seat := m.seat, message := .refused reason m.body.kind control }]) :=
  popSurface_postReply up _ _

/-! ## Seat numbers and faders (R39, R40) -/

theorem seatNumber_eq_some_iff {n : Nat} {i : SeatId} : seatNumber n = some i ↔ n = i.val + 1 := by
  have bound := i.isLt
  unfold seatNumber
  split
  · rw [Option.some.injEq, Fin.ext_iff]
    dsimp only
    omega
  · simp
    omega

theorem mappedSeat_of_mapped {s : State} {p : SurfaceId} {n : Nat} {i : SeatId} (named : n = i.val + 1)
    (mapped : (s.seatOf i).link = some p) : s.mappedSeat p n = some i := by
  rw [mappedSeat, seatNumber_eq_some_iff.2 named]
  exact if_pos mapped

theorem mappedSeat_of_notMappedAt {s : State} {p : SurfaceId} {n : Nat} (h : NotMappedAt s p n) :
    s.mappedSeat p n = none := by
  unfold mappedSeat
  split
  · next i named => exact if_neg (h i (seatNumber_eq_some_iff.1 named))
  · rfl

theorem popSurface_mappedSeat (s : State) (p : SurfaceId) (n : Nat) :
    (s.popSurface p).mappedSeat p n = s.mappedSeat p n := rfl

end State

theorem mapFader_bad {base f : Nat} (h : 31 < f) : mapFader base f = .badFader := if_pos h

theorem mapFader_noControl {base f : Nat} (fader : f ≤ 31) (h : 207 < base + f) :
    mapFader base f = .noControl (base + f) := by
  rw [mapFader, if_neg (by omega), controlNumber_eq_none h]

theorem mapFader_control {base f : Nat} {c : ControlId} (fader : f ≤ 31) (h : c.val = base + f) :
    mapFader base f = .control c := by
  rw [mapFader, if_neg (by omega), ← h, controlNumber_val]

namespace State

/-! ## A message that names a fader (R44) -/

theorem takeFader_notMapped {s : State} {p : SurfaceId} {m : SeatMessage} (f : Nat)
    (effect : State → SeatId → ControlId → State) (h : NotMappedAt s p m.seat) :
    s.takeFader p m f effect = (s.popSurface p).refuseTake p m .notMapped none := by
  simp only [takeFader, popSurface_mappedSeat, mappedSeat_of_notMappedAt h]

/-- What the take of a mapped seat's message comes to, by what its fader maps to. -/
theorem takeFader_mapped {s : State} {p : SurfaceId} {m : SeatMessage} {i : SeatId} (f : Nat)
    (effect : State → SeatId → ControlId → State) (named : m.seat = i.val + 1) (mapped : (s.seatOf i).link = some p) :
    s.takeFader p m f effect = match mapFader (s.seatOf i).bankBase f with
      | .badFader => (s.popSurface p).refuseTake p m .badValue none
      | .noControl n => (s.popSurface p).refuseTake p m .noControl (some (byteOf n))
      | .control c => effect (s.popSurface p) i c := by
  simp only [takeFader, popSurface_mappedSeat, mappedSeat_of_mapped named mapped]
  rfl

/-- What a message that names a fader does to the control it addresses. -/
def faderEffect (p : SurfaceId) (m : SeatMessage) : State → SeatId → ControlId → State :=
  match m.body with
  | .touch _ => touchControl p m
  | .move _ level => moveControl p m level
  | .release _ => releaseControl p m
  | .mode _ code => modeControl p m code
  | .query _ => queryControl p m
  | .hello | .bank _ => fun s _ _ => s

/-- The five messages that name a fader are taken in one way. -/
theorem goesOn_takeFader {s : State} {p : SurfaceId} {n f : Nat} {b : SeatBody} (handed : Handed s p n b)
    (fader : faderOf b = some f) :
    GoesOnTo (exec (takeOf p b) s)
      (s.takeFader p { seat := n, body := b } f (faderEffect p { seat := n, body := b })) := by
  have head := headMessage_of_handed handed
  cases b with
  | hello | bank => cases fader
  | touch g =>
    cases fader
    simp only [exec, takeOf, execTouch, head]
    exact goesOn_transmitAll _
  | move g level =>
    cases fader
    simp only [exec, takeOf, execMove, head]
    exact goesOn_transmitAt _ p
  | release g =>
    cases fader
    simp only [exec, takeOf, execRelease, head]
    exact goesOn_transmitAt _ p
  | mode g code =>
    cases fader
    simp only [exec, takeOf, execMode, head]
    exact goesOn_transmitAt _ p
  | query g =>
    cases fader
    simp only [exec, takeOf, execQuery, head]
    exact goesOn_transmitAt _ p

/-- A message that addresses a control has its effect on the state that the message has left. -/
theorem goesOn_of_effect {u s : State} {p : SurfaceId} {n f : Nat} {i : SeatId} {c : ControlId} {b : SeatBody}
    (handed : Handed s p n b) (fader : faderOf b = some f) (addressed : Addresses s p n i f c)
    (effect : faderEffect p { seat := n, body := b } (s.popSurface p) i c = u) : GoesOnTo (exec (takeOf p b) s) u := by
  obtain ⟨named, mapped, low, number⟩ := addressed
  have taken : s.takeFader p { seat := n, body := b } f (faderEffect p { seat := n, body := b }) = u := by
    rw [takeFader_mapped f _ named mapped, mapFader_control low number]
    exact effect
  exact taken ▸ goesOn_takeFader handed fader

/-- An effect that changes a state u, with the sender's port as it was, and posts one reply (R164). -/
theorem goesOn_of_reply {u s : State} {p : SurfaceId} {n f : Nat} {i : SeatId} {c : ControlId} {b : SeatBody}
    {m : OutMessage} (handed : Handed s p n b) (fader : faderOf b = some f) (addressed : Addresses s p n i f c)
    (port : u.surfaceOf p = s.surfaceOf p)
    (effect : faderEffect p { seat := n, body := b } (s.popSurface p) i c = (u.popSurface p).postReply p n m) :
    GoesOnTo (exec (takeOf p b) s)
      (u.setSurface p (tookMessage (s.surfaceOf p) [{ seat := n, message := m }])) := by
  have up : (u.surfaceOf p).link = .up := by
    rw [port]
    exact handed.1
  rw [popSurface_postReply up, port] at effect
  exact goesOn_of_effect handed fader addressed effect

/-! ## TOUCH (R45 to R47) -/

theorem touchControl_unheld {s : State} {c : ControlId} (p : SurfaceId) (m : SeatMessage) (i : SeatId)
    (h : s.touchOf c = none) : touchControl p m s i c = (s.grantTouch i c).postReply p m.seat (.grant c) := by
  simp only [touchControl, h]

theorem touchControl_again {s : State} {c : ControlId} {r : Touch} (p : SurfaceId) (m : SeatMessage) {i : SeatId}
    (h : s.touchOf c = some r) (again : r.holder = i) : touchControl p m s i c =
      (s.setTouch c (some { r with lastMove := s.tracker.currentFrame })).postReply p m.seat (.grant c) := by
  simp only [touchControl, h, if_pos again]

theorem touchControl_takesOver {s : State} {c : ControlId} {r : Touch} (p : SurfaceId) (m : SeatMessage) {i : SeatId}
    (h : s.touchOf c = some r) (other : r.holder ≠ i) (higher : (s.seatOf r.holder).rank < (s.seatOf i).rank) :
    touchControl p m s i c = (s.takeOver i c r).postReply p m.seat (.grant c) := by
  simp only [touchControl, h, if_neg other, if_pos higher]

theorem touchControl_loses {s : State} {c : ControlId} {r : Touch} (p : SurfaceId) (m : SeatMessage) {i : SeatId}
    (h : s.touchOf c = some r) (other : r.holder ≠ i) (notHigher : (s.seatOf i).rank ≤ (s.seatOf r.holder).rank) :
    touchControl p m s i c = s.postReply p m.seat (.lost c r.holder) := by
  simp only [touchControl, h, if_neg other, if_neg (not_lt.2 notHigher)]

@[simp] theorem link_countHeld (s : State) (i j : SeatId) (f : Nat → Nat) :
    ((s.countHeld i f).seatOf j).link = (s.seatOf j).link := by
  by_cases same : i = j
  · subst same
    simp [countHeld]
  · simp [countHeld, same]

theorem postReply_surfaceOf (s : State) (p q : SurfaceId) (n : Nat) (m : OutMessage) : (s.postReply p n m).surfaceOf q =
    if p = q ∧ (s.surfaceOf q).link = .up then
      { s.surfaceOf q with replies := (s.surfaceOf q).replies ++ [{ seat := n, message := m }] }
    else s.surfaceOf q := whenUp_surfaceOf ..

/-- A reply changes nothing but the surface ports. -/
theorem postReply_eq (s : State) (p : SurfaceId) (n : Nat) (m : OutMessage) :
    s.postReply p n m = { s with surface := (s.postReply p n m).surface } := whenUp_eq ..

/-- The arbiter after a takeover, with the two counts written out (R47). -/
theorem takeOver_eq {s : State} {i : SeatId} {c : ControlId} {r : Touch} (other : r.holder ≠ i) :
    s.takeOver i c r = (((s.setTouch c (some { r with holder := i, lastMove := s.tracker.currentFrame })).setSeat r.holder
        { s.seatOf r.holder with heldTouches := (s.seatOf r.holder).heldTouches - 1 }).setSeat i
      { s.seatOf i with heldTouches := (s.seatOf i).heldTouches + 1 }).postNotice r.holder c (.taken i) := by
  simp [takeOver, countHeld, other]

theorem popSurface_surfaceOf (s : State) (p q : SurfaceId) :
    (s.popSurface p).surfaceOf q = if q = p then tookMessage (s.surfaceOf p) [] else s.surfaceOf q := by
  rw [popSurface_eq]
  split
  · next same => rw [same, surfaceOf_setSurface_self]
  · next other => rw [surfaceOf_setSurface_ne s (Ne.symm other)]

@[simp] theorem link_popSurface (s : State) (p q : SurfaceId) :
    ((s.popSurface p).surfaceOf q).link = (s.surfaceOf q).link := by
  rw [popSurface_surfaceOf]
  split
  · next same => rw [same]; rfl
  · rfl

@[simp] theorem surfaceOf_countHeld (s : State) (i : SeatId) (f : Nat → Nat) (p : SurfaceId) :
    (s.countHeld i f).surfaceOf p = s.surfaceOf p := rfl

/-- TAKEN to the old holder at its port, if that is UP (R47; log 19). -/
theorem takeOver_surfaceOf (s : State) (i : SeatId) (c : ControlId) (r : Touch) (q : SurfaceId) :
    (s.takeOver i c r).surfaceOf q = if (s.seatOf r.holder).link = some q ∧ (s.surfaceOf q).link = .up then
      { s.surfaceOf q with
        notices := tset (s.surfaceOf q).notices c (some { notice := .taken i, seat := r.holder, onLink := false }) }
    else s.surfaceOf q := by
  simp [takeOver, postNotice_surfaceOf]

/-- The surface ports after the take of a TOUCH that takes over: GRANT at the sender's port, and TAKEN (R47). -/
theorem takenOver_surfaceOf {s : State} {p : SurfaceId} (up : (s.surfaceOf p).link = .up) (i : SeatId) (c : ControlId)
    (r : Touch) (n : Nat) (q : SurfaceId) :
    (((s.popSurface p).takeOver i c r).postReply p n (.grant c)).surfaceOf q =
      let x := if q = p then tookMessage (s.surfaceOf p) [{ seat := n, message := .grant c }] else s.surfaceOf q
      if (s.seatOf r.holder).link = some q ∧ x.link = .up then
        { x with notices := tset x.notices c (some { notice := .taken i, seat := r.holder, onLink := false }) }
      else x := by
  have seat : (s.popSurface p).seatOf r.holder = s.seatOf r.holder := rfl
  simp only [postReply_surfaceOf, takeOver_surfaceOf, popSurface_surfaceOf, seat]
  by_cases same : q = p
  · subst same
    by_cases owed : (s.seatOf r.holder).link = some q <;> simp [owed, up, tookMessage]
  · simp [same, Ne.symm same]

/-- The rest of the part after the take of a TOUCH that takes over: the record and the two counts (R47). -/
theorem takenOver_eq {s : State} {i : SeatId} {c : ControlId} {r : Touch} (p : SurfaceId) (n : Nat)
    (other : r.holder ≠ i) : ((s.popSurface p).takeOver i c r).postReply p n (.grant c) =
      { ((s.setTouch c (some { holder := i, lastMove := s.tracker.currentFrame, reference := r.reference })).setSeat
            r.holder { s.seatOf r.holder with heldTouches := (s.seatOf r.holder).heldTouches - 1 }).setSeat i
          { s.seatOf i with heldTouches := (s.seatOf i).heldTouches + 1 } with
        surface := (((s.popSurface p).takeOver i c r).postReply p n (.grant c)).surface } := by
  refine (postReply_eq ..).trans ?_
  rw [takeOver_eq other, postNotice_eq]
  rfl

/-! ## BANK (R51, R168) and HELLO (R163) -/

theorem visible_congr {s t : State} (h : t.arbiter = s.arbiter) (p : SurfaceId) (c : ControlId) :
    t.visible p c = s.visible p c := by
  simp only [visible, seatOf_congr h]

/-- A port's follow set once visibility has changed since an earlier state (R168). -/
def adjustedFollow (s before : State) (p : SurfaceId) : Vector (Option FollowEntry) 208 :=
  tbuild (fun c =>
    if s.visible p c && !before.visible p c then some { level := (s.recordOf c).presented, onLink := false }
    else if before.visible p c && !s.visible p c then none
    else tget (s.surfaceOf p).follow c)

/-- An entry comes in with the presented level, goes out, or is as it was (R168). -/
theorem tget_adjustedFollow (s before : State) (p : SurfaceId) (c : ControlId) :
    tget (s.adjustedFollow before p) c =
      if s.visible p c = true ∧ before.visible p c = false then some { level := (s.recordOf c).presented, onLink := false }
      else if s.visible p c = false ∧ before.visible p c = true then none
      else tget (s.surfaceOf p).follow c := by
  rw [adjustedFollow, tget_tbuild]
  cases s.visible p c <;> cases before.visible p c <;> rfl

theorem adjustVisibility_surfaceOf (s before : State) (p q : SurfaceId) :
    (s.adjustVisibility before p).surfaceOf q = if p = q ∧ (s.surfaceOf q).link = .up then
      { s.surfaceOf q with follow := s.adjustedFollow before q } else s.surfaceOf q := by
  rw [adjustVisibility, whenUp_surfaceOf]
  by_cases same : p = q
  · subst same
    rfl
  · simp [same]

theorem adjustVisibility_up {s : State} {p : SurfaceId} (before : State) (up : (s.surfaceOf p).link = .up) :
    s.adjustVisibility before p =
      s.setSurface p { s.surfaceOf p with follow := s.adjustedFollow before p } := by
  rw [adjustVisibility, whenUp, if_pos up]
  rfl

theorem takeBank_notMapped {s : State} {p : SurfaceId} {m : SeatMessage} (base : Nat) (h : NotMappedAt s p m.seat) :
    s.takeBank p m base = (s.popSurface p).refuseTake p m .notMapped none := by
  simp only [takeBank, popSurface_mappedSeat, mappedSeat_of_notMappedAt h]

/-- What the take of a mapped seat's BANK comes to (R51). -/
theorem takeBank_mapped {s : State} {p : SurfaceId} {m : SeatMessage} {i : SeatId} (base : Nat)
    (named : m.seat = i.val + 1) (mapped : (s.seatOf i).link = some p) :
    s.takeBank p m base = if 0 < (s.seatOf i).heldTouches then (s.popSurface p).refuseTake p m .touchHeld none
      else if 207 < base then (s.popSurface p).refuseTake p m .noControl none
      else ((s.setSeat i { s.seatOf i with bankBase := base }).popSurface p).adjustVisibility (s.popSurface p) p := by
  simp only [takeBank, popSurface_mappedSeat, mappedSeat_of_mapped named mapped]
  rfl

theorem adjustedFollow_popSurface (s before : State) (p : SurfaceId) :
    (s.popSurface p).adjustedFollow (before.popSurface p) p = s.adjustedFollow before p := by
  simp only [adjustedFollow, popSurface_surfaceOf, if_pos]
  rfl

/-- The take of a BANK of a seat that holds no touch (R51, R168). -/
theorem takeBank_taken {s : State} {p : SurfaceId} {n base : Nat} {i : SeatId} (up : (s.surfaceOf p).link = .up)
    (named : n = i.val + 1) (mapped : (s.seatOf i).link = some p) (free : (s.seatOf i).heldTouches = 0)
    (legal : base ≤ 207) :
    let banked := s.setSeat i { s.seatOf i with bankBase := base }
    s.takeBank p { seat := n, body := .bank base } base =
      banked.setSurface p { tookMessage (s.surfaceOf p) [] with follow := banked.adjustedFollow s p } := by
  intro banked
  have stillUp : ((banked.popSurface p).surfaceOf p).link = .up := (link_popSurface banked p p).trans up
  rw [takeBank_mapped base named mapped, if_neg (by omega), if_neg (by omega), adjustVisibility_up _ stillUp,
    adjustedFollow_popSurface, popSurface_surfaceOf, if_pos rfl]
  exact setSurface_setSurface banked p _ _

/-- The take of a HELLO (R163). -/
theorem popSurface_fillFollow (s : State) (p : SurfaceId) : (s.popSurface p).fillFollow p =
    s.setSurface p { tookMessage (s.surfaceOf p) [] with follow := s.filledFollow p } := by
  have follow : (s.popSurface p).filledFollow p = s.filledFollow p := by
    simp only [filledFollow, popSurface_surfaceOf, if_pos]
    rfl
  rw [fillFollow, follow, popSurface_surfaceOf, if_pos rfl]
  exact setSurface_setSurface s p _ _

theorem goesOn_takeBank {s : State} {p : SurfaceId} {n base : Nat} (handed : Handed s p n (.bank base)) :
    GoesOnTo (exec (.bank p) s) (s.takeBank p { seat := n, body := .bank base } base) := by
  simp only [exec, execBank, headMessage_of_handed handed]
  exact goesOn_transmitAt _ p

/-- A message that names a fader and is refused changes nothing but its port, which posts REFUSED (R44). -/
theorem goesOn_refusedFader {s : State} {p : SurfaceId} {n f : Nat} {b : SeatBody} {reason : RefusalReason}
    {control : Option Byte} (handed : Handed s p n b) (fader : faderOf b = some f)
    (refused : s.takeFader p { seat := n, body := b } f (faderEffect p { seat := n, body := b }) =
      (s.popSurface p).refuseTake p { seat := n, body := b } reason control) :
    GoesOnTo (exec (takeOf p b) s)
      (s.setSurface p (tookMessage (s.surfaceOf p) [{ seat := n, message := .refused reason b.kind control }])) :=
  refused.trans (popSurface_refuseTake handed.1 _ _ _) ▸ goesOn_takeFader handed fader

/-- A BANK that is refused changes nothing but its port, which posts REFUSED (R44, R51). -/
theorem goesOn_refusedBank {s : State} {p : SurfaceId} {n base : Nat} {reason : RefusalReason} {control : Option Byte}
    (handed : Handed s p n (.bank base))
    (refused : s.takeBank p { seat := n, body := .bank base } base =
      (s.popSurface p).refuseTake p { seat := n, body := .bank base } reason control) :
    GoesOnTo (exec (takeOf p (.bank base)) s) (s.setSurface p (tookMessage (s.surfaceOf p)
      [{ seat := n, message := .refused reason (SeatBody.bank base).kind control }])) :=
  refused.trans (popSurface_refuseTake handed.1 _ _ _) ▸ goesOn_takeBank handed

theorem goesOn_hello {s : State} {p : SurfaceId} {n : Nat} (handed : Handed s p n .hello) :
    GoesOnTo (exec (.hello p) s) ((s.popSurface p).fillFollow p) := by
  simp only [exec, execHello, headMessage_of_handed handed]
  exact goesOn_transmitAt _ p

/-! ## MOVE, RELEASE, MODE and QUERY (R49, R50, R52, R53) -/

theorem moveControl_held {s : State} {i : SeatId} {c : ControlId} {r : Touch} (p : SurfaceId) (m : SeatMessage)
    (level : Int) (held : s.touchOf c = some r) (own : r.holder = i) : moveControl p m level s i c =
      (s.setLive c (clampLevel level)).setTouch c (some { r with lastMove := s.tracker.currentFrame }) := by
  simp only [moveControl, held, if_pos own]

theorem holds_iff (s : State) (i : SeatId) (c : ControlId) :
    s.holds i c = true ↔ ∃ r, s.touchOf c = some r ∧ r.holder = i := by
  cases record : s.touchOf c <;> simp [holds, record]

theorem moveControl_notHeld {s : State} {i : SeatId} {c : ControlId} (p : SurfaceId) (m : SeatMessage) (level : Int)
    (other : ∀ r, s.touchOf c = some r → r.holder ≠ i) :
    moveControl p m level s i c = s.refuseTake p m .notHolder (some (controlByte c)) := by
  unfold moveControl
  split
  · next r held => exact if_neg (other r held)
  · rfl

theorem releaseControl_held {s : State} {i : SeatId} {c : ControlId} {r : Touch} (p : SurfaceId) (m : SeatMessage)
    (held : s.touchOf c = some r) (own : r.holder = i) : releaseControl p m s i c =
      ((s.setTouch c none).countHeld i (· - 1)).postReply p m.seat (.released c) := by
  rw [releaseControl, if_pos ((holds_iff s i c).2 ⟨r, held, own⟩), removeTouch_eq held, own]

theorem releaseControl_notHeld {s : State} {i : SeatId} {c : ControlId} (p : SurfaceId) (m : SeatMessage)
    (other : ∀ r, s.touchOf c = some r → r.holder ≠ i) :
    releaseControl p m s i c = s.refuseTake p m .notHolder (some (controlByte c)) := by
  refine if_neg fun held => ?_
  obtain ⟨r, record, own⟩ := (holds_iff s i c).1 held
  exact other r record own

theorem heldByOther_iff (s : State) (i : SeatId) (c : ControlId) :
    s.heldByOther i c = true ↔ ∃ r, s.touchOf c = some r ∧ r.holder ≠ i := by
  cases record : s.touchOf c <;> simp [heldByOther, record]

theorem stateReport_setConfig (s : State) (c : ControlId) (x : ControlConfig) :
    (s.setConfig c x).stateReport c = { s.stateReport c with mode := x.mode } := by
  simp [stateReport]

theorem modeControl_badCode {code : Byte} (p : SurfaceId) (m : SeatMessage) (s : State) (i : SeatId) (c : ControlId)
    (illegal : modeOfCode code = none) :
    modeControl p m code s i c = s.refuseTake p m .badValue (some (controlByte c)) := by
  simp only [modeControl, illegal]

theorem modeControl_held {s : State} {code : Byte} {k : Mode} {i : SeatId} {c : ControlId} {r : Touch} (p : SurfaceId)
    (m : SeatMessage) (legal : modeOfCode code = some k) (held : s.touchOf c = some r) (other : r.holder ≠ i) :
    modeControl p m code s i c = s.refuseTake p m .touchHeld (some (controlByte c)) := by
  simp only [modeControl, legal, if_pos ((heldByOther_iff s i c).2 ⟨r, held, other⟩)]

theorem modeControl_free {s : State} {code : Byte} {k : Mode} {i : SeatId} {c : ControlId} (p : SurfaceId)
    (m : SeatMessage) (legal : modeOfCode code = some k) (own : ∀ r, s.touchOf c = some r → r.holder = i) :
    modeControl p m code s i c = (s.setConfig c { s.configOf c with mode := k }).postReply p m.seat
      (.state ((s.setConfig c { s.configOf c with mode := k }).stateReport c)) := by
  have free : ¬s.heldByOther i c = true := fun other => by
    obtain ⟨r, held, different⟩ := (heldByOther_iff s i c).1 other
    exact different (own r held)
  simp only [modeControl, legal, if_neg free]

theorem modeOfCode_modeCode (m : Mode) : modeOfCode (modeCode m) = some m := by
  cases m <;> rfl

end State

/-! ## The statements -/

/-- Settles O14: TOUCH by who holds the control and by rank. -/
theorem touchDecided : Obligations.TouchDecided := by
  refine ⟨fun s p n f i c handed addressed unheld => ?granted,
    fun s p n f i c r handed addressed held other => ⟨fun higher => ?taken, fun notHigher => ?lost⟩⟩
  case granted =>
    exact State.goesOn_of_reply (u := s.grantTouch i c) handed rfl addressed rfl
      (State.touchControl_unheld (s := s.popSurface p) p _ i unheld)
  case taken =>
    refine ⟨(((s.popSurface p).takeOver i c r).postReply p n (.grant c)).surface,
      State.takenOver_surfaceOf handed.1 i c r n, ?_⟩
    exact State.goesOn_of_effect handed rfl addressed
      ((State.touchControl_takesOver (s := s.popSurface p) p _ held other higher).trans (State.takenOver_eq p n other))
  case lost =>
    exact State.goesOn_of_reply handed rfl addressed rfl
      (State.touchControl_loses (s := s.popSurface p) p _ held other notHigher)

/-- Settles O15: a TOUCH from the holder renews the record and no count. -/
theorem touchRegranted : Obligations.TouchRegranted := by
  intro s p n f i c r handed addressed held own
  subst own
  exact State.goesOn_of_reply (u := s.setTouch c (some { r with lastMove := s.tracker.currentFrame })) handed rfl
    addressed rfl (State.touchControl_again (s := s.popSurface p) p _ held rfl)

/-- Settles O17: each message by its equation on the state it has left. -/
theorem controlMessagesTaken : Obligations.ControlMessagesTaken := by
  refine ⟨⟨fun s p n f i c r v handed addressed held own => ?move,
      fun s p n f i c r handed addressed held own => ?release⟩,
    fun s p n f i c addressed => ⟨fun code m handed named own => ?mode, fun handed => ?query⟩⟩
  case move =>
    refine State.goesOn_of_effect handed rfl addressed
      ((State.moveControl_held (s := s.popSurface p) p _ v held own).trans ?_)
    rw [State.popSurface_eq]
    rfl
  case release =>
    exact State.goesOn_of_reply (u := (s.setTouch c none).countHeld i (· - 1)) handed rfl addressed rfl
      (State.releaseControl_held (s := s.popSurface p) p _ held own)
  case mode =>
    have legal : modeOfCode code = some m := by
      rw [named, ← State.modeOfCode_modeCode m]
      cases m <;> rfl
    have effect := State.modeControl_free (s := s.popSurface p) p { seat := n, body := .mode f code } (c := c) legal own
    rw [State.stateReport_setConfig] at effect
    exact State.goesOn_of_reply (u := s.setConfig c { s.configOf c with mode := m }) handed rfl addressed rfl effect
  case query => exact State.goesOn_of_reply handed rfl addressed rfl rfl

/-- Settles O16: BANK by the follow set that `adjustVisibility` leaves, HELLO by the one that `fillFollow` leaves. -/
theorem bankAndHelloTaken : Obligations.BankAndHelloTaken := by
  refine ⟨fun s p n base i handed named mapped free legal => ?bank, fun s p n handed => ?hello⟩
  case bank =>
    intro banked
    refine ⟨banked.adjustedFollow s p, fun c => ⟨fun shown hidden => ?_, fun hidden shown => ?_, fun same => ?_⟩,
      State.takeBank_taken handed.1 named mapped free legal ▸ State.goesOn_takeBank handed⟩
    all_goals rw [State.tget_adjustedFollow]
    · rw [if_pos ⟨shown, hidden⟩]
      rfl
    · rw [if_neg (by simp [hidden]), if_pos ⟨hidden, shown⟩]
    · rw [if_neg (by simp [same]), if_neg (by simp [same])]
      rfl
  case hello =>
    refine ⟨s.filledFollow p, tget_tbuild _, State.popSurface_fillFollow s p ▸ State.goesOn_hello handed⟩

/-- Settles O18: the checks of the take in the order of R44's table, then those of each message. -/
theorem seatMessagesRefused : Obligations.SeatMessagesRefused := by
  intro s p n b handed asks refusedWith
  refine ⟨fun unmapped => ?notMapped, fun i named mapped => ⟨fun f fader high => ?badFader,
    fun f fader low above => ?noControl, fun base bank holds => ?touchHeld, fun base bank free above => ?noBase,
    fun f c fader low number => ?control⟩⟩
  case notMapped =>
    cases fader : faderOf b with
    | some f => exact State.goesOn_refusedFader handed fader (State.takeFader_notMapped f _ unmapped)
    | none =>
      cases b with
      | bank base => exact State.goesOn_refusedBank handed (State.takeBank_notMapped base unmapped)
      | hello => exact absurd rfl asks
      | touch | move | release | mode | query => cases fader
  case badFader =>
    refine State.goesOn_refusedFader handed fader ?_
    rw [State.takeFader_mapped f _ named mapped, mapFader_bad high]
  case noControl =>
    refine State.goesOn_refusedFader handed fader ?_
    rw [State.takeFader_mapped f _ named mapped, mapFader_noControl low above]
  case touchHeld =>
    subst bank
    refine State.goesOn_refusedBank handed ?_
    rw [State.takeBank_mapped base named mapped, if_pos holds]
  case noBase =>
    subst bank
    refine State.goesOn_refusedBank handed ?_
    rw [State.takeBank_mapped base named mapped, if_neg (by omega), if_pos above]
  case control =>
    have addressed : Addresses s p n i f c := ⟨named, mapped, low, number⟩
    have refused {reason : RefusalReason} {control : Option Byte} (effect : State.faderEffect p
        { seat := n, body := b } (s.popSurface p) i c =
          (s.popSurface p).refuseTake p { seat := n, body := b } reason control) : refusedWith reason control :=
      State.goesOn_of_effect handed fader addressed (effect.trans (State.popSurface_refuseTake handed.1 _ _ _))
    refine ⟨fun message other => refused ?notHolder, fun code message illegal => refused ?badCode,
      fun code r message legal held other => refused ?heldByOther⟩
    case notHolder =>
      obtain ⟨v, rfl⟩ | rfl := message
      · exact State.moveControl_notHeld (s := s.popSurface p) p _ v other
      · exact State.releaseControl_notHeld (s := s.popSurface p) p _ other
    case badCode =>
      subst message
      exact State.modeControl_badCode p _ _ i c ((modeOfCode_eq_none_iff code).2 illegal)
    case heldByOther =>
      subst message
      obtain ⟨k, known⟩ : ∃ k, modeOfCode code = some k := by
        rw [← Option.ne_none_iff_exists', Ne, modeOfCode_eq_none_iff]
        omega
      exact State.modeControl_held (s := s.popSurface p) p _ known held other

end Sys2Proof.Machine
end

section
/-! SUPPORT. SET SEAT and SET HUB (R22, R41, R57, R168, R181): which bytes are legal, when a port is full, what a remap leaves
of the seats, the touches and the follow sets, and the checks of the hub settings. -/

namespace Sys2Proof.Machine

open Sys2Proof.Safety

/-! ## The bytes of SET SEAT (R197) -/

theorem linkOfByte_eq (b : Byte) : linkOfByte b = fieldOfByte 4 b := rfl

/-- The link a legal byte of SET SEAT spells. -/
theorem linkOfByte_of_legal {b : Byte} {l : Option SurfaceId} (legal : b.toNat ≤ 3 ∨ b.toNat = 255)
    (spells : l.map Fin.val = if b.toNat = 255 then none else some b.toNat) : linkOfByte b = some l := by
  have low : b.toNat < 4 ∨ b.toNat = 255 := legal.imp_left Nat.lt_succ_of_le
  obtain ⟨named, field⟩ : ∃ named, fieldOfByte 4 b = some named := by
    rw [← Option.ne_none_iff_exists', Ne, fieldOfByte_eq_none_iff (by decide)]
    exact not_not.2 low
  have names := fieldOfByte_names (by decide) low none
  rw [field, ← spells] at names
  rw [linkOfByte_eq, field]
  exact congrArg some (Option.map_injective (Fin.val_injective) names)

namespace State

/-! ## The checks of SET SEAT (R181) -/

theorem exec_setSeat {s : State} {seat link rank : Byte} (h : HandedToPart s (.setSeat seat link rank)) :
    exec .setSeat s = .next (s.popEditor.takeSetSeat seat link rank).transmitAll := by
  show execSetSeat s = _
  rw [execSetSeat, headCommand_of_handed h]

theorem takeSetSeat_of_illegal {seat link rank : Byte} (s : State)
    (h : ¬((1 ≤ seat.toNat ∧ seat.toNat ≤ 8) ∧ (link.toNat ≤ 3 ∨ link.toNat = 255) ∧ rank.toNat ≤ 3)) :
    s.takeSetSeat seat link rank = s.refuseEditor .badValue kindSetSeat none := by
  unfold takeSetSeat
  split
  · next i l seatNamed linkNamed =>
    have number : seat.toNat = i.val + 1 := seatNumber_eq_some_iff.1 seatNamed
    have spelled : link.toNat < 4 ∨ link.toNat = 255 := by
      by_contra unnamed
      rw [linkOfByte_eq, (fieldOfByte_eq_none_iff (by decide) link).2 unnamed] at linkNamed
      cases linkNamed
    exact if_pos (by omega)
  · rfl

theorem takeSetSeat_of_legal {seat link rank : Byte} {i : SeatId} {l : Option SurfaceId} (s : State)
    (seatNamed : seat.toNat = i.val + 1) (linkNamed : linkOfByte link = some l) (low : rank.toNat ≤ 3) :
    s.takeSetSeat seat link rank = if s.portFull l i then s.refuseEditor .full kindSetSeat none
      else (s.remapSeat i l rank.toNat).postDone kindSetSeat := by
  simp only [takeSetSeat, seatNumber_eq_some_iff.2 seatNamed, linkNamed, if_neg (not_lt.2 low)]

theorem seatsOn_eq (s : State) (p : SurfaceId) (i : SeatId) :
    s.seatsOn p i = (List.finRange 8).countP (fun j => decide (j ≠ i) && (s.seatOf j).link == some p) :=
  List.countP_congr fun j _ => by simp

theorem portFull_iff (s : State) (l : Option SurfaceId) (i : SeatId) :
    s.portFull l i = true ↔ ∃ p, l = some p ∧ 3 ≤ s.seatsOn p i := by
  cases l <;> simp [portFull]

/-! ## A change of visibility at every port (R168) -/

theorem adjustVisibility_eq (s before : State) (p : SurfaceId) :
    s.adjustVisibility before p = { s with surface := (s.adjustVisibility before p).surface } := whenUp_eq ..

theorem adjustAll_eq (s before : State) : s.adjustAll before = { s with surface := (s.adjustAll before).surface } := by
  unfold adjustAll
  rw [adjustVisibility_eq _ before 3, adjustVisibility_eq _ before 2, adjustVisibility_eq _ before 1,
    adjustVisibility_eq s before 0]

/-- The adjustment of one port leaves that of another as it would be alone. -/
theorem adjustedFollow_adjustVisibility (s before : State) {p q : SurfaceId} (other : p ≠ q) :
    (s.adjustVisibility before p).adjustedFollow before q = s.adjustedFollow before q := by
  have visible (c : ControlId) : (s.adjustVisibility before p).visible q c = s.visible q c :=
    visible_congr (by simp) q c
  have record (c : ControlId) : (s.adjustVisibility before p).recordOf c = s.recordOf c := recordOf_congr (by simp) c
  simp only [adjustedFollow, visible, record, adjustVisibility_surfaceOf, other, false_and, if_false]

theorem adjustAll_surfaceOf (s before : State) (q : SurfaceId) : (s.adjustAll before).surfaceOf q =
    if (s.surfaceOf q).link = .up then { s.surfaceOf q with follow := s.adjustedFollow before q }
    else s.surfaceOf q := by
  unfold adjustAll
  fin_cases q <;> simp [adjustVisibility_surfaceOf, adjustedFollow_adjustVisibility]

/-! ## A remap (R41, R57) -/

theorem remapSeat_sameLink {s : State} {i : SeatId} {l : Option SurfaceId} (rank : Nat) (same : (s.seatOf i).link = l) :
    s.remapSeat i l rank = s.setSeat i { s.seatOf i with rank := rank } := if_pos same

/-- A remap before the follow sets are adjusted: the seat's touches are released, and its record begins anew (R41, R57). -/
def remapped (s : State) (i : SeatId) (l : Option SurfaceId) (rank : Nat) : State :=
  (s.isolate (fun j => j == i)).setSeat i { link := l, rank := rank, bankBase := 0, heldTouches := 0 }

theorem remapSeat_moved {s : State} {i : SeatId} {l : Option SurfaceId} (rank : Nat) (moved : (s.seatOf i).link ≠ l) :
    s.remapSeat i l rank = (s.remapped i l rank).adjustAll s := by
  rw [remapSeat, if_neg moved]
  simp only [seatOf_isolate, beq_self_eq_true, if_true]
  rfl

theorem surfaceOf_remapped (s : State) (i : SeatId) (l : Option SurfaceId) (rank : Nat) (q : SurfaceId) :
    (s.remapped i l rank).surfaceOf q = s.surfaceOf q := rfl

theorem recordOf_remapped (s : State) (i : SeatId) (l : Option SurfaceId) (rank : Nat) (c : ControlId) :
    (s.remapped i l rank).recordOf c = s.recordOf c := rfl

theorem seatOf_remapped_ne (s : State) {i j : SeatId} (l : Option SurfaceId) (rank : Nat) (other : j ≠ i) :
    (s.remapped i l rank).seatOf j = s.seatOf j := by
  rw [remapped, seatOf_setSeat_ne _ (Ne.symm other), seatOf_isolate]
  simp [other]

theorem touchOf_remapped (s : State) (i : SeatId) (l : Option SurfaceId) (rank : Nat) (c : ControlId) :
    (s.remapped i l rank).touchOf c = (s.touchOf c).filter (fun r => r.holder ≠ i) := by
  have test : (fun r : Touch => !(r.holder == i)) = fun r => decide (r.holder ≠ i) := funext fun r => by
    rw [Bool.eq_iff_iff]
    simp
  have released : (s.remapped i l rank).touchOf c = (s.isolate (fun j => j == i)).touchOf c := rfl
  rw [released, touchOf_isolate, test]

/-! ## SET HUB (R22, R55) -/

theorem exec_setHub {s : State} {rate acquire limit : Byte} {stale : Nat}
    (h : HandedToPart s (.setHub rate acquire limit stale)) :
    exec .setHub s = .next (s.popEditor.takeSetHub rate acquire limit stale).transmitEditor := by
  show execSetHub s = _
  rw [execSetHub, headCommand_of_handed h]

theorem takeSetHub_of_refusal {s : State} {rate acquire limit : Byte} {stale : Nat} {reason : RefusalReason}
    (h : s.hubRefusal rate acquire limit stale = some reason) :
    s.takeSetHub rate acquire limit stale = s.refuseEditor reason kindSetHub none := by
  rw [takeSetHub, h]

theorem hubRefusal_rolling {s : State} (rate acquire limit : Byte) (stale : Nat)
    (h : s.tracker.transport.rolling = true) : s.hubRefusal rate acquire limit stale = some .rolling := if_pos h

/-- The checks of the hub settings while the transport is not rolling: all pass, or the answer is BAD VALUE. -/
theorem hubRefusal_notRolling {s : State} (rate acquire limit : Byte) (stale : Nat)
    (h : ¬s.tracker.transport.rolling = true) : s.hubRefusal rate acquire limit stale =
      if (rate.toNat = 24 ∨ rate.toNat = 25 ∨ rate.toNat = 30) ∧ (1 ≤ acquire.toNat ∧ acquire.toNat ≤ 8) ∧
        limit.toNat ≤ 30 ∧ stale ≤ 4095 then none else some .badValue := by
  simp only [hubRefusal, if_neg h]
  split_ifs <;> grind

end State

/-! ## The statement (R22, R41, R181) -/

/-- SET SEAT with the seat's own link only takes the rank (R41). -/
theorem setSeat_sameLink {s : State} {i : SeatId} {l : Option SurfaceId} (rank : Nat) (same : (s.seatOf i).link = l) :
    (s.popEditor.remapSeat i l rank).postDone kindSetSeat =
      { s.setSeat i { s.seatOf i with rank := rank } with
        editor := tookCommand s.editor [.held (.done kindSetSeat)] } := by
  rw [State.remapSeat_sameLink rank (s := s.popEditor) same]
  rfl

/-- SET SEAT with another link, as one state: the arbiter of the remap, and the follow sets adjusted to it (R41, R168). -/
theorem setSeat_moved {s : State} {i : SeatId} {l : Option SurfaceId} (rank : Nat) (moved : (s.seatOf i).link ≠ l) :
    (s.popEditor.remapSeat i l rank).postDone kindSetSeat =
      { s with
        arbiter := (s.remapped i l rank).arbiter
        surface := ((s.popEditor.remapped i l rank).adjustAll s.popEditor).surface
        editor := tookCommand s.editor [.held (.done kindSetSeat)] } := by
  rw [State.remapSeat_moved rank (s := s.popEditor) moved, State.adjustAll_eq]
  rfl

/-- The surface ports after SET SEAT with another link: each UP port's follow set follows its visibility (R168). -/
theorem setSeat_moved_surfaceOf (s : State) (i : SeatId) (l : Option SurfaceId) (rank : Nat) (q : SurfaceId) :
    ((s.popEditor.remapped i l rank).adjustAll s.popEditor).surfaceOf q = if (s.surfaceOf q).link = .up then
      { s.surfaceOf q with follow := (s.remapped i l rank).adjustedFollow s q } else s.surfaceOf q := by
  rw [State.adjustAll_surfaceOf]
  rfl

/-- A port whose follow set was adjusted if it is UP, entry by entry (R168). -/
theorem adjustedPort_follow (s before : State) (q : SurfaceId) :
    let x := if (s.surfaceOf q).link = .up then { s.surfaceOf q with follow := s.adjustedFollow before q }
      else s.surfaceOf q
    x = { s.surfaceOf q with follow := x.follow } ∧ ∀ c, tget x.follow c =
      if (s.surfaceOf q).link = .up ∧ s.visible q c = true ∧ before.visible q c = false then
        some { level := (s.recordOf c).presented, onLink := false }
      else if (s.surfaceOf q).link = .up ∧ s.visible q c = false ∧ before.visible q c = true then none
      else tget (s.surfaceOf q).follow c := by
  by_cases up : (s.surfaceOf q).link = .up
  · intro x
    have adjusted : x = { s.surfaceOf q with follow := s.adjustedFollow before q } := if_pos up
    rw [adjusted]
    simp only [up, true_and]
    exact s.tget_adjustedFollow before q
  · simp [up]

/-- What SET SEAT with another link leaves (R41, R57, R168). -/
theorem setSeat_moved_leaves {s t : State} {i : SeatId} {l : Option SurfaceId} {rank : Nat}
    (left : t = { s with
      arbiter := (s.remapped i l rank).arbiter
      surface := ((s.popEditor.remapped i l rank).adjustAll s.popEditor).surface
      editor := tookCommand s.editor [.held (.done kindSetSeat)] }) :
    t.seatOf i = { link := l, rank := rank, bankBase := 0, heldTouches := 0 } ∧
    (∀ j, j ≠ i → t.seatOf j = s.seatOf j) ∧
    (∀ c, t.touchOf c = (s.touchOf c).filter (fun r => r.holder ≠ i)) ∧
    (∀ c, t.liveOf c = s.liveOf c) ∧ t.arbiter.staleTimeout = s.arbiter.staleTimeout ∧
    (∀ q : SurfaceId, t.surfaceOf q = { s.surfaceOf q with follow := (t.surfaceOf q).follow } ∧
      ∀ c, tget (t.surfaceOf q).follow c =
        if (s.surfaceOf q).link = .up ∧ t.visible q c = true ∧ s.visible q c = false then
          some { level := (s.recordOf c).presented, onLink := false }
        else if (s.surfaceOf q).link = .up ∧ t.visible q c = false ∧ s.visible q c = true then none
        else tget (s.surfaceOf q).follow c) ∧
    t = { s with arbiter := t.arbiter, surface := t.surface,
                 editor := tookCommand s.editor [.held (.done kindSetSeat)] } := by
  have arbiter : t.arbiter = (s.remapped i l rank).arbiter := by rw [left]
  have surface : t.surface = ((s.popEditor.remapped i l rank).adjustAll s.popEditor).surface := by rw [left]
  refine ⟨?seat, fun j other => ?others, fun c => ?touch, fun c => State.liveOf_congr arbiter c, by rw [arbiter]; rfl,
    fun q => ?port, by rw [left]⟩
  case seat =>
    rw [State.seatOf_congr arbiter]
    exact State.seatOf_setSeat_self ..
  case others => rw [State.seatOf_congr arbiter, s.seatOf_remapped_ne l rank other]
  case touch => rw [State.touchOf_congr arbiter, s.touchOf_remapped]
  case port =>
    have port := adjustedPort_follow (s.remapped i l rank) s q
    have surfaceOf : t.surfaceOf q = _ := (State.surfaceOf_congr surface q).trans (setSeat_moved_surfaceOf s i l rank q)
    simp only [State.surfaceOf_remapped, State.recordOf_remapped] at port
    simp only [State.visible_congr arbiter]
    rw [surfaceOf]
    exact port

/-- SET HUB that its checks refuse changes nothing but the editor port, which posts REFUSED (R22). -/
theorem setHub_refused {s : State} {rate acquire limit : Byte} {stale : Nat} {reason : RefusalReason}
    (handed : HandedToPart s (.setHub rate acquire limit stale))
    (refused : s.popEditor.hubRefusal rate acquire limit stale = some reason) :
    GoesOnTo (exec .setHub s) { s with editor := tookCommand s.editor [.held (.refused reason kindSetHub none)] } := by
  rw [State.exec_setHub handed, State.takeSetHub_of_refusal refused, State.popEditor_refuseEditor]
  exact goesOn_transmitEditor _

/-- SET HUB that passes its checks writes the four settings together (R22, R55). -/
theorem setHub_taken {s : State} {rate acquire limit : Byte} {stale : Nat}
    (handed : HandedToPart s (.setHub rate acquire limit stale))
    (passed : s.popEditor.hubRefusal rate acquire limit stale = none) :
    GoesOnTo (exec .setHub s) { s with
      tracker := { s.tracker with
        rate := rate.toNat, acquireCount := acquire.toNat, freewheelLimit := limit.toNat }
      arbiter := { s.arbiter with staleTimeout := stale }
      editor := tookCommand s.editor [.held (.done kindSetHub)] } := by
  rw [State.exec_setHub handed, State.takeSetHub, passed]
  exact goesOn_transmitEditor _

/-- SET SEAT that passes the checks of its bytes, by whether the port it names has room for the seat (R181). -/
theorem setSeat_legal {s : State} {seat link rank : Byte} {i : SeatId} {l : Option SurfaceId}
    (handed : HandedToPart s (.setSeat seat link rank)) (seatNamed : seat.toNat = i.val + 1)
    (linkNamed : linkOfByte link = some l) (low : rank.toNat ≤ 3) :
    ((∃ p, l = some p ∧ 3 ≤ s.seatsOn p i) → GoesOnTo (exec .setSeat s)
      { s with editor := tookCommand s.editor [.held (.refused .full kindSetSeat none)] }) ∧
    ((∀ p, l = some p → s.seatsOn p i < 3) →
      GoesOnTo (exec .setSeat s) ((s.popEditor.remapSeat i l rank.toNat).postDone kindSetSeat)) := by
  have take := State.exec_setSeat handed
  have full : s.popEditor.portFull l i = true ↔ ∃ p, l = some p ∧ 3 ≤ s.seatsOn p i := s.portFull_iff l i
  rw [State.takeSetSeat_of_legal _ seatNamed linkNamed low] at take
  refine ⟨fun crowded => ?_, fun room => ?_⟩
  · rw [if_pos (full.2 crowded)] at take
    exact refused_goesOn take
  · have roomy : ¬s.popEditor.portFull l i = true := fun crowded => by
      obtain ⟨p, named, three⟩ := full.1 crowded
      exact absurd (room p named) (not_lt.2 three)
    rw [if_neg roomy] at take
    exact take ▸ goesOn_transmitAll _

/-- Settles O44: SET SEAT by its checks, then by whether the link changes; SET HUB by its checks. -/
theorem seatAndHubSettingsTaken : Obligations.SeatAndHubSettingsTaken := by
  refine ⟨fun s seat link rank handed => ?seat, fun s rate acquire limit stale handed => ?hub⟩
  case seat =>
    intro refused legal
    refine ⟨fun illegal => ?illegal, fun i l passes seatNamed spells => ?legal⟩
    case illegal =>
      refine refused_goesOn ?_
      rw [State.exec_setSeat handed, State.takeSetSeat_of_illegal _ illegal]
    case legal =>
      obtain ⟨-, linkLegal, low⟩ := passes
      obtain ⟨full, roomy⟩ := setSeat_legal handed seatNamed (linkOfByte_of_legal linkLegal spells) low
      simp only [State.seatsOn_eq] at full roomy
      exact ⟨fun p named crowded => full ⟨p, named, crowded⟩, fun room =>
        ⟨_, roomy room, setSeat_sameLink _, fun moved => setSeat_moved_leaves (setSeat_moved _ moved)⟩⟩
  case hub =>
    intro rolling legal answered
    have rolls : s.popEditor.tracker.transport.rolling = true ↔ rolling := Transport.rolling_iff _
    have checked (still : ¬rolling) :=
      State.hubRefusal_notRolling (s := s.popEditor) rate acquire limit stale (mt rolls.1 still)
    refine ⟨fun moves => ?rolling, fun still illegal => ?illegal, fun still passes => ?taken⟩
    case rolling => exact setHub_refused handed (State.hubRefusal_rolling _ _ _ _ (rolls.2 moves))
    case illegal => exact setHub_refused handed ((checked still).trans (if_neg illegal))
    case taken => exact setHub_taken handed ((checked still).trans (if_pos passes))

end Sys2Proof.Machine
end

section
/-! SUPPORT. The choice of the presented level (R65 to R75): the glide of an evaluation, then one equation of the choice for
each row of the table of section 4.4. -/

namespace Sys2Proof.Machine

namespace Inputs

variable {x : Inputs}

theorem held_of_untouched (untouched : x.touch = none) : x.held = false := by
  rw [held, untouched]
  rfl

theorem transition_eq_false (same : x.mode = x.record.previousMode) : x.transition = false := by
  simp [transition, same]

/-! ## The glide of an evaluation (R67, R72, R75) -/

theorem glide_of_held (held : x.held = true) : x.glide = none := by
  simp [glide, glideStarts, held]

theorem glide_of_transition (changed : x.mode ≠ x.record.previousMode) : x.glide = none := by
  have transition : x.transition = true := bne_iff_ne.2 changed
  simp [glide, glideStarts, transition]

/-- Without touch or transition, a glide starts if the mode glides and the control was held, and runs on if not (R72). -/
theorem glide_of_untouched (untouched : x.touch = none) (same : x.mode = x.record.previousMode) :
    x.glide = if x.mode.glides ∧ x.record.previousHeld then
      some { startLevel := x.record.presented, startOffset := x.record.trimOffset,
             count := x.config.glideFrames, step := 1 }
    else x.record.glide := by
  simp [glide, glideStarts, held_of_untouched untouched, transition_eq_false same]

/-! ## The choice, row by row (R68 to R74) -/

theorem choose_off (mode : x.mode = .off) : x.choose = .plain x x.live := by
  simp only [choose, mode]

theorem choose_read (mode : x.mode = .read) : x.choose = .plain x x.untouched := by
  simp only [choose, mode]

theorem choose_touch_held (mode : x.mode = .touch) (held : x.held = true) : x.choose = .plain x x.live := by
  simp only [choose, mode, if_pos held]

theorem choose_touch_still (mode : x.mode = .touch) (untouched : x.touch = none) (still : x.glide = none) :
    x.choose = .plain x x.untouched := by
  simp [choose, mode, held_of_untouched untouched, still]

theorem choose_touch_gliding {g : Glide} (mode : x.mode = .touch) (untouched : x.touch = none) (glides : x.glide = some g) :
    x.choose = .gliding x g (glideLevel g x.untouched) := by
  simp [choose, mode, held_of_untouched untouched, glides]

theorem choose_latch_held (mode : x.mode = .latch) (held : x.held = true) :
    x.choose = { Choice.plain x x.live with latch := x.record.latch && !x.transition } := by
  simp only [choose, mode, if_pos held]

/-- An untouched LATCH control presents its live level as long as its latch holds (R70). -/
theorem choose_latch_untouched (mode : x.mode = .latch) (untouched : x.touch = none) :
    x.choose = if x.latched then { Choice.plain x x.live with latch := true } else .plain x x.untouched := by
  simp [choose, mode, held_of_untouched untouched]

theorem latched_iff : x.latched = true ↔
    x.record.latch = true ∧ x.mode = x.record.previousMode ∧ x.segmentOpen = true := by
  simp [latched, transition, and_assoc]

theorem choose_trim_held (mode : x.mode = .trim) (held : x.held = true) :
    x.choose = { Choice.plain x (x.trimmed x.trimOffset) with trimOffset := x.trimOffset } := by
  simp only [choose, mode, if_pos held]

theorem choose_trim_still (mode : x.mode = .trim) (untouched : x.touch = none) (still : x.glide = none) :
    x.choose = .plain x x.untouched := by
  simp [choose, mode, held_of_untouched untouched, still]

theorem choose_trim_gliding {g : Glide} (mode : x.mode = .trim) (untouched : x.touch = none) (glides : x.glide = some g) :
    x.choose = .gliding x g (x.trimmed (glideScale g g.startOffset)) := by
  simp [choose, mode, held_of_untouched untouched, glides]

theorem trimOffset_of_held {r : Touch} (touched : x.touch = some r) : x.trimOffset = x.live - r.reference := by
  simp only [trimOffset, touched, levelDifference]

theorem trimmed_of_stored {l : Level} (stored : x.stored = some l) (offset : Int) :
    x.trimmed offset = levelSum [l] offset := by
  simp only [trimmed, stored]

theorem trimmed_of_absent (absent : x.stored = none) (offset : Int) : x.trimmed offset = x.live := by
  simp only [trimmed, absent]

end Inputs

/-- A choice that presents a glide step takes the next step, or ends the glide with its last one (R73). -/
theorem Choice.gliding_steps (x : Inputs) (g : Glide) (l : Level) :
    let y := Choice.gliding x g l
    (g.step < max g.count 1 → y.glide = some { g with step := g.step + 1 } ∧ y.glideEnded = false) ∧
    (max g.count 1 ≤ g.step → y.glide = none ∧ y.glideEnded = true) := by
  refine ⟨fun before => ?_, fun last => ?_⟩
  · have goesOn : glideAtEnd g = false := decide_eq_false (not_le.2 before)
    simp [Choice.gliding, glideNext, goesOn]
  · have ends : glideAtEnd g = true := decide_eq_true last
    simp [Choice.gliding, glideNext, ends]

/-- Settles O6: the glide by touch and transition, then the table of section 4.4 row by row. -/
theorem presentedLevelChoice : Obligations.PresentedLevelChoice := by
  refine ⟨fun x => ⟨Inputs.glide_of_held, Inputs.glide_of_transition,
    fun untouched same glides wasHeld => ?starts, fun untouched same runs => ?runsOn⟩, fun x => ?table⟩
  case starts =>
    have mode : x.mode.glides = true := by rcases glides with mode | mode <;> rw [mode] <;> rfl
    rw [Inputs.glide_of_untouched untouched same, if_pos ⟨mode, wasHeld⟩]
  case runsOn =>
    rw [Inputs.glide_of_untouched untouched same, if_neg]
    rintro ⟨glides, wasHeld⟩
    rcases runs with unheld | mode | mode | mode
    · exact Bool.false_ne_true (unheld.symm.trans wasHeld)
    all_goals
      rw [mode] at glides
      cases glides
  case table =>
    intro u y noGlide glideStep scaled
    have plain {l : Level} (chosen : x.choose = .plain x l) : y.presented = l ∧ noGlide ∧ y.latch = false := by
      simp only [y, noGlide, chosen, Choice.plain, and_self]
    have gliding {g : Glide} {l : Level} (chosen : x.choose = .gliding x g l) : y.presented = l ∧ glideStep g := by
      simp only [y, glideStep, chosen]
      exact ⟨rfl, Choice.gliding_steps x g l⟩
    refine ⟨fun mode => plain (Inputs.choose_off mode), fun mode => plain (Inputs.choose_read mode),
      fun mode held => ?touchHeld, fun mode untouched still => ?touchStill,
      fun g mode untouched glides => gliding (Inputs.choose_touch_gliding mode untouched glides),
      fun mode held => ?latchHeld, fun mode untouched => ⟨fun latched => ?latched, fun unlatched => ?unlatched⟩,
      fun r mode touched => ?trimHeld, fun mode untouched still => ?trimStill,
      fun g mode untouched glides => ?trimGliding⟩
    case touchHeld =>
      obtain ⟨presented, glideless, -⟩ := plain (Inputs.choose_touch_held mode held)
      exact ⟨presented, glideless⟩
    case touchStill =>
      obtain ⟨presented, glideless, -⟩ := plain (Inputs.choose_touch_still mode untouched still)
      exact ⟨presented, glideless⟩
    case latchHeld =>
      simp only [y, noGlide, Inputs.choose_latch_held mode held, Choice.plain, and_self]
    case latched =>
      have chosen := (Inputs.choose_latch_untouched mode untouched).trans (if_pos (Inputs.latched_iff.2 latched))
      simp only [y, noGlide, chosen, Choice.plain, and_self]
    case unlatched =>
      have chosen := (Inputs.choose_latch_untouched mode untouched).trans (if_neg (mt Inputs.latched_iff.1 unlatched))
      obtain ⟨presented, glideless, latch⟩ := plain chosen
      exact ⟨presented, latch, glideless⟩
    case trimHeld =>
      have held : x.held = true := by rw [Inputs.held, touched]; rfl
      simp only [y, noGlide, Inputs.choose_trim_held mode held, Choice.plain, Inputs.trimOffset_of_held touched, and_self,
        true_and]
      exact ⟨fun l stored => Inputs.trimmed_of_stored stored _, fun absent => Inputs.trimmed_of_absent absent _⟩
    case trimStill =>
      obtain ⟨presented, glideless, -⟩ := plain (Inputs.choose_trim_still mode untouched still)
      exact ⟨presented, glideless⟩
    case trimGliding =>
      obtain ⟨presented, steps⟩ := gliding (Inputs.choose_trim_gliding mode untouched glides)
      exact ⟨steps, fun l stored => presented.trans (Inputs.trimmed_of_stored stored _),
        fun absent => presented.trans (Inputs.trimmed_of_absent absent _)⟩

end Sys2Proof.Machine
end

section
/-! SUPPORT. The first step of an evaluation (R55, R64, R130) and what the evaluation reads then (R65 to R67, R132): the
advance of the cursor and the stale test each said once, then the inputs. -/

namespace Sys2Proof.Machine

open Sys2Proof.Safety

namespace State

/-- Two states that agree in every block are one. -/
theorem eq_of_blocks {t u : State} (h : t.pending = u.pending ∧ t.now = u.now ∧ t.tracker = u.tracker ∧
    t.arbiter = u.arbiter ∧ t.pass = u.pass ∧ t.writer = u.writer ∧ t.store = u.store ∧ t.memory = u.memory ∧
    t.port = u.port ∧ t.cursors = u.cursors ∧ t.engine = u.engine ∧ t.surface = u.surface ∧ t.editor = u.editor ∧
    t.freeDraws = u.freeDraws) : t = u := by
  cases t
  simp_all

/-! ## The advance of the cursor (R130) -/

theorem advanceCursor_last {s : State} {c : ControlId} {t : Frame} {r : SlotRecord} (ready : (s.cursorOf c).state = .ready)
    (ahead : (s.cursorOf c).lookahead = .record r) (due : r.record.frame ≤ t) (last : r.record.last = true) :
    s.advanceCursor c t = s.setCursor c { s.cursorOf c with current := some r.current, lookahead := .endOfList } := by
  simp only [advanceCursor, ready, ahead, if_pos due, if_pos last]

theorem advanceCursor_fetches {s : State} {c : ControlId} {t : Frame} {r : SlotRecord}
    (ready : (s.cursorOf c).state = .ready) (ahead : (s.cursorOf c).lookahead = .record r) (due : r.record.frame ≤ t)
    (more : r.record.last = false) :
    s.advanceCursor c t = (s.setCursor c { s.cursorOf c with
      state := .fetching, current := some r.current, lookahead := .awaited r.record.next }).postRequest
        (.fetch c r.record.next) := by
  simp [advanceCursor, ready, ahead, due, more]

theorem advanceCursor_stays {s : State} {c : ControlId} {t : Frame} (h : (s.cursorOf c).state ≠ .ready ∨
    ∀ r : SlotRecord, (s.cursorOf c).lookahead = .record r → t < r.record.frame) : s.advanceCursor c t = s := by
  unfold advanceCursor
  dsimp only
  split
  · next r ready ahead =>
    have later : t < r.record.frame := (h.resolve_left (not_not_intro ready)) r ahead
    exact if_neg (not_le.2 later)
  · rfl

/-- An advance to a frame takes the record ahead, the last of the list or not, or leaves the cursor as it is. -/
theorem advanceCursor_cases (s : State) (c : ControlId) (t : Frame) :
    (∃ r : SlotRecord, (s.cursorOf c).state = .ready ∧ (s.cursorOf c).lookahead = .record r ∧ r.record.frame ≤ t ∧
      (r.record.last = true ∨ r.record.last = false)) ∨
    ((s.cursorOf c).state ≠ .ready ∨ ∀ r : SlotRecord, (s.cursorOf c).lookahead = .record r → t < r.record.frame) := by
  by_cases taken : (s.cursorOf c).state = .ready ∧ ∃ r : SlotRecord, (s.cursorOf c).lookahead = .record r ∧ r.record.frame ≤ t
  · obtain ⟨ready, r, ahead, due⟩ := taken
    exact .inl ⟨r, ready, ahead, due, Bool.eq_false_or_eq_true _⟩
  · refine .inr (or_iff_not_imp_left.2 fun ready r ahead => not_le.1 fun due => ?_)
    exact taken ⟨not_not.1 ready, r, ahead, due⟩

/-- An advance reaches the control's own cursor and the memory port. -/
theorem advanceCursor_eq (s : State) (c : ControlId) (t : Frame) : s.advanceCursor c t = { s with
    port := (s.advanceCursor c t).port, cursors := (s.advanceCursor c t).cursors } :=
  eq_of_blocks (by simp)

theorem advanceCursor_setRun (s : State) (x : PassRun) (c : ControlId) (t : Frame) :
    (s.setRun x).advanceCursor c t = (s.advanceCursor c t).setRun x := by
  obtain ⟨r, ready, ahead, due, last | more⟩ | stays := s.advanceCursor_cases c t
  · rw [advanceCursor_last ready ahead due last, advanceCursor_last (s := s.setRun x) ready ahead due last]
    rfl
  · rw [advanceCursor_fetches ready ahead due more, advanceCursor_fetches (s := s.setRun x) ready ahead due more]
    rfl
  · rw [advanceCursor_stays stays, advanceCursor_stays (s := s.setRun x) stays]

theorem advanceCursor_cursors (s : State) (c : ControlId) (t : Frame) :
    (∀ d, d ≠ c → (s.advanceCursor c t).cursorOf d = s.cursorOf d) ∧ (s.advanceCursor c t).cursors.walk = s.cursors.walk := by
  obtain ⟨r, ready, ahead, due, last | more⟩ | stays := s.advanceCursor_cases c t
  · rw [advanceCursor_last ready ahead due last]
    exact ⟨fun d other => cursorOf_setCursor_ne s other.symm _, rfl⟩
  · rw [advanceCursor_fetches ready ahead due more]
    exact ⟨fun d other => cursorOf_setCursor_ne s other.symm _, rfl⟩
  · rw [advanceCursor_stays stays]
    exact ⟨fun _ _ => rfl, rfl⟩

/-! ## The stale test (R55) -/

/-- The stale test is made: a stale timeout is set, and the transport is rolling without the close-all bar (R55). -/
def StaleTested (s : State) : Prop :=
  s.arbiter.staleTimeout ≠ 0 ∧ s.writer.closeAllBar = false ∧
    (s.tracker.transport = .play ∨ s.tracker.transport = .freewheel)

theorem staleTested_iff (s : State) : s.StaleTested ↔
    ¬(s.arbiter.staleTimeout = 0 ∨ s.writer.closeAllBar = true ∨ s.tracker.transport.rolling = false) := by
  rw [StaleTested, ← Transport.rolling_iff]
  simp

theorem staleTest_untested {s : State} {c : ControlId} (t : Frame) (h : ¬s.StaleTested ∨ s.touchOf c = none) :
    s.staleTest c t = s := by
  unfold staleTest
  split
  · rfl
  · next tested =>
    have untouched : s.touchOf c = none := h.resolve_left (not_not_intro (s.staleTested_iff.2 tested))
    rw [untouched]

/-- What the stale test of a touched control comes to, by the age of its last move (R55). -/
theorem staleTest_tested {s : State} {c : ControlId} {r : Touch} (t : Frame) (tested : s.StaleTested)
    (held : s.touchOf c = some r) : s.staleTest c t =
      if t < r.lastMove then s.setTouch c (some { r with lastMove := t })
      else if s.arbiter.staleTimeout ≤ t - r.lastMove then (s.removeTouch c).postNotice r.holder c .stale
      else s := by
  simp only [staleTest, if_neg (s.staleTested_iff.1 tested), held]

/-- The stale test reaches the Touch Arbiter and the surface ports. -/
theorem staleTest_eq (s : State) (c : ControlId) (t : Frame) :
    s.staleTest c t = { s with arbiter := (s.staleTest c t).arbiter, surface := (s.staleTest c t).surface } :=
  eq_of_blocks (by simp)

@[simp] theorem link_removeTouch (s : State) (c : ControlId) (i : SeatId) :
    ((s.removeTouch c).seatOf i).link = (s.seatOf i).link := by
  cases held : s.touchOf c with
  | none => simp [removeTouch, held]
  | some r => rw [removeTouch_eq held, link_countHeld, seatOf_setTouch]

/-- What a stale touch leaves: the touch removed, the count of its holder one less, and the notice at the holder's port, if
that is UP (R54, R55; log 19). -/
theorem staleTest_stale {s : State} {c : ControlId} {r : Touch} {t : Frame} (tested : s.StaleTested)
    (held : s.touchOf c = some r) (since : r.lastMove ≤ t) (stale : s.arbiter.staleTimeout ≤ t - r.lastMove) :
    (s.staleTest c t).arbiter = ((s.setTouch c none).setSeat r.holder
      { s.seatOf r.holder with heldTouches := (s.seatOf r.holder).heldTouches - 1 }).arbiter ∧
    ∀ q, (s.staleTest c t).surfaceOf q = if (s.seatOf r.holder).link = some q ∧ (s.surfaceOf q).link = .up then
      { s.surfaceOf q with
        notices := tset (s.surfaceOf q).notices c (some { notice := .stale, seat := r.holder, onLink := false }) }
      else s.surfaceOf q := by
  rw [staleTest_tested t tested held, if_neg (not_lt.2 since), if_pos stale]
  refine ⟨?_, fun q => ?_⟩
  · rw [postNotice_eq]
    simp only [removeTouch, held]
  · rw [postNotice_surfaceOf, link_removeTouch, surfaceOf_congr (s := s) (by simp) q]

theorem seatOf_countHeld (s : State) (i j : SeatId) (f : Nat → Nat) : (s.countHeld i f).seatOf j =
    { s.seatOf j with heldTouches := ((s.countHeld i f).seatOf j).heldTouches } := by
  by_cases same : i = j
  · subst same
    simp [countHeld]
  · simp [countHeld, same]

/-- The stale test changes no live level, and of a seat no more than its held-touches count (R54). -/
theorem staleTest_kept (s : State) (c : ControlId) (t : Frame) : (∀ d, (s.staleTest c t).liveOf d = s.liveOf d) ∧
    ∀ i, (s.staleTest c t).seatOf i = { s.seatOf i with heldTouches := ((s.staleTest c t).seatOf i).heldTouches } := by
  by_cases tested : s.StaleTested
  · cases held : s.touchOf c with
    | none =>
      rw [staleTest_untested t (.inr held)]
      exact ⟨fun _ => rfl, fun _ => rfl⟩
    | some r =>
      rw [staleTest_tested t tested held, removeTouch_eq held]
      split_ifs
      · exact ⟨fun _ => rfl, fun _ => rfl⟩
      · rw [postNotice_eq]
        exact ⟨fun _ => rfl, fun i => seatOf_countHeld (s.setTouch c none) r.holder i (· - 1)⟩
      · exact ⟨fun _ => rfl, fun _ => rfl⟩
  · rw [staleTest_untested t (.inl tested)]
    exact ⟨fun _ => rfl, fun _ => rfl⟩

/-! ## The first step (R64) -/

/-- The state with the position at a control and its cursor advanced, before the stale test (R64, R130). -/
def cursorAdvanced (s : State) (c : ControlId) (t : Frame) : State :=
  { s with
    pass := { s.pass with run := { s.pass.run with position := some c } }
    port := (s.advanceCursor c t).port
    cursors := (s.advanceCursor c t).cursors }

theorem evaluationStep_eq (s : State) (c : ControlId) (t : Frame) :
    s.evaluationStep c t = (s.cursorAdvanced c t).staleTest c t := by
  have advance : (s.setRun { s.pass.run with position := some c }).advanceCursor c t = s.cursorAdvanced c t :=
    (s.advanceCursor_setRun _ c t).trans (congrArg (setRun · _) (s.advanceCursor_eq c t))
  rw [evaluationStep, advance]

@[simp] theorem evaluationStep_pass (s : State) (c : ControlId) (t : Frame) :
    (s.evaluationStep c t).pass = { s.pass with run := { s.pass.run with position := some c } } := by
  rw [evaluationStep_eq]
  simp [cursorAdvanced]

theorem evaluationStep_cursors (s : State) (c : ControlId) (t : Frame) :
    (s.evaluationStep c t).cursors = (s.advanceCursor c t).cursors ∧
    (s.evaluationStep c t).port = (s.advanceCursor c t).port := by
  rw [evaluationStep_eq, staleTest_eq]
  exact ⟨rfl, rfl⟩

theorem evaluationStep_blocks (s : State) (c : ControlId) (t : Frame) : s.evaluationStep c t = { s with
    arbiter := (s.evaluationStep c t).arbiter, pass := (s.evaluationStep c t).pass
    port := (s.evaluationStep c t).port, cursors := (s.evaluationStep c t).cursors
    surface := (s.evaluationStep c t).surface } :=
  eq_of_blocks (by simp)

/-- The stale test of the first step, by the age of the touch's last move (R55). -/
theorem evaluationStep_touched {s : State} {c : ControlId} {r : Touch} (t : Frame) (tested : s.StaleTested)
    (held : s.touchOf c = some r) :
    let u := s.evaluationStep c t
    (t < r.lastMove → u.arbiter = (s.setTouch c (some { r with lastMove := t })).arbiter ∧ u.surface = s.surface) ∧
    (r.lastMove ≤ t → t - r.lastMove < s.arbiter.staleTimeout → u.arbiter = s.arbiter ∧ u.surface = s.surface) ∧
    (r.lastMove ≤ t → s.arbiter.staleTimeout ≤ t - r.lastMove →
      u.arbiter = ((s.setTouch c none).setSeat r.holder
        { s.seatOf r.holder with heldTouches := (s.seatOf r.holder).heldTouches - 1 }).arbiter ∧
      ∀ q, u.surfaceOf q = if (s.seatOf r.holder).link = some q ∧ (s.surfaceOf q).link = .up then
        { s.surfaceOf q with
          notices := tset (s.surfaceOf q).notices c (some { notice := .stale, seat := r.holder, onLink := false }) }
        else s.surfaceOf q) := by
  intro u
  have step : u = (s.cursorAdvanced c t).staleTest c t := s.evaluationStep_eq c t
  have aged := step.trans (staleTest_tested (s := s.cursorAdvanced c t) t tested held)
  refine ⟨fun newer => ?_, fun since young => ?_, fun since stale => ?_⟩
  · rw [aged, if_pos newer]
    exact ⟨rfl, rfl⟩
  · rw [aged, if_neg (not_lt.2 since),
      if_neg (show ¬(s.cursorAdvanced c t).arbiter.staleTimeout ≤ t - r.lastMove from not_le.2 young)]
    exact ⟨rfl, rfl⟩
  · rw [step]
    exact staleTest_stale (s := s.cursorAdvanced c t) tested held since stale

theorem evaluationStep_untested {s : State} {c : ControlId} (t : Frame) (h : ¬s.StaleTested ∨ s.touchOf c = none) :
    (s.evaluationStep c t).arbiter = s.arbiter ∧ (s.evaluationStep c t).surface = s.surface := by
  rw [evaluationStep_eq, staleTest_untested (s := s.cursorAdvanced c t) t h]
  exact ⟨rfl, rfl⟩

theorem liveOf_evaluationStep (s : State) (c : ControlId) (t : Frame) (d : ControlId) :
    (s.evaluationStep c t).liveOf d = s.liveOf d := by
  rw [evaluationStep_eq]
  exact (staleTest_kept ..).1 d

/-- A seat keeps its port and its bank through the first step, so the same controls stay visible (R40). -/
theorem visible_evaluationStep (s : State) (c : ControlId) (t : Frame) (p : SurfaceId) (d : ControlId) :
    (s.evaluationStep c t).visible p d = s.visible p d := by
  have kept (i : SeatId) : (s.evaluationStep c t).seatOf i =
      { s.seatOf i with heldTouches := ((s.evaluationStep c t).seatOf i).heldTouches } := by
    rw [evaluationStep_eq]
    exact (staleTest_kept ..).2 i
  have shows (i : SeatId) : ((s.evaluationStep c t).seatOf i).link = (s.seatOf i).link ∧
      seatShows ((s.evaluationStep c t).seatOf i) d = seatShows (s.seatOf i) d := by
    rw [kept]
    exact ⟨rfl, rfl⟩
  simp only [visible, shows]

/-! ## What the evaluation reads (R64 to R67) -/

theorem isSafe_iff (s : State) (c : ControlId) : s.isSafe c = true ↔
    16 ≤ c.val ∧ ∃ i : StemId, (s.configOf c).stem = some i ∧ tget s.pass.safe i = true := by
  unfold isSafe
  cases (s.configOf c).stem <;> simp

theorem isSafe_congr {s t : State} (config : t.pass.config = s.pass.config) (safe : t.pass.safe = s.pass.safe)
    (c : ControlId) : t.isSafe c = s.isSafe c := by
  simp only [isSafe, configOf, config, safe]

theorem evaluationMode_evaluationStep (s : State) (c : ControlId) (t : Frame) :
    (s.evaluationStep c t).evaluationMode c = if s.isSafe c then .off else (s.configOf c).mode := by
  rw [evaluationMode, isSafe_congr (s := s) (by simp) (by simp)]
  simp [configOf]

theorem storedValue_relocating {s : State} {c : ControlId} (h : (s.cursorOf c).state = .relocating) :
    s.storedValue c = (s.recordOf c).storedUsed := by
  simp only [storedValue, h]

theorem storedValue_answered {s : State} {c : ControlId} (h : (s.cursorOf c).state ≠ .relocating) :
    s.storedValue c = storedOf (s.cursorOf c).current := by
  unfold storedValue
  split
  · next relocating => exact absurd relocating h
  all_goals rfl

end State

theorem storedOf_gap {r : CurrentRecord} (h : r.kind = .gap) : storedOf (some r) = none := by
  simp [storedOf, h]

theorem storedOf_level {r : CurrentRecord} (h : r.kind = .level) : storedOf (some r) = some r.level := by
  simp [storedOf, h]

/-- Settles O19: the first step by its cursor advance and its stale test, then the inputs read from what it leaves. -/
theorem evaluationBegins : Obligations.EvaluationBegins := by
  intro s c t u x stale tested
  obtain ⟨cursors, port⟩ := s.evaluationStep_cursors c t
  obtain ⟨others, walk⟩ := s.advanceCursor_cursors c t
  have cursorOf (d : ControlId) : u.cursorOf d = (s.advanceCursor c t).cursorOf d := State.cursorOf_congr cursors d
  refine ⟨⟨s.evaluationStep_pass c t, fun r ready ahead due => ⟨fun last => ?last, fun more => ?fetches⟩,
    fun stays => ?stays, fun d other => (cursorOf d).trans (others d other), (congrArg CursorUnit.walk cursors).trans walk,
    fun r tests held => State.evaluationStep_touched t tests held,
    fun untested => State.evaluationStep_untested t untested, s.evaluationStep_blocks c t⟩, ?reads⟩
  case last =>
    rw [cursorOf, port, State.advanceCursor_last ready ahead due last]
    exact ⟨State.cursorOf_setCursor_self .., rfl⟩
  case fetches =>
    rw [cursorOf, port, State.advanceCursor_fetches ready ahead due more]
    exact ⟨State.cursorOf_setCursor_self .., rfl⟩
  case stays =>
    rw [cursorOf, port, State.advanceCursor_stays stays]
    exact ⟨rfl, rfl⟩
  case reads =>
    intro read safe answer
    have mode : read.mode = if s.isSafe c then .off else (s.configOf c).mode := s.evaluationMode_evaluationStep c t
    have record : u.recordOf c = s.recordOf c := by simp [u, State.recordOf]
    have config : u.configOf c = s.configOf c := by simp [u, State.configOf]
    have segment : u.segmentOf c = s.segmentOf c := State.segmentOf_congr (by simp [u]) c
    refine ⟨⟨rfl, rfl, config, congrArg Tracker.transport (by simp), s.liveOf_evaluationStep c t c, rfl,
        congrArg Option.isSome segment, record⟩,
      fun isSafe => mode.trans (if_pos ((s.isSafe_iff c).2 isSafe)),
      fun free => mode.trans (if_neg (mt (s.isSafe_iff c).1 free)),
      fun relocating => ?held, fun answers => ⟨fun absent => ?absent, fun r current => ⟨fun gap => ?gap, fun level => ?level⟩⟩⟩
    case held => exact (State.storedValue_relocating relocating).trans (congrArg EvalRecord.storedUsed record)
    all_goals refine (State.storedValue_answered answers).trans ?_
    case absent => exact congrArg storedOf absent
    case gap => exact (congrArg storedOf current).trans (storedOf_gap gap)
    case level => exact (congrArg storedOf current).trans (storedOf_level level)

end Sys2Proof.Machine
end

section
/-! SUPPORT. The end of an evaluation (R62, R70, R79 to R81): its results, which are its record, the entry of a path and the
follow sets; then the pass going on from it, and the command of an evaluation that writes nothing. -/

namespace Sys2Proof.Machine

open Sys2Proof.Safety

/-! ## The entry of a path (R20, R79, R142) -/

theorem pathIndex_eq_some_iff {c : ControlId} {p : Fin 192} : pathIndex c = some p ↔ c.val = p.val + 16 := by
  have bound := p.isLt
  unfold pathIndex
  split
  · rw [Option.some.injEq, Fin.ext_iff]
    dsimp only
    omega
  · simp
    omega

theorem engineEntry_eq (stem : Option StemId) (l : Level) :
    engineEntry stem l = { stem := stem, coefficient := if stem = none then 0 else coefficient l } := by
  cases stem <;> rfl

namespace State

theorem entryOf_setEntry (s : State) (b k : BankId) (p q : Fin 192) (x : Entry) :
    (s.setEntry b p x).entryOf k q = if b = k ∧ p = q then x else s.entryOf k q := by
  unfold entryOf setEntry
  dsimp only
  by_cases bank : b = k
  · subst bank
    simp [tget_tset]
  · simp [bank]

theorem writeEntry_entryOf (s : State) (e : Evaluation) (b : BankId) (p : Fin 192) : (s.writeEntry e).entryOf b p =
    if s.engine.building = some b ∧ e.control.val = p.val + 16 then
      engineEntry e.config.stem (s.recordOf e.control).effective
    else s.entryOf b p := by
  simp only [← pathIndex_eq_some_iff]
  unfold writeEntry
  split
  · next k q building path => simp [building, path, entryOf_setEntry]
  · next other =>
    refine (if_neg ?_).symm
    rintro ⟨building, path⟩
    exact other b p building path

theorem writeEntry_engine (s : State) (e : Evaluation) :
    (s.writeEntry e).engine = { s.engine with banks := (s.writeEntry e).engine.banks } := by
  unfold writeEntry
  split <;> rfl

end State

/-! ## The feed of the follow sets (R80) -/

/-- A surface port that is fed with the presented level of a control it shows: an UP port takes it into its follow set if that
holds the control already, if the level last sent is another, or at the control's first evaluation (R80). -/
def SurfacePort.fed (x : SurfacePort) (c : ControlId) (l : Level) (first : Bool) : SurfacePort :=
  if x.link = .up ∧ (tget x.follow c ≠ none ∨ tget x.lastSent c ≠ some l ∨ first = true) then
    { x with follow := tset x.follow c (some { level := l, onLink := false }) }
  else x

namespace State

theorem feedFollowAt_surfaceOf (s : State) (c : ControlId) (l : Level) (first : Bool) (p q : SurfaceId) :
    (s.feedFollowAt c l first p).surfaceOf q =
      if p = q ∧ s.visible q c = true then (s.surfaceOf q).fed c l first else s.surfaceOf q := by
  unfold feedFollowAt
  by_cases same : p = q
  · subst same
    by_cases shown : s.visible p c = true
    · simp only [shown, if_true, whenUp_surfaceOf, SurfacePort.fed, true_and]
      by_cases up : (s.surfaceOf p).link = .up <;>
        simp [up, Option.isSome_iff_ne_none, or_assoc, or_comm, or_left_comm]
    · simp [shown]
  · split <;> simp [same, whenUp_surfaceOf]

theorem feedFollow_surfaceOf (s : State) (c : ControlId) (l : Level) (first : Bool) (q : SurfaceId) :
    (s.feedFollow c l first).surfaceOf q =
      if s.visible q c = true then (s.surfaceOf q).fed c l first else s.surfaceOf q := by
  have shows (u : State) (p : SurfaceId) : (u.feedFollowAt c l first p).visible q c = u.visible q c :=
    visible_congr (by simp) q c
  unfold feedFollow
  simp only [feedFollowAt_surfaceOf, shows]
  fin_cases q <;> simp

/-! ## The results of an evaluation (R70, R79 to R81) -/

/-- The state with the results of an evaluation, before the pass goes on from it. -/
def results (s : State) (e : Evaluation) : State :=
  ((s.recordResults e).writeEntry e).feedFollow e.control e.presented e.firstEvaluation

theorem finishEvaluation_eq (s : State) (e : Evaluation) :
    s.finishEvaluation e = (s.results e).endEvaluation e.control := rfl

@[simp] theorem results_pass (s : State) (e : Evaluation) : (s.results e).pass = (s.recordResults e).pass := by
  simp [results]

/-- The results reach the pass's records, the engine port and the surface ports. -/
theorem results_eq (s : State) (e : Evaluation) : s.results e = { s with
    pass := { s.pass with records := (s.results e).pass.records }
    engine := (s.results e).engine, surface := (s.results e).surface } :=
  eq_of_blocks (by simp [results, recordResults, setRecord])

theorem results_recordOf_self (s : State) (e : Evaluation) : (s.results e).recordOf e.control =
    { s.recordOf e.control with
      effective := s.effectiveLevel e
      latch := s.latchAfter e
      previousMode := e.mode
      previousHeld := e.held
      evaluatedFrame := some e.frame } :=
  (recordOf_congr (s.results_pass e) _).trans (recordOf_setRecord_self ..)

theorem results_recordOf_ne (s : State) (e : Evaluation) {d : ControlId} (other : d ≠ e.control) :
    (s.results e).recordOf d = s.recordOf d :=
  (recordOf_congr (s.results_pass e) _).trans (recordOf_setRecord_ne _ other.symm _)

@[simp] theorem results_segmentOf (s : State) (e : Evaluation) (d : ControlId) :
    (s.results e).segmentOf d = s.segmentOf d :=
  segmentOf_congr (by simp [results]) d

theorem results_engine (s : State) (e : Evaluation) :
    (s.results e).engine = { s.engine with banks := (s.results e).engine.banks } := by
  have engine : (s.results e).engine = ((s.recordResults e).writeEntry e).engine := by simp [results]
  rw [engine, writeEntry_engine]
  simp

/-- What an evaluation leaves beside its record, from a state v in which its Segment Writer step is done (R79, R80). -/
theorem resultsLeft_results {s u v : State} {e : Evaluation} (engine : v.engine = s.engine)
    (shows : ∀ q, v.visible q e.control = s.visible q e.control) (surface : ∀ q, v.surfaceOf q = u.surfaceOf q) :
    ResultsLeft s u (v.results e) e.control e.config.stem e.presented e.firstEvaluation := by
  refine ⟨fun b p => ?entry, ?engine, fun q => ?port⟩
  case entry =>
    have fed : (v.results e).entryOf b p = ((v.recordResults e).writeEntry e).entryOf b p := by
      simp [results, entryOf]
    have record : (v.results e).recordOf e.control = (v.recordResults e).recordOf e.control :=
      recordOf_congr (by simp) _
    have building : (v.recordResults e).engine = s.engine := by simp [engine]
    have entries : (v.recordResults e).entryOf b p = s.entryOf b p := by simp [entryOf, engine]
    rw [fed, writeEntry_entryOf, record, engineEntry_eq, entries, building]
  case engine => rw [results_engine, engine]
  case port =>
    have shown : ((v.recordResults e).writeEntry e).visible q e.control = s.visible q e.control :=
      (visible_congr (by simp) q _).trans (shows q)
    have port : ((v.recordResults e).writeEntry e).surfaceOf q = u.surfaceOf q :=
      (surfaceOf_congr (by simp) q).trans (surface q)
    rw [results, feedFollow_surfaceOf, shown, port]
    by_cases visible : s.visible q e.control = true <;> simp [visible, SurfacePort.fed]

/-! ## The pass goes on (R36, R62, R81) -/

theorem endEvaluation_before_last {c : ControlId} (s : State) (h : c.val ≠ 207) :
    s.endEvaluation c = s.setRun { s.pass.run with wait := none, underWay := none } := by
  simp only [endEvaluation, if_neg h]

/-- The end of the last evaluation with no frame pending (R62). -/
theorem endEvaluation_last_idle {s : State} {c : ControlId} (h : c.val = 207) (idle : s.tracker.pendingFrame = none) :
    s.endEvaluation c = { s with pass := { s.pass with run := .idle }, engine := s.engine.completed } := by
  simp only [endEvaluation, if_pos h]
  unfold completePass
  dsimp only
  split
  · next g pending => exact absurd (idle.symm.trans pending) (by simp)
  · rfl

/-- The end of the last evaluation with a frame pending, whose pass starts at once (R36, R61). -/
theorem endEvaluation_last_pending {s : State} {c : ControlId} {g : Frame} (h : c.val = 207)
    (pending : s.tracker.pendingFrame = some g) : s.endEvaluation c = { s with
      tracker := { s.tracker with pendingFrame := none }
      pass := { s.pass with run := { PassRun.idle with inFlight := true, frame := some g } }
      writer := { s.writer with closeAllBar := false }
      engine := { s.engine.completed with building := s.engine.completed.bankToBuild } } := by
  have same : s.endEvaluation c = (s.setRun { s.pass.run with wait := none, underWay := none }).completePass := if_pos h
  rw [same]
  unfold completePass
  dsimp only
  split
  · next f held =>
    obtain rfl : g = f := Option.some.inj (pending.symm.trans held)
    rfl
  · next none => exact absurd (none.symm.trans pending) (by simp)

/-- The completion publishes the building bank and gives the indication, whether a pass starts at once or not (R146, R147). -/
theorem endEvaluation_last_published (s : State) {c : ControlId} (h : c.val = 207) :
    (s.endEvaluation c).engine.published = s.engine.building ∧ (s.endEvaluation c).engine.reading = s.engine.reading ∧
    (s.endEvaluation c).engine.framePublished = s.engine.framePublished + 1 := by
  cases pending : s.tracker.pendingFrame with
  | none =>
    rw [endEvaluation_last_idle h pending]
    exact ⟨rfl, rfl, rfl⟩
  | some g =>
    rw [endEvaluation_last_pending h pending]
    exact ⟨rfl, rfl, rfl⟩

/-- The end of an evaluation keeps the tables of the pass. -/
theorem endEvaluation_pass (s : State) (c : ControlId) :
    (s.endEvaluation c).pass = { s.pass with run := (s.endEvaluation c).pass.run } := by
  unfold endEvaluation
  dsimp only
  split
  · unfold completePass
    dsimp only
    split <;> rfl
  · rfl

theorem endEvaluation_eq (s : State) (c : ControlId) : s.endEvaluation c = { s with
    tracker := (s.endEvaluation c).tracker, pass := (s.endEvaluation c).pass, writer := (s.endEvaluation c).writer
    engine := (s.endEvaluation c).engine } :=
  eq_of_blocks (by simp)

theorem recordLeft_of_pass {s t u : State} {c : ControlId} {f : Frame} (h : RecordLeft s t c f)
    (pass : u.pass = { t.pass with run := u.pass.run }) : RecordLeft s u c f := by
  have records : u.pass.records = t.pass.records := by rw [pass]
  have config : u.pass.config = t.pass.config := by rw [pass]
  have safe : u.pass.safe = t.pass.safe := by rw [pass]
  simpa only [RecordLeft, recordOf, records, config, safe] using h

/-! ## The pool at the end of an event (R92) -/

theorem settlePool_of_slots {s before : State} (h : before.totalFree = 0 ∨ s.totalFree ≠ 0) : s.settlePool before = s := by
  refine if_neg ?_
  rintro ⟨some, none⟩
  rcases h with empty | left
  · omega
  · exact left none

theorem totalFree_congr {s t : State} (h : t.store = s.store) : t.totalFree = s.totalFree := by
  simp only [totalFree, h]

/-- An event that takes no slot ends nothing for want of one. -/
theorem settlePool_of_store {s before : State} (h : s.store = before.store) : s.settlePool before = s := by
  refine settlePool_of_slots ?_
  rw [totalFree_congr h]
  exact Decidable.em _

/-! ## CONTROL_EVALUATION (R62, R64) -/

theorem evaluationDue_eq {s : State} {c : ControlId} {f : Frame} (due : EvaluationDue s c f) :
    s.evaluationDue = some (c, f) := by
  obtain ⟨flight, free, frame, place⟩ := due
  have next : s.nextControl = some c := by
    obtain ⟨start, first⟩ | ⟨d, at_, after⟩ := place
    · have zero : c = 0 := Fin.ext first
      simp only [nextControl, start, zero]
    · have bound := c.isLt
      simp only [nextControl, at_, controlAfter]
      rw [dif_pos (by omega)]
      exact congrArg some (Fin.ext after.symm)
  simp only [evaluationDue, flight, free, frame, next]

/-- The state in which the Segment Writer takes over the evaluation: the record holds its choice (R76; log 16). -/
def chosen (s : State) (c : ControlId) (f : Frame) : State :=
  (s.evaluationStep c f).recordChoice (inputsAt s c f) (inputsAt s c f).choose

/-- The evaluation that the Segment Writer takes over (R76). -/
def handedOver (s : State) (c : ControlId) (f : Frame) : Evaluation :=
  handOver (inputsAt s c f) (inputsAt s c f).choose

theorem evaluate_eq (s : State) (c : ControlId) (f : Frame) :
    s.evaluate c f = (s.chosen c f).writerStep (s.handedOver c f) := rfl

/-- An evaluation that ends, and takes no slot, goes on to what its end leaves. -/
theorem controlEvaluation_goesOn {s v : State} {c : ControlId} {f : Frame} (due : EvaluationDue s c f)
    (ends : s.evaluate c f = v.endEvaluation c) (store : v.store = s.store) :
    GoesOnTo (exec .controlEvaluation s) (v.endEvaluation c) := by
  have settled : (s.evaluate c f).settlePool s = v.endEvaluation c := by
    rw [ends]
    exact settlePool_of_store ((endEvaluation_frame v c).2.2.2.1.trans store)
  have next : exec .controlEvaluation s = .next ((s.evaluate c f).settlePool s).transmitAll := by
    show execControlEvaluation s = _
    simp only [execControlEvaluation, evaluationDue_eq due]
  rw [next, settled]
  exact goesOn_transmitAll _

/-! ## What an evaluation leaves (R64, R65, R70, R79 to R81) -/

/-- The state with the late-punch flag of a control set or clear (R89). -/
def withLatePunch (s : State) (c : ControlId) (b : Bool) : State :=
  s.setRecord c { s.recordOf c with latePunch := b }

theorem setRecord_recordOf (s : State) (c : ControlId) : s.setRecord c (s.recordOf c) = s := by
  simp only [setRecord, recordOf, tset_tget]

theorem withLatePunch_same (s : State) (c : ControlId) : s.withLatePunch c (s.recordOf c).latePunch = s :=
  s.setRecord_recordOf c

theorem recordOf_evaluationStep (s : State) (c : ControlId) (f : Frame) (d : ControlId) :
    (s.evaluationStep c f).recordOf d = s.recordOf d := by
  simp only [recordOf, evaluationStep_pass]

theorem chosen_recordOf_self (s : State) (c : ControlId) (f : Frame) :
    let x := inputsAt s c f
    (s.chosen c f).recordOf c = { s.recordOf c with
      presented := x.choose.presented, storedUsed := x.stored, trimOffset := x.choose.trimOffset
      glide := x.choose.glide, latch := x.choose.latch, latePunch := x.held && (s.recordOf c).latePunch } := by
  intro x
  rw [← recordOf_evaluationStep s c f c]
  exact recordOf_setRecord_self (s.evaluationStep c f) c _

theorem chosen_recordOf_ne (s : State) {c d : ControlId} (f : Frame) (other : d ≠ c) :
    (s.chosen c f).recordOf d = s.recordOf d :=
  (recordOf_setRecord_ne (s.evaluationStep c f) other.symm _).trans (recordOf_evaluationStep ..)

theorem configOf_evaluationStep (s : State) (c : ControlId) (f : Frame) (d : ControlId) :
    (s.evaluationStep c f).configOf d = s.configOf d := by
  simp only [configOf, evaluationStep_pass]

/-- A path's masters are other controls, so the effective level is the same wherever the other records are (R19). -/
theorem effectiveLevel_of_others {s v : State} {e : Evaluation} (others : ∀ d, d ≠ e.control → v.recordOf d = s.recordOf d) :
    v.effectiveLevel e = if 16 ≤ e.control.val then
      levelSum (e.presented :: (mastersOf e.config).map (fun m => (s.recordOf (masterControl m)).presented)) 0
    else e.presented := by
  unfold effectiveLevel
  split
  · next path =>
    have masters (m : MasterId) : v.recordOf (masterControl m) = s.recordOf (masterControl m) := by
      refine others _ fun same => ?_
      have below : e.control.val = m.val := congrArg Fin.val same.symm
      omega
    simp only [masters]
  · rfl

theorem latchAfter_eq (s : State) (e : Evaluation) : s.latchAfter e =
    ((s.recordOf e.control).latch || e.mode == .latch && e.held && (s.segmentOf e.control).isSome) := by
  unfold latchAfter
  split
  · next latches => simp [latches]
  · next unlatched =>
    have none : (e.mode == .latch && e.held && (s.segmentOf e.control).isSome) = false := by simpa using unlatched
    rw [none, Bool.or_false]

/-- The Segment Writer step of an evaluation is done in state v: it has changed no more of the pass than the control's
late-punch flag, and nothing of the arbiter and the engine port. -/
structure WriterDone (s v : State) (c : ControlId) (f : Frame) (late : Bool) : Prop where
  pass : v.pass = ((s.chosen c f).withLatePunch c late).pass
  arbiter : v.arbiter = (s.evaluationStep c f).arbiter
  engine : v.engine = s.engine

namespace WriterDone

variable {s v w : State} {c : ControlId} {f : Frame} {late : Bool}

theorem recordOf_self (h : WriterDone s v c f late) :
    v.recordOf c = { (s.chosen c f).recordOf c with latePunch := late } :=
  (recordOf_congr h.pass c).trans (recordOf_setRecord_self ..)

theorem recordOf_ne (h : WriterDone s v c f late) {d : ControlId} (other : d ≠ c) : v.recordOf d = s.recordOf d := by
  rw [recordOf_congr h.pass, withLatePunch, recordOf_setRecord_ne _ other.symm, chosen_recordOf_ne s f other]

/-- The pass's tables but for the records, and the pass with the position at the control (R64). -/
theorem pass_kept (h : WriterDone s v c f late) : v.pass =
    { s.pass with records := v.pass.records, run := { s.pass.run with position := some c } } := by
  rw [h.pass, withLatePunch, chosen, recordChoice]
  simp only [setRecord, evaluationStep_pass]

theorem latchAfter_eq (h : WriterDone s v c f late) : v.latchAfter (s.handedOver c f) =
    ((inputsAt s c f).choose.latch ||
      (inputsAt s c f).mode == .latch && (inputsAt s c f).touch.isSome && (v.segmentOf c).isSome) := by
  have latch : (v.recordOf c).latch = (inputsAt s c f).choose.latch := by rw [h.recordOf_self, chosen_recordOf_self]
  rw [← latch]
  exact State.latchAfter_eq v _

theorem effectiveLevel_eq (h : WriterDone s v c f late) : v.effectiveLevel (s.handedOver c f) =
    if 16 ≤ c.val then
      levelSum ((inputsAt s c f).choose.presented ::
        (mastersOf (s.configOf c)).map (fun m => (s.recordOf (masterControl m)).presented)) 0
    else (inputsAt s c f).choose.presented := by
  rw [← s.configOf_evaluationStep c f c]
  exact effectiveLevel_of_others fun d other => h.recordOf_ne other

/-- The evaluation record as the evaluation leaves it (R81). -/
theorem results_recordOf (h : WriterDone s v c f late) : (v.results (s.handedOver c f)).recordOf c =
    { presented := (inputsAt s c f).choose.presented
      effective := v.effectiveLevel (s.handedOver c f)
      storedUsed := (inputsAt s c f).stored
      trimOffset := (inputsAt s c f).choose.trimOffset
      glide := (inputsAt s c f).choose.glide
      latch := v.latchAfter (s.handedOver c f)
      latePunch := late
      previousMode := (inputsAt s c f).mode
      previousHeld := (inputsAt s c f).touch.isSome
      evaluatedFrame := some f } := by
  refine (v.results_recordOf_self (s.handedOver c f)).trans ?_
  rw [show (s.handedOver c f).control = c from rfl, h.recordOf_self, chosen_recordOf_self]
  rfl

theorem results_pass (h : WriterDone s v c f late) : (v.results (s.handedOver c f)).pass = { s.pass with
    records := (v.results (s.handedOver c f)).pass.records, run := { s.pass.run with position := some c } } :=
  (congrArg State.pass (v.results_eq _)).trans (by rw [h.pass_kept])

theorem recordLeft (h : WriterDone s v c f late) : RecordLeft s (v.results (s.handedOver c f)) c f := by
  have record := h.results_recordOf
  rw [h.effectiveLevel_eq] at record
  have pass := h.results_pass
  refine ⟨by rw [record], by rw [record], by rw [record], by rw [record], by rw [record], by rw [record], by rw [record],
    by rw [record], fun d other => ?_, by rw [pass], by rw [pass]⟩
  exact (v.results_recordOf_ne _ other).trans (h.recordOf_ne other)

/-- What the evaluation leaves before the pass goes on from it; the ports are otherwise those the step left, of w. -/
theorem evaluationLeft (h : WriterDone s v c f late) (surface : ∀ q, v.surfaceOf q = w.surfaceOf q) :
    EvaluationLeft s w (v.results (s.handedOver c f)) c f := by
  refine ⟨h.recordLeft, ?latch, ?run, ?results⟩
  case latch => rw [h.results_recordOf, h.latchAfter_eq, results_segmentOf]
  case run => rw [h.results_pass]
  case results =>
    have shows (q : SurfaceId) : v.visible q c = s.visible q c :=
      (visible_congr h.arbiter q c).trans (s.visible_evaluationStep c f q c)
    have left := resultsLeft_results (e := s.handedOver c f) h.engine shows surface
    have stem : (s.handedOver c f).config = s.configOf c := s.configOf_evaluationStep c f c
    have first : (s.handedOver c f).firstEvaluation = (s.recordOf c).evaluatedFrame.isNone :=
      congrArg (fun r : EvalRecord => r.evaluatedFrame.isNone) (s.recordOf_evaluationStep c f c)
    rw [stem, first] at left
    exact left

end WriterDone

/-! ## An evaluation that writes nothing (R86) -/

theorem chosen_eq (s : State) (c : ControlId) (f : Frame) :
    s.chosen c f = { s.evaluationStep c f with pass := (s.chosen c f).pass } := rfl

/-- The choice alone: what a Segment Writer step with nothing to do leaves. -/
theorem chosen_writerDone (s : State) (c : ControlId) (f : Frame) :
    WriterDone s (s.chosen c f) c f ((s.recordOf c).latePunch && (inputsAt s c f).touch.isSome) := by
  have late : ((s.chosen c f).recordOf c).latePunch = ((s.recordOf c).latePunch && (inputsAt s c f).touch.isSome) := by
    rw [chosen_recordOf_self, Bool.and_comm]
    rfl
  refine ⟨?_, rfl, by simp [chosen]⟩
  rw [← late, withLatePunch_same]

end State

theorem Mode.writes_iff (m : Mode) : m.writes = true ↔ m = .touch ∨ m = .latch ∨ m = .trim := by
  cases m <;> decide

namespace State

theorem isSafe_chosen (s : State) (c : ControlId) (f : Frame) (d : ControlId) : (s.chosen c f).isSafe d = s.isSafe d :=
  isSafe_congr (by simp [chosen, recordChoice]) (by simp [chosen, recordChoice]) d

theorem isWriting_iff (s : State) (c : ControlId) (f : Frame) :
    (s.chosen c f).isWriting (s.handedOver c f) = true ↔ Writes s c f := by
  have held : (s.handedOver c f).held = true ↔ (inputsAt s c f).touch ≠ none := Option.isSome_iff_ne_none
  have writer : (s.chosen c f).writer = s.writer := by simp [chosen]
  have transport : (s.handedOver c f).transport = s.tracker.transport := congrArg Tracker.transport (by simp)
  have mode : (s.handedOver c f).mode = (inputsAt s c f).mode := rfl
  have control : (s.handedOver c f).control = c := rfl
  simp only [isWriting, Writes, Bool.and_eq_true, Bool.not_eq_true', held, mode, control, Mode.writes_iff,
    Transport.rolling_iff, transport, writer, isSafe_chosen, and_assoc]

theorem writerStep_closed {s : State} {e : Evaluation} (h : s.segmentOf e.control = none) :
    s.writerStep e = s.withoutSegment e := by
  simp only [writerStep, h]

theorem withoutSegment_idle {s : State} {e : Evaluation} (h : ¬s.isWriting e = true) :
    s.withoutSegment e = (s.results e).endEvaluation e.control := if_neg h

/-- The evaluation of a control that neither writes nor has an open segment ends with its results. -/
theorem evaluate_withoutWriting {s : State} {c : ControlId} {f : Frame} (closed : s.segmentOf c = none)
    (idle : ¬Writes s c f) :
    s.evaluate c f = ((s.chosen c f).results (s.handedOver c f)).endEvaluation c := by
  have none : (s.chosen c f).segmentOf (s.handedOver c f).control = none :=
    (segmentOf_congr (by simp [chosen]) c).trans closed
  rw [evaluate_eq, writerStep_closed none, withoutSegment_idle (mt (s.isWriting_iff c f).1 idle)]
  rfl

/-- So the part goes on to those results, and the pass from them (R62). -/
theorem withoutWriting_goesOn {s : State} {c : ControlId} {f : Frame} (due : EvaluationDue s c f)
    (closed : s.segmentOf c = none) (idle : ¬Writes s c f) :
    GoesOnTo (exec .controlEvaluation s) (((s.chosen c f).results (s.handedOver c f)).endEvaluation c) :=
  controlEvaluation_goesOn due (evaluate_withoutWriting closed idle) (by simp [results, chosen])

end State

/-- Settles O20: the choice, then its results, with no Segment Writer step between them. -/
theorem evaluationWithoutWriting : Obligations.EvaluationWithoutWriting := by
  intro s c f due closed idle u
  have done := s.chosen_writerDone c f
  refine ⟨(s.chosen c f).results (s.handedOver c f), State.withoutWriting_goesOn due closed idle,
    done.evaluationLeft fun _ => rfl, by rw [done.results_recordOf], ?_⟩
  rw [State.results_eq, State.chosen_eq]

/-- Settles O21: the end of an evaluation by whether the control is the last and a frame is pending; then the command, whose
results that end follows. -/
theorem passCompletes : Obligations.PassCompletes := by
  refine ⟨⟨fun s c before => s.endEvaluation_before_last before, fun s c last => ⟨fun idle => ?idle, fun g pending => ?pending⟩⟩,
    fun s c f due closed silent last => ?command⟩
  case idle => exact State.endEvaluation_last_idle last idle
  case pending =>
    have bank := s.engine.completed.bankToBuild_eq
    have ends := State.endEvaluation_last_pending last pending
    rw [bank] at ends
    exact ends
  case command =>
    have done := s.chosen_writerDone c f
    obtain ⟨w, results⟩ : ∃ w, w = (s.chosen c f).results (s.handedOver c f) := ⟨_, rfl⟩
    have record : RecordLeft s w c f := results ▸ done.recordLeft
    have goesOn := results ▸ State.withoutWriting_goesOn due closed silent
    have rest : w = { s.evaluationStep c f with pass := w.pass, engine := w.engine, surface := w.surface } := by
      rw [results, State.results_eq, State.chosen_eq]
    have engine : w.engine = { s.engine with banks := w.engine.banks } := by
      rw [results, State.results_engine, done.engine]
    have tracker : w.tracker = s.tracker := by rw [rest]; simp
    have writer : w.writer = s.writer := by rw [rest]; simp
    obtain ⟨published, reading, strobe⟩ := w.endEvaluation_last_published last
    rw [engine] at published reading strobe
    refine ⟨w.endEvaluation c, goesOn, State.recordLeft_of_pass record (w.endEvaluation_pass c), published, reading,
      strobe, fun idle => ?commandIdle, fun g pending => ?commandPending, ?frame⟩
    case commandIdle =>
      rw [State.endEvaluation_last_idle last (tracker ▸ idle)]
      exact ⟨rfl, tracker, writer, rfl⟩
    case commandPending =>
      rw [State.endEvaluation_last_pending last (tracker ▸ pending), EnginePort.bankToBuild_eq, engine, tracker, writer]
      exact ⟨rfl, rfl, rfl, rfl⟩
    case frame => rw [State.endEvaluation_eq, rest]

end Sys2Proof.Machine
end

section
/-! SUPPORT. EVALUATION_RESUME (R77, R78, R88 to R92, R95): when an evaluation under way goes on, what the Segment Writer
step it waited with comes to, and what it leaves. -/

namespace Sys2Proof.Machine

open Sys2Proof.Safety

namespace State

/-! ## When an evaluation goes on (R77, R78) -/

theorem resumable_none {s : State} (h : s.pass.run.underWay = none) : s.resumable = none := by
  simp [resumable, h]

theorem resumable_released {s : State} {e : Evaluation} (run : s.pass.run.underWay = some e)
    (wait : s.pass.run.wait = none) : s.resumable = some e := by
  simp only [resumable, run, wait]

theorem resumable_waiting {s : State} {e : Evaluation} {cause : WaitCause} (run : s.pass.run.underWay = some e)
    (wait : s.pass.run.wait = some cause) : s.resumable = if s.waitRoom cause e.todo then some e else none := by
  simp only [resumable, run, wait]

theorem resumable_room {s : State} {e : Evaluation} {cause : WaitCause} (run : s.pass.run.underWay = some e)
    (wait : s.pass.run.wait = some cause) (room : s.waitRoom cause e.todo = true) : s.resumable = some e :=
  (resumable_waiting run wait).trans (if_pos room)

theorem appendRoom_iff (s : State) : s.appendRoom = true ↔ s.appendQueue.length < 64 := decide_eq_true_iff

theorem waitRoom_append (s : State) (todo : EvalTodo) :
    s.waitRoom .appendRoom todo = true ↔ s.appendQueue.length < 64 := by
  cases todo <;> exact s.appendRoom_iff

theorem waitRoom_punchIn (s : State) : s.waitRoom .freeSlot .punchIn = true ↔ 2 ≤ s.slotsForPass := decide_eq_true_iff

theorem waitRoom_slot (s : State) {todo : EvalTodo} (h : todo ≠ .punchIn) :
    s.waitRoom .freeSlot todo = true ↔ 1 ≤ s.slotsForPass := by
  cases todo with
  | punchIn => exact absurd rfl h
  | append | finish => exact decide_eq_true_iff

theorem slotsForPass_eq_zero_iff (s : State) :
    s.slotsForPass = 0 ↔ s.store.freeQueue = [] ∨ s.closingWaiters ≠ 0 := by
  by_cases waiters : s.closingWaiters = 0 <;> simp [slotsForPass, waiters]

theorem slotsForPass_lt_two_iff (s : State) :
    s.slotsForPass < 2 ↔ s.store.freeQueue.length < 2 ∨ s.closingWaiters ≠ 0 := by
  by_cases waiters : s.closingWaiters = 0 <;> simp [slotsForPass, waiters]

theorem evaluationResume_stays {s : State} (h : s.resumable = none) : exec .evaluationResume s = .next s := by
  show execEvaluationResume s = _
  rw [execEvaluationResume, h]

theorem evaluationResume_withoutRoom {s : State} {e : Evaluation} {cause : WaitCause} (run : s.pass.run.underWay = some e)
    (wait : s.pass.run.wait = some cause) (room : ¬s.waitRoom cause e.todo = true) : exec .evaluationResume s = .next s :=
  evaluationResume_stays ((resumable_waiting run wait).trans (if_neg room))

theorem evaluationResume_goesOn {s : State} {e : Evaluation} (h : s.resumable = some e) :
    GoesOnTo (exec .evaluationResume s) ((s.resume e).settlePool s) := by
  have next : exec .evaluationResume s = .next ((s.resume e).settlePool s).transmitAll := by
    show execEvaluationResume s = _
    rw [execEvaluationResume, h]
  rw [next]
  exact goesOn_transmitAll _

/-- An append goes on once it has room in the append queue and a slot, whichever of them it waited for (R77, R91). -/
theorem resumable_append {s : State} {e : Evaluation} (run : s.pass.run.underWay = some e) (wait : s.pass.run.wait ≠ none)
    (todo : e.todo = .append) (slots : s.slotsForPass ≠ 0) (room : s.appendQueue.length < 64) : s.resumable = some e := by
  cases cause : s.pass.run.wait with
  | none => exact absurd cause wait
  | some w =>
    refine resumable_room run cause ?_
    cases w with
    | appendRoom => exact (s.waitRoom_append _).2 room
    | freeSlot => exact (s.waitRoom_slot (by simp [todo])).2 (Nat.pos_of_ne_zero slots)

theorem resumable_punchIn {s : State} {e : Evaluation} (run : s.pass.run.underWay = some e)
    (wait : s.pass.run.wait = some .freeSlot) (todo : e.todo = .punchIn) (slots : 2 ≤ s.slotsForPass) :
    s.resumable = some e := by
  refine resumable_room run wait ?_
  rw [todo]
  exact s.waitRoom_punchIn.2 slots

/-- An evaluation that waits on, now for another cause. -/
theorem evaluationResume_waits {s : State} {e : Evaluation} {cause : WaitCause} (h : s.resumable = some e)
    (run : s.pass.run.underWay = some e) (waits : s.resume e = s.enterWait e cause e.todo) :
    GoesOnTo (exec .evaluationResume s) (s.setRun { s.pass.run with wait := some cause }) := by
  have same : s.resume e = s.setRun { s.pass.run with wait := some cause } := by rw [waits, enterWait, ← run]
  have settled : (s.resume e).settlePool s = s.setRun { s.pass.run with wait := some cause } := by
    rw [same]
    exact settlePool_of_store rfl
  exact settled ▸ evaluationResume_goesOn h

/-- An evaluation that ends, with slots left or none to begin with. -/
theorem evaluationResume_ends {s v : State} {e : Evaluation} (h : s.resumable = some e)
    (ends : s.resume e = v.finishEvaluation e) (slots : s.totalFree = 0 ∨ v.totalFree ≠ 0) :
    GoesOnTo (exec .evaluationResume s) ((v.results e).endEvaluation e.control) := by
  have goesOn := evaluationResume_goesOn h
  have store : (v.finishEvaluation e).store = v.store := by simp
  rw [ends, settlePool_of_slots (slots.imp_right (by rw [totalFree_congr store]; exact id))] at goesOn
  exact goesOn

/-! ## What a resumed evaluation leaves (R70, R79 to R81) -/

/-- The Segment Writer step of an evaluation that had waited in state s is done in state v: it has changed no more of the pass
than the control's late-punch flag, and nothing of the arbiter and the engine port. -/
structure ResumptionDone (s v : State) (e : Evaluation) (late : Bool) : Prop where
  pass : v.pass = (s.withLatePunch e.control late).pass
  arbiter : v.arbiter = s.arbiter
  engine : v.engine = s.engine

namespace ResumptionDone

variable {s v u : State} {e : Evaluation} {late : Bool}

theorem of_pass (pass : v.pass = s.pass) (arbiter : v.arbiter = s.arbiter) (engine : v.engine = s.engine) :
    ResumptionDone s v e (s.recordOf e.control).latePunch :=
  ⟨by rw [withLatePunch_same, pass], arbiter, engine⟩

theorem recordOf_self (h : ResumptionDone s v e late) :
    v.recordOf e.control = { s.recordOf e.control with latePunch := late } :=
  (recordOf_congr h.pass _).trans (recordOf_setRecord_self ..)

theorem recordOf_ne (h : ResumptionDone s v e late) {d : ControlId} (other : d ≠ e.control) :
    v.recordOf d = s.recordOf d :=
  (recordOf_congr h.pass d).trans (recordOf_setRecord_ne _ other.symm _)

theorem latePunch (h : ResumptionDone s v e late) : ((v.results e).recordOf e.control).latePunch = late := by
  rw [results_recordOf_self, h.recordOf_self]

theorem pass_kept (h : ResumptionDone s v e late) : v.pass = { s.pass with records := v.pass.records } := by
  rw [h.pass]
  rfl

/-- The ports are otherwise those the step left, of u. -/
theorem resumptionLeft (h : ResumptionDone s v e late) (surface : ∀ q, v.surfaceOf q = u.surfaceOf q) :
    ResumptionLeft s u (v.results e) e := by
  refine ⟨?record, fun d other => ?others, ?pass,
    resultsLeft_results h.engine (fun q => visible_congr h.arbiter q _) surface⟩
  case record =>
    rw [results_recordOf_self, effectiveLevel_of_others fun d other => h.recordOf_ne other, latchAfter, results_segmentOf,
      h.recordOf_self]
    simp only [Option.isSome_iff_ne_none]
  case others => exact (v.results_recordOf_ne e other).trans (h.recordOf_ne other)
  case pass => exact (congrArg State.pass (v.results_eq e)).trans (by rw [h.pass_kept])

end ResumptionDone

/-! ## Taking slots (R94, R107, R108) -/

theorem takeSlot_of_queue {s : State} {slot : Slot} {rest : List Slot} (queue : s.store.freeQueue = slot :: rest) :
    ∃ taken, s.takeSlot = some (slot, taken) ∧ SlotsTaken s taken rest 1 ∧ taken = { s with
      editor := taken.editor
      store := { s.store with freeQueue := rest, poolLow := taken.store.poolLow, refill := taken.store.refill } } := by
  cases took : s.takeSlot with
  | none => simp [takeSlot_eq_none_iff.1 took] at queue
  | some found =>
    obtain ⟨first, taken⟩ := found
    obtain ⟨others, stood, slots, frame⟩ := takeSlot_spec took
    obtain ⟨rfl, rfl⟩ := List.cons.inj (stood.symm.trans queue)
    exact ⟨taken, rfl, slots, frame⟩

/-- Taking slots leaves nothing to say about the splice queue. -/
theorem slotsTaken_congr {s t v : State} {rest : List Slot} {n : Nat} (taken : SlotsTaken s t rest n)
    (store : v.store = { t.store with spliceQueue := v.store.spliceQueue, splice := v.store.splice })
    (editor : v.editor = t.editor) : SlotsTaken s v rest n := by
  have refill : v.store.refill = t.store.refill := by rw [store]
  have low : v.store.poolLow = t.store.poolLow := by rw [store]
  have queue : v.store.freeQueue = t.store.freeQueue := by rw [store]
  have count : v.store.memoryCount = t.store.memoryCount := by rw [store]
  simpa only [SlotsTaken, refill, low, queue, count, editor] using taken

/-- Two slots taken one after the other are two slots taken: the mark 4,096 lies at one of them at most. -/
theorem slotsTaken_two {s u t : State} {slot : Slot} {rest : List Slot} (first : SlotsTaken s u (slot :: rest) 1)
    (second : SlotsTaken u t rest 1) (state : u.store.storeState = s.store.storeState)
    (total : s.totalFree = u.totalFree + 1) : SlotsTaken s t rest 2 := by
  obtain ⟨_, count, refill, low, editor⟩ := first
  obtain ⟨queue', count', refill', low', editor'⟩ := second
  have marks : t.store.poolLow = (s.store.poolLow || (decide (4096 ≤ s.totalFree) && decide (s.totalFree < 4096 + 2))) := by
    rw [low', low, Bool.or_assoc]
    congr 1
    rw [Bool.eq_iff_iff]
    simp only [Bool.or_eq_true, Bool.and_eq_true, decide_eq_true_eq, total]
    omega
  refine ⟨queue', count'.trans count, ?refill, marks, ?editor⟩
  case refill =>
    rw [refill', state, count]
    by_cases requested : s.store.storeState = .ready ∧ (slot :: rest).length < 64 ∧ 0 < s.store.memoryCount ∧
        s.store.refill = .none
    · obtain ⟨ready, short, memory, none⟩ := requested
      have shorter : rest.length < 64 := Nat.lt_of_succ_lt short
      have stands : u.store.refill = .requested := by rw [refill, if_pos ⟨ready, short, memory, none⟩]
      simp [stands, ready, memory, none, shorter]
    · rw [refill, if_neg requested]
  case editor =>
    have rises : s.store.poolLow = true → u.store.poolLow = true := fun h => by rw [low, h, Bool.true_or]
    have stays : u.store.poolLow = true → t.store.poolLow = true := fun h => by rw [low', h, Bool.true_or]
    rw [editor', editor]
    clear * - rises stays
    cases before : s.store.poolLow with
    | true => simp [rises before]
    | false =>
      cases between : u.store.poolLow with
      | true => simp [stays between]
      | false => simp

/-! ## Append and truncation (R90 to R93, R95) -/

theorem append_empty {s : State} {e : Evaluation} {g : Segment} (empty : s.totalFree = 0) :
    s.append e g = .done (s.truncate e g) := if_pos empty

theorem append_waitsForSlot {s : State} {e : Evaluation} {g : Segment} (some : s.totalFree ≠ 0) (none : s.slotsForPass = 0) :
    s.append e g = .waits .freeSlot := by
  rw [append, if_neg some, if_pos none]

theorem totalFree_ne_zero {s : State} (h : s.slotsForPass ≠ 0) : s.totalFree ≠ 0 := by
  rw [Ne, slotsForPass_eq_zero_iff, not_or] at h
  have queued : s.store.freeQueue.length ≠ 0 := fun empty => h.1 (List.eq_nil_of_length_eq_zero empty)
  unfold totalFree
  omega

theorem append_waitsForRoom {s : State} {e : Evaluation} {g : Segment} (slots : s.slotsForPass ≠ 0)
    (full : ¬s.appendRoom = true) : s.append e g = .waits .appendRoom := by
  rw [append, if_neg (totalFree_ne_zero slots), if_neg slots, if_neg full]

theorem append_done {s taken : State} {e : Evaluation} {g : Segment} {slot : Slot} (slots : s.slotsForPass ≠ 0)
    (room : s.appendRoom = true) (took : s.takeSlot = some (slot, taken)) : s.append e g =
      .done ((taken.postRequest (.append (some e.control) (tailWrite g slot))).setSegment e.control
        (some (appendedTo g e.frame e.presented slot))) := by
  rw [append, if_neg (totalFree_ne_zero slots), if_neg slots, if_pos room, took]
  rfl

/-- What an append with a glide's last step closes is the segment it has just extended, with no final record due (R95). -/
theorem closeAtGlideEnd_appended (s : State) (e : Evaluation) (g : Segment) (slot : Slot) :
    let h := appendedTo g e.frame e.presented slot
    (s.setSegment e.control (some h)).closeAtGlideEnd e = if e.glideEnded then
      (s.setSegment e.control none).joinSpliceQueue { segment := h, closing := .complete }
    else s.setSegment e.control (some h) := by
  intro h
  have undue : ¬h.outFrame < e.frame := lt_irrefl _
  unfold closeAtGlideEnd
  rw [segmentOf_setSegment_self]
  by_cases ended : e.glideEnded = true
  · simp only [ended, if_true, closeSegment, if_neg undue, enqueueClosed]
    simp [setSegment, tset]
  · simp only [if_neg ended]

theorem closeAtGlideEnd_closed {s : State} {e : Evaluation} (h : s.segmentOf e.control = none) :
    s.closeAtGlideEnd e = s := by
  simp only [closeAtGlideEnd, h]

theorem setSegment_segmentOf (s : State) (c d : ControlId) (x : Option Segment) :
    (s.setSegment c x).segmentOf d = if d = c then x else s.segmentOf d := by
  by_cases same : d = c
  · rw [if_pos same, same, segmentOf_setSegment_self]
  · rw [if_neg same, segmentOf_setSegment_ne s (Ne.symm same)]

theorem setSegment_eq (s : State) (c : ControlId) (x : Option Segment) : s.setSegment c x =
    { s with writer := { s.writer with segments := (s.setSegment c x).writer.segments } } := rfl

theorem noticeHolder_surfaceOf_congr {s t : State} (arbiter : t.arbiter = s.arbiter) (surface : t.surface = s.surface)
    (c : ControlId) (n : SeatNotice) (q : SurfaceId) :
    (t.noticeHolder c n).surfaceOf q = (s.noticeHolder c n).surfaceOf q := by
  have touch : t.touchOf c = s.touchOf c := touchOf_congr arbiter c
  cases held : s.touchOf c with
  | none => rw [noticeHolder_unheld n held, noticeHolder_unheld n (touch.trans held), surfaceOf_congr surface]
  | some r =>
    rw [noticeHolder_held n held, noticeHolder_held n (touch.trans held), postNotice_surfaceOf, postNotice_surfaceOf,
      seatOf_congr arbiter, surfaceOf_congr surface]

/-- A truncation is a close with no final record; a held control's holder is told, and its late-punch flag set (R93). -/
theorem truncate_eq (s : State) (e : Evaluation) (g : Segment) :
    let closed := (s.setSegment e.control none).joinSpliceQueue { segment := g, closing := .complete }
    s.truncate e g = { closed with
      pass := (s.withLatePunch e.control ((s.recordOf e.control).latePunch || e.held)).pass
      surface := (if e.held then closed.noticeHolder e.control .truncated else closed).surface } := by
  intro closed
  cases held : e.held with
  | false =>
    rw [Bool.or_false, withLatePunch_same]
    exact if_neg (by simp [held])
  | true =>
    have truncated : s.truncate e g = (closed.noticeHolder e.control .truncated).setLatePunch e.control := if_pos held
    rw [Bool.or_true, truncated]
    refine eq_of_blocks ?_
    simp [setLatePunch, withLatePunch, setRecord, recordOf, closed, joinSpliceQueue, setSegment]

theorem truncate_segmentOf (s : State) (e : Evaluation) (g : Segment) (d : ControlId) :
    (s.truncate e g).segmentOf d = if d = e.control then none else s.segmentOf d := by
  have writer : (s.truncate e g).writer = (s.setSegment e.control none).writer := by
    rw [truncate_eq]
    rfl
  rw [segmentOf_congr writer, setSegment_segmentOf]

theorem truncate_surfaceOf (s : State) (e : Evaluation) (g : Segment) (q : SurfaceId) :
    (s.truncate e g).surfaceOf q = (if e.held then s.noticeHolder e.control .truncated else s).surfaceOf q := by
  rw [truncate_eq]
  cases e.held with
  | false => rfl
  | true =>
    exact noticeHolder_surfaceOf_congr (s := s)
      (t := (s.setSegment e.control none).joinSpliceQueue { segment := g, closing := .complete }) rfl rfl e.control _ q

theorem truncate_resumptionDone (s : State) (e : Evaluation) (g : Segment) :
    ResumptionDone s (s.truncate e g) e ((s.recordOf e.control).latePunch || e.held) := by
  rw [truncate_eq]
  exact ⟨rfl, rfl, rfl⟩

/-! ## The work an evaluation had waited with (R77, R78, R88) -/

theorem resume_finish {s : State} {e : Evaluation} (todo : e.todo = .finish) : s.resume e = s.finishEvaluation e := by
  simp only [resume, todo]

theorem resume_append {s : State} {e : Evaluation} {g : Segment} (todo : e.todo = .append)
    (opened : s.segmentOf e.control = some g) (changed : e.presented ≠ g.lastLevel) :
    s.resume e = s.settleWriter e .append (s.append e g) := by
  simp only [resume, todo, opened, continueSegment, if_neg changed]

theorem resume_punchIn {s : State} {e : Evaluation} (todo : e.todo = .punchIn) :
    s.resume e = s.settleWriter e .punchIn (s.punchIn e.control e.frame e.presented) := by
  simp only [resume, todo, attemptPunchIn]

theorem resume_truncates {s : State} {e : Evaluation} {g : Segment} (todo : e.todo = .append)
    (opened : s.segmentOf e.control = some g) (changed : e.presented ≠ g.lastLevel) (empty : s.totalFree = 0) :
    s.resume e = (s.truncate e g).finishEvaluation e := by
  have closed : (s.truncate e g).segmentOf e.control = none := by rw [truncate_segmentOf, if_pos rfl]
  rw [resume_append todo opened changed, append_empty empty, settleWriter, if_pos rfl, closeAtGlideEnd_closed closed]

/-- The state once an evaluation's append has its slot and its room: the tail is posted, and the record that follows it is
the new tail, of the open segment or, at its glide's last step, of the closed one (R90, R95). -/
def appended (taken : State) (e : Evaluation) (g : Segment) (slot : Slot) : State :=
  let posted := taken.postRequest (.append (some e.control) (tailWrite g slot))
  let h := appendedTo g e.frame e.presented slot
  if e.glideEnded then (posted.setSegment e.control none).joinSpliceQueue { segment := h, closing := .complete }
  else posted.setSegment e.control (some h)

theorem resume_appends {s taken : State} {e : Evaluation} {g : Segment} {slot : Slot} (todo : e.todo = .append)
    (opened : s.segmentOf e.control = some g) (changed : e.presented ≠ g.lastLevel) (slots : s.slotsForPass ≠ 0)
    (room : s.appendRoom = true) (took : s.takeSlot = some (slot, taken)) :
    s.resume e = (taken.appended e g slot).finishEvaluation e := by
  rw [resume_append todo opened changed, append_done slots room took, settleWriter, if_pos rfl, closeAtGlideEnd_appended]
  rfl

theorem appended_segmentOf (taken : State) (e : Evaluation) (g : Segment) (slot : Slot) (d : ControlId) :
    (taken.appended e g slot).segmentOf d = if d = e.control then
      (if e.glideEnded then none else some (appendedTo g e.frame e.presented slot)) else taken.segmentOf d := by
  unfold appended
  cases e.glideEnded with
  | true => exact setSegment_segmentOf ..
  | false => exact setSegment_segmentOf ..

/-- The append and the close reach the segment table, the memory port and the splice queue. -/
theorem appended_eq (taken : State) (e : Evaluation) (g : Segment) (slot : Slot) : taken.appended e g slot = { taken with
    writer := { taken.writer with segments := (taken.appended e g slot).writer.segments }
    port := { taken.port with
      requests := taken.port.requests ++ [.append (some e.control) (tailWrite g slot)] }
    store := { taken.store with
      spliceQueue := taken.store.spliceQueue ++ (if e.glideEnded then
        [{ segment := appendedTo g e.frame e.presented slot, closing := .complete }] else [])
      splice := if e.glideEnded = true ∧ taken.store.splice = .idle then .waiting else taken.store.splice } } := by
  unfold appended
  cases e.glideEnded with
  | true =>
    simp only [if_true, true_and]
    rfl
  | false =>
    simp only [Bool.false_eq_true, false_and, if_false, List.append_nil]
    rfl

/-! ## Punch-in and late punch (R88, R89) -/

theorem punchInAllowed_iff (s : State) (c : ControlId) : s.punchInAllowed c = true ↔
    s.spliceQueued c = false ∧ s.store.storeState = .ready ∧ 4096 ≤ s.totalFree := by
  simp [punchInAllowed, storeReady, Config.poolLowWater, and_assoc]

/-- A punch-in takes the two slots at the front of the queue, for its record and for its reserve (R88). -/
theorem openSegment_of_queue {s : State} {c : ControlId} {f : Frame} {l : Level} {a b : Slot} {rest : List Slot}
    (queue : s.store.freeQueue = a :: b :: rest) :
    ∃ taken, s.openSegment c f l = some (taken.setSegment c (some (Segment.opened c f l a b))) ∧ SlotsTaken s taken rest 2 ∧
      taken = { s with
        editor := taken.editor
        store := { s.store with freeQueue := rest, poolLow := taken.store.poolLow, refill := taken.store.refill } } := by
  obtain ⟨u, tookFirst, first, frame⟩ := takeSlot_of_queue queue
  have left : u.store.freeQueue = b :: rest := by rw [frame]
  obtain ⟨taken, tookSecond, second, frame'⟩ := takeSlot_of_queue left
  have total : s.totalFree = u.totalFree + 1 := by
    rw [frame]
    simp only [totalFree, queue, List.length_cons]
    omega
  refine ⟨taken, by simp only [openSegment, tookFirst, tookSecond],
    slotsTaken_two first second (by rw [frame]) total, ?_⟩
  rw [frame', frame]

theorem resume_opens {s u : State} {e : Evaluation} (todo : e.todo = .punchIn) (met : s.punchInAllowed e.control = true)
    (slots : 2 ≤ s.slotsForPass) (opens : s.openSegment e.control e.frame e.presented = some u) :
    s.resume e = u.finishEvaluation e := by
  rw [resume_punchIn todo, punchIn, if_pos met, if_pos slots, opens]
  rfl

theorem resume_latePunch {s : State} {e : Evaluation} (todo : e.todo = .punchIn)
    (unmet : ¬s.punchInAllowed e.control = true) : s.resume e = (s.latePunch e.control).finishEvaluation e := by
  rw [resume_punchIn todo, punchIn, if_neg unmet]
  rfl

/-- What a late punch tells the holder: the pool is low, if that alone bars the punch-in (R89). -/
def latePunchNotice (s : State) (c : ControlId) : SeatNotice :=
  if s.store.storeState = .ready ∧ s.spliceQueued c = false then .poolLow else .latePunch

theorem latePunch_eq (s : State) (c : ControlId) : s.latePunch c = { s with
    pass := (s.withLatePunch c true).pass
    surface := (if (s.recordOf c).latePunch then s else s.noticeHolder c (s.latePunchNotice c)).surface } := by
  unfold latePunch
  cases flag : (s.recordOf c).latePunch with
  | true =>
    have same := s.withLatePunch_same c
    rw [flag] at same
    rw [same]
    rfl
  | false =>
    have notice : (if !s.storeReady || s.spliceQueued c then .latePunch else .poolLow) = s.latePunchNotice c := by
      unfold latePunchNotice storeReady
      by_cases ready : s.store.storeState = .ready <;> cases s.spliceQueued c <;> simp [ready]
    simp only [notice]
    exact eq_of_blocks (by simp [setLatePunch, withLatePunch, setRecord, recordOf])

theorem latePunch_resumptionDone (s : State) (e : Evaluation) : ResumptionDone s (s.latePunch e.control) e true := by
  rw [latePunch_eq]
  exact ⟨rfl, rfl, rfl⟩

theorem latePunch_surfaceOf (s : State) (c : ControlId) (q : SurfaceId) : (s.latePunch c).surfaceOf q =
    (if (s.recordOf c).latePunch then s else s.noticeHolder c (s.latePunchNotice c)).surfaceOf q :=
  surfaceOf_congr (by rw [latePunch_eq]) q

end State

/-- Settles O25: by what the evaluation waits for and by the work it has left, the step it goes on with, and then its
results. -/
theorem evaluationResumes : Obligations.EvaluationResumes := by
  refine fun s => ⟨fun idle => State.evaluationResume_stays (State.resumable_none idle), fun e run => ?_⟩
  intro c met flagKept
  refine ⟨fun wait todo => ?finish, fun wait full => ?noRoom, fun wait todo none => ?noSlot, fun wait todo few => ?fewSlots,
    fun g opened todo changed => ⟨fun wait queued waiters full => ?forRoom, fun wait room left none => ?forSlot,
      fun wait room empty => ?truncates, fun slot rest wait queue waiters room => ?appends⟩,
    fun a b rest wait todo queue waiters => ⟨fun met closed => ?opens, fun unmet => ?late⟩⟩
  case finish =>
    have goesOn := State.evaluationResume_ends (State.resumable_released run wait) (State.resume_finish todo)
      (Decidable.em _)
    have done : State.ResumptionDone s s e _ := .of_pass rfl rfl rfl
    exact ⟨s.results e, goesOn, done.resumptionLeft fun _ => rfl, done.latePunch, by rw [State.results_eq]⟩
  case noRoom =>
    refine State.evaluationResume_withoutRoom run wait ?_
    rw [State.waitRoom_append]
    omega
  case noSlot =>
    refine State.evaluationResume_withoutRoom run wait ?_
    rw [State.waitRoom_slot s todo, (State.slotsForPass_eq_zero_iff s).2 none]
    omega
  case fewSlots =>
    refine State.evaluationResume_withoutRoom run wait ?_
    rw [todo, State.waitRoom_punchIn]
    exact Nat.not_le.2 ((State.slotsForPass_lt_two_iff s).2 few)
  case forRoom =>
    have slots : s.slotsForPass ≠ 0 := by simp [State.slotsForPass_eq_zero_iff, queued, waiters]
    have room : s.waitRoom .freeSlot e.todo = true := (s.waitRoom_slot (by simp [todo])).2 (Nat.pos_of_ne_zero slots)
    refine State.evaluationResume_waits (State.resumable_room run wait room) run ?_
    have noRoom : ¬s.appendRoom = true := by rw [State.appendRoom_iff]; omega
    rw [State.resume_append todo opened changed, State.append_waitsForRoom slots noRoom, todo]
    rfl
  case forSlot =>
    have goes : s.resumable = some e := State.resumable_room run wait ((s.waitRoom_append _).2 room)
    refine State.evaluationResume_waits goes run ?_
    have slots : s.slotsForPass = 0 := (State.slotsForPass_eq_zero_iff s).2 none
    rw [State.resume_append todo opened changed, State.append_waitsForSlot left slots, todo]
    rfl
  case truncates =>
    have goes : s.resumable = some e := State.resumable_room run wait ((s.waitRoom_append _).2 room)
    have goesOn := State.evaluationResume_ends goes (State.resume_truncates todo opened changed empty) (.inl empty)
    have done := s.truncate_resumptionDone e g
    refine ⟨(s.truncate e g).results e, goesOn, done.resumptionLeft (s.truncate_surfaceOf e g), done.latePunch,
      fun d => by rw [State.results_segmentOf, State.truncate_segmentOf], ?_, ?_⟩
    all_goals
      rw [State.results_eq, State.truncate_eq]
      rfl
  case appends =>
    have slots : s.slotsForPass ≠ 0 := by simp [State.slotsForPass_eq_zero_iff, queue, waiters]
    obtain ⟨taken, took, taking, frame⟩ := State.takeSlot_of_queue queue
    have goesOn := State.evaluationResume_goesOn (State.resumable_append run wait todo slots room)
    rw [State.resume_appends todo opened changed slots (s.appendRoom_iff.2 room) took] at goesOn
    have segments := taken.appended_segmentOf e g slot
    have writes := taken.appended_eq e g slot
    generalize taken.appended e g slot = v at goesOn segments writes
    obtain ⟨pass, arbiter, engine, surface⟩ : v.pass = s.pass ∧ v.arbiter = s.arbiter ∧ v.engine = s.engine ∧
        v.surface = s.surface := by
      rw [writes, frame]
      exact ⟨rfl, rfl, rfl, rfl⟩
    have done : State.ResumptionDone s v e _ := .of_pass pass arbiter engine
    refine ⟨v.results e, goesOn, done.resumptionLeft fun q => State.surfaceOf_congr surface q,
      done.latePunch, State.slotsTaken_congr taking ?store ?editor, ?bar, ?port, fun d => ?segment, ?splice, ?frame⟩
    case segment => rw [State.results_segmentOf, segments, State.segmentOf_congr (s := s) (by rw [frame])]
    all_goals rw [State.results_eq, writes]
    case bar => rw [frame]
    case port => rw [frame]
    case splice => rw [frame]
    case frame => rw [frame]
  case opens =>
    have slots : 2 ≤ s.slotsForPass := by simp [State.slotsForPass_of_none waiters, queue]
    obtain ⟨taken, takes, taking, frame⟩ := State.openSegment_of_queue (c := c) (f := e.frame) (l := e.presented) queue
    have ends := State.resume_opens todo ((s.punchInAllowed_iff c).2 met) slots takes
    have segments (d : ControlId) := taken.setSegment_segmentOf c d (some (Segment.opened c e.frame e.presented a b))
    have writes := taken.setSegment_eq c (some (Segment.opened c e.frame e.presented a b))
    generalize taken.setSegment c (some (Segment.opened c e.frame e.presented a b)) = v at ends segments writes
    have left : v.totalFree ≠ 0 := by
      obtain ⟨_, _, free⟩ := met
      have same : v.totalFree = rest.length + s.store.memoryCount := by rw [writes, frame]; rfl
      simp only [State.totalFree, queue, List.length_cons] at free
      omega
    have goesOn := State.evaluationResume_ends (State.resumable_punchIn run wait todo slots) ends (.inr left)
    obtain ⟨pass, arbiter, engine, surface⟩ : v.pass = s.pass ∧ v.arbiter = s.arbiter ∧ v.engine = s.engine ∧
        v.surface = s.surface := by
      rw [writes, frame]
      exact ⟨rfl, rfl, rfl, rfl⟩
    have done : State.ResumptionDone s v e _ := .of_pass pass arbiter engine
    refine ⟨v.results e, goesOn, done.resumptionLeft fun q => State.surfaceOf_congr surface q,
      done.latePunch, State.slotsTaken_congr taking ?openStore ?openEditor, ?openBar, fun d => ?opened, ?openFrame⟩
    case opened =>
      rw [State.results_segmentOf, segments, State.segmentOf_congr (s := s) (by rw [frame])]
      rfl
    all_goals rw [State.results_eq, writes]
    case openBar => rw [frame]
    case openFrame => rw [frame]
  case late =>
    have slots : 2 ≤ s.slotsForPass := by simp [State.slotsForPass_of_none waiters, queue]
    intro reason
    have ends := State.resume_latePunch todo (mt (s.punchInAllowed_iff c).1 unmet)
    have left : s.totalFree = 0 ∨ (s.latePunch c).totalFree ≠ 0 := by
      rw [State.totalFree_congr (s := s) (t := s.latePunch c) (by simp)]
      exact Decidable.em _
    have goesOn := State.evaluationResume_ends (State.resumable_punchIn run wait todo slots) ends left
    have done := s.latePunch_resumptionDone e
    refine ⟨(s.latePunch c).results e, goesOn, done.resumptionLeft (s.latePunch_surfaceOf c), done.latePunch, ?_⟩
    rw [State.results_eq, State.latePunch_eq]

end Sys2Proof.Machine
end

section
/-! SUPPORT. How the bounded queues move (R84, R91, R99, R105, R112, R153, R175): what shrinks no queue's room, and the few
moves that fill a queue, each under the test the part makes first. What every move keeps, every command keeps. -/

namespace Sys2Proof.Machine

open Sys2Proof.Safety

/-! ## What shrinks the queues -/

/-- The controls of the closed segments in a splice queue, oldest first. -/
def queuedControls (q : List ClosedSegment) : List ControlId := q.map (fun e => e.segment.control)

/-- A write of the append queue. -/
def MemRequest.isAppend : MemRequest → Bool
  | .append _ _ => true
  | _ => false

/-- How many appends have not completed at a memory port. -/
def MemoryPort.appends (x : MemoryPort) : Nat := (x.access.toList ++ x.requests).countP MemRequest.isAppend

/-- No surface port holds more messages or replies than before. -/
def PortsShrink (x y : Vector SurfacePort 4) : Prop :=
  ∀ p : SurfaceId, (tget y p).inbound.length ≤ (tget x p).inbound.length ∧
    (tget y p).replies.length ≤ (tget x p).replies.length

/-- No slot has come to the free slot queue and no closed segment to the splice queue, and a refill has been requested only
where there is room for its slot (R108). -/
structure StoreShrinks (x y : ListStore) : Prop where
  freeQueue : y.freeQueue.length ≤ x.freeQueue.length
  refill : y.refill = .none ∨ x.refill ≠ .none ∨ y.freeQueue.length < Config.freeQueueCapacity
  queued : (queuedControls y.spliceQueue).Sublist (queuedControls x.spliceQueue)

/-- No append has been posted at a memory port, and no refill, which the store's own fields imply. -/
structure RequestsShrink (x y : MemoryPort) : Prop where
  appends : y.appends ≤ x.appends
  refills : (∀ r ∈ x.requests, r.priority ≠ 3) → ∀ r ∈ y.requests, r.priority ≠ 3

/-- No segment has been opened: one that stands is at the control at which one of the same control stood. -/
def SegmentsShrink (x y : SegmentWriter) : Prop :=
  ∀ c g, tget y.segments c = some g → ∃ old, tget x.segments c = some old ∧ old.control = g.control

namespace PortsShrink

@[simp] theorem refl (x : Vector SurfacePort 4) : PortsShrink x x := fun _ => ⟨le_rfl, le_rfl⟩

theorem trans {x y z : Vector SurfacePort 4} (h : PortsShrink x y) (k : PortsShrink y z) : PortsShrink x z :=
  fun p => ⟨(k p).1.trans (h p).1, (k p).2.trans (h p).2⟩

end PortsShrink

namespace StoreShrinks

@[simp] theorem refl (x : ListStore) : StoreShrinks x x where
  freeQueue := le_rfl
  refill := or_not.imp_right .inl
  queued := .refl _

theorem trans {x y z : ListStore} (h : StoreShrinks x y) (k : StoreShrinks y z) : StoreShrinks x z where
  freeQueue := k.freeQueue.trans h.freeQueue
  refill := by
    rcases k.refill with idle | busy | room
    · exact .inl idle
    · rcases h.refill with idle | was | room
      · exact absurd idle busy
      · exact .inr (.inl was)
      · exact .inr (.inr (k.freeQueue.trans_lt room))
    · exact .inr (.inr room)
  queued := k.queued.trans h.queued

/-- Where the queues and the refill stay, nothing has come. -/
theorem of_eq {x y : ListStore} (free : y.freeQueue = x.freeQueue) (refill : y.refill = x.refill)
    (queue : y.spliceQueue = x.spliceQueue) : StoreShrinks x y where
  freeQueue := free ▸ le_rfl
  refill := refill ▸ or_not.imp_right .inl
  queued := queue ▸ .refl _

/-- So too where only the work of closed segments has changed. -/
theorem of_queued {x y : ListStore} (free : y.freeQueue = x.freeQueue) (refill : y.refill = x.refill)
    (queued : (queuedControls y.spliceQueue).Sublist (queuedControls x.spliceQueue)) : StoreShrinks x y where
  freeQueue := free ▸ le_rfl
  refill := refill ▸ or_not.imp_right .inl
  queued := queued

end StoreShrinks

namespace RequestsShrink

@[simp] theorem refl (x : MemoryPort) : RequestsShrink x x := ⟨le_rfl, id⟩

theorem trans {x y z : MemoryPort} (h : RequestsShrink x y) (k : RequestsShrink y z) : RequestsShrink x z :=
  ⟨k.appends.trans h.appends, fun none => k.refills (h.refills none)⟩

theorem of_post {x : MemoryPort} {r : MemRequest} (append : r.isAppend = false) (refill : r.priority ≠ 3) :
    RequestsShrink x { x with requests := x.requests ++ [r] } where
  appends := by simp [MemoryPort.appends, append]
  refills none q listed := by
    rcases List.mem_append.1 listed with before | posted
    · exact none q before
    · rwa [List.mem_singleton.1 posted]

/-- Requests that are marked keep their kinds. -/
theorem of_map {f : MemRequest → MemRequest} (append : ∀ r, (f r).isAppend = r.isAppend)
    (priority : ∀ r, (f r).priority = r.priority) (x : MemoryPort) :
    RequestsShrink x { requests := x.requests.map f, access := x.access.map f } where
  appends := by
    have kinds : MemRequest.isAppend ∘ f = MemRequest.isAppend := funext append
    have access : (x.access.map f).toList = x.access.toList.map f := by cases x.access <;> rfl
    rw [MemoryPort.appends, access, ← List.map_append, List.countP_map, kinds]
    exact le_rfl
  refills none q listed := by
    obtain ⟨r, before, rfl⟩ := List.mem_map.1 listed
    rw [priority]
    exact none r before

theorem of_endAccess (x : MemoryPort) : RequestsShrink x { x with access := none } where
  appends := by simp [MemoryPort.appends]
  refills := id

end RequestsShrink

namespace SegmentsShrink

@[simp] theorem refl (x : SegmentWriter) : SegmentsShrink x x := fun _ g stands => ⟨g, stands, rfl⟩

theorem trans {x y z : SegmentWriter} (h : SegmentsShrink x y) (k : SegmentsShrink y z) : SegmentsShrink x z := by
  intro c g stands
  obtain ⟨old, stood, same⟩ := k c g stands
  obtain ⟨older, first, alike⟩ := h c old stood
  exact ⟨older, first, alike.trans same⟩

theorem of_none {x y : SegmentWriter} (h : ∀ c, tget y.segments c = none) : SegmentsShrink x y :=
  fun c g stands => absurd (stands.symm.trans (h c)) (by simp)

end SegmentsShrink

/-- Nothing has come to any of the queues, and no segment has been opened. -/
structure NothingComes (s t : State) : Prop where
  surface : PortsShrink s.surface t.surface
  inbound : t.editor.inbound.length ≤ s.editor.inbound.length
  store : StoreShrinks s.store t.store
  port : RequestsShrink s.port t.port
  writer : SegmentsShrink s.writer t.writer

namespace NothingComes

variable {s t : State}

/-- Nothing comes where no block with a queue changes, and of the editor port not the inbound queue. -/
theorem of_others (kept : t.surface = s.surface ∧ t.editor.inbound = s.editor.inbound ∧ t.store = s.store ∧
    t.port = s.port ∧ t.writer = s.writer) : NothingComes s t := by
  obtain ⟨surface, inbound, store, port, writer⟩ := kept
  exact ⟨surface ▸ .refl _, inbound ▸ le_rfl, store ▸ .refl _, port ▸ .refl _, writer ▸ .refl _⟩

theorem of_surface (surface : PortsShrink s.surface t.surface) (kept : t.editor.inbound = s.editor.inbound ∧
    t.store = s.store ∧ t.port = s.port ∧ t.writer = s.writer) : NothingComes s t := by
  obtain ⟨inbound, store, port, writer⟩ := kept
  exact ⟨surface, inbound ▸ le_rfl, store ▸ .refl _, port ▸ .refl _, writer ▸ .refl _⟩

theorem of_editor (inbound : t.editor.inbound.length ≤ s.editor.inbound.length) (kept : t.surface = s.surface ∧
    t.store = s.store ∧ t.port = s.port ∧ t.writer = s.writer) : NothingComes s t := by
  obtain ⟨surface, store, port, writer⟩ := kept
  exact ⟨surface ▸ .refl _, inbound, store ▸ .refl _, port ▸ .refl _, writer ▸ .refl _⟩

theorem of_store (store : StoreShrinks s.store t.store) (kept : t.surface = s.surface ∧
    t.editor.inbound = s.editor.inbound ∧ t.port = s.port ∧ t.writer = s.writer) : NothingComes s t := by
  obtain ⟨surface, inbound, port, writer⟩ := kept
  exact ⟨surface ▸ .refl _, inbound ▸ le_rfl, store, port ▸ .refl _, writer ▸ .refl _⟩

theorem of_port (port : RequestsShrink s.port t.port) (kept : t.surface = s.surface ∧
    t.editor.inbound = s.editor.inbound ∧ t.store = s.store ∧ t.writer = s.writer) : NothingComes s t := by
  obtain ⟨surface, inbound, store, writer⟩ := kept
  exact ⟨surface ▸ .refl _, inbound ▸ le_rfl, store ▸ .refl _, port, writer ▸ .refl _⟩

theorem of_writer (writer : SegmentsShrink s.writer t.writer) (kept : t.surface = s.surface ∧
    t.editor.inbound = s.editor.inbound ∧ t.store = s.store ∧ t.port = s.port) : NothingComes s t := by
  obtain ⟨surface, inbound, store, port⟩ := kept
  exact ⟨surface ▸ .refl _, inbound ▸ le_rfl, store ▸ .refl _, port ▸ .refl _, writer⟩

theorem refl (s : State) : NothingComes s s := of_others ⟨rfl, rfl, rfl, rfl, rfl⟩

theorem trans {u : State} (h : NothingComes s t) (k : NothingComes t u) : NothingComes s u where
  surface := h.surface.trans k.surface
  inbound := k.inbound.trans h.inbound
  store := h.store.trans k.store
  port := h.port.trans k.port
  writer := h.writer.trans k.writer

end NothingComes

/-! ## The moves -/

/-- The states reached from r by moves that leave every queue as full as it was or less full, or that bring one entry to a
queue as the part does: a segment closes (R97, R99), opens (R88) or posts an append (R90, R91), a refill brings its slot
(R108), a request is granted (R126), and a port admits a message or posts a reply (R156, R164, R176). -/
inductive QueueMoves (r : State) : State → Prop
  | start : QueueMoves r r
  | shrinks {s t : State} : QueueMoves r s → NothingComes s t → QueueMoves r t
  | closes {s t : State} {c : ControlId} {g : Segment} {e : ClosedSegment} : QueueMoves r s → s.segmentOf c = some g →
      NothingComes (s.setSegment c none) t → e.segment.control = g.control → QueueMoves r (t.joinSpliceQueue e)
  | opens {s : State} {g : Segment} : QueueMoves r s → s.spliceQueued g.control = false →
      QueueMoves r (s.setSegment g.control (some g))
  | appends {s : State} {o : Option ControlId} {w : SlotRecord} : QueueMoves r s → s.appendRoom = true →
      QueueMoves r (s.postRequest (.append o w))
  | refills {s : State} {x : SlotRecord} : QueueMoves r s → s.refillStands = true →
      QueueMoves r ((s.refillFrom x).setRefill .none)
  | grants {s : State} {q : MemRequest} : QueueMoves r s → s.port.access = none → q ∈ s.presented →
      QueueMoves r (s.beginAccess q)
  | arrives {s : State} {p : SurfaceId} {m : SeatMessage} : QueueMoves r s →
      (s.surfaceOf p).inbound.length < Config.inboundCapacity → QueueMoves r (s.setSurface p ((s.surfaceOf p).accept m))
  | replies {s : State} {p : SurfaceId} {n : Nat} {m : OutMessage} : QueueMoves r s →
      (s.surfaceOf p).replies.length < Config.replyCapacity → QueueMoves r (s.postReply p n m)
  | admits {s : State} {c : EditorCommand} : QueueMoves r s → s.editor.inbound.length < Config.inboundCapacity →
      QueueMoves r (s.setEditor (s.editor.accept c))

/-! ## What every move keeps: the capacities (R84, R105, R153, R175) -/

theorem appendQueue_length (s : State) : s.appendQueue.length = s.port.appends := by
  rw [MemoryPort.appends, List.countP_eq_length_filter]
  refine congrArg (fun test => ((s.port.access.toList ++ s.port.requests).filter test).length) (funext fun r => ?_)
  cases r <;> rfl

theorem NothingComes.queuesBounded {s t : State} (h : NothingComes s t) (bounded : QueuesBounded s) : QueuesBounded t := by
  obtain ⟨ports, inbound, free, refill, appends, requests⟩ := bounded
  refine ⟨fun p => ?_, h.inbound.trans inbound, h.store.freeQueue.trans free, ?_, ?_, h.port.refills requests⟩
  · obtain ⟨messages, replies⟩ := ports p
    obtain ⟨fewer, less⟩ := h.surface p
    exact ⟨fewer.trans messages, less.trans replies⟩
  · rcases h.store.refill with idle | busy | room
    · exact .inl idle
    · exact .inr (h.store.freeQueue.trans_lt (refill.resolve_left busy))
    · exact .inr room
  · rw [appendQueue_length] at appends ⊢
    exact h.port.appends.trans appends

/-- A request the arbiter sees has been posted, or is the refill the store asks for, or FORMAT's next write (R108, R111). -/
theorem mem_presented {s : State} {q : MemRequest} (h : q ∈ s.presented) :
    q ∈ s.port.requests ∨ q = .refill s.store.freeHead ∧ s.store.refill = .requested ∨ ∃ slot, q = .format slot := by
  rcases List.mem_append.1 (List.mem_filter.1 h).1 with posted | implied
  · exact .inl posted
  · rcases List.mem_append.1 implied with refill | format
    · by_cases asked : s.store.refill = .requested
      · rw [if_pos asked, List.mem_singleton] at refill
        exact .inr (.inl ⟨refill, asked⟩)
      · simp [asked] at refill
    · refine .inr (.inr ?_)
      split at format
      · next slot _ => exact ⟨slot, List.mem_singleton.1 format⟩
      · cases format

/-- A grant moves a request from those posted to the access in progress, so no append is counted twice. -/
theorem appends_granted {x : MemoryPort} {q : MemRequest} (idle : x.access = none) (h : q ∈ x.requests ∨ q.isAppend = false) :
    MemoryPort.appends { requests := x.requests.erase q, access := some q } ≤ x.appends := by
  have granted : MemoryPort.appends { requests := x.requests.erase q, access := some q } =
      (q :: x.requests.erase q).countP MemRequest.isAppend := rfl
  rw [granted, MemoryPort.appends, idle]
  rcases h with posted | other
  · exact ((List.perm_cons_erase posted).symm.countP_eq _).le
  · rw [List.countP_cons_of_neg (by simp [other])]
    exact List.erase_sublist.countP_le

theorem queuesBounded_beginAccess {s : State} {q : MemRequest} (bounded : QueuesBounded s) (idle : s.port.access = none)
    (presented : q ∈ s.presented) : QueuesBounded (s.beginAccess q) := by
  obtain ⟨ports, inbound, free, refill, appends, requests⟩ := bounded
  have port : (s.beginAccess q).port = { requests := s.port.requests.erase q, access := some q } := by
    cases q <;> rfl
  have queue : (s.beginAccess q).store.freeQueue = s.store.freeQueue := by cases q <;> rfl
  have kind : q ∈ s.port.requests ∨ q.isAppend = false := by
    rcases mem_presented presented with posted | ⟨rfl, -⟩ | ⟨slot, rfl⟩
    · exact .inl posted
    · exact .inr rfl
    · exact .inr rfl
  refine ⟨fun p => ?_, by simpa using inbound, queue ▸ free, ?_, ?_, ?_⟩
  · rw [State.surfaceOf_congr (s := s) (by simp)]
    exact ports p
  · rw [queue]
    cases q with
    | refill slot =>
      rcases mem_presented presented with posted | ⟨-, asked⟩ | ⟨_, other⟩
      · exact absurd rfl (requests _ posted)
      · exact .inr (refill.resolve_left (by simp [asked]))
      · cases other
    | _ => exact refill
  · rw [appendQueue_length] at appends ⊢
    rw [port]
    exact (appends_granted idle kind).trans appends
  · rw [port]
    exact fun other listed => requests other (List.mem_of_mem_erase listed)

theorem QueueMoves.queuesBounded {r s : State} (moved : QueueMoves r s) (bounded : QueuesBounded r) : QueuesBounded s := by
  induction moved with
  | start => exact bounded
  | shrinks _ less ih => exact less.queuesBounded ih
  | closes _ opened left _ ih =>
    exact left.queuesBounded ih
  | opens _ _ ih => exact ih
  | @appends s o w _ room ih =>
    obtain ⟨ports, inbound, free, refill, -, requests⟩ := ih
    refine ⟨ports, inbound, free, refill, ?_, fun q listed => ?_⟩
    · have queued := (State.appendRoom_iff s).1 room
      rw [appendQueue_length] at queued ⊢
      have posted : (s.postRequest (.append o w)).port.appends = s.port.appends + 1 := by
        simp [MemoryPort.appends, MemRequest.isAppend, Nat.add_assoc]
      rw [posted]
      exact queued
    · rcases List.mem_append.1 listed with before | posted
      · exact requests q before
      · rw [List.mem_singleton.1 posted]
        exact (by decide : (1 : Nat) ≠ 3)
  | @refills s x _ stands ih =>
    obtain ⟨ports, inbound, free, refill, appends, requests⟩ := ih
    have reading : s.store.refill ≠ .none := fun idle => by simp [State.refillStands, idle] at stands
    refine ⟨ports, inbound, ?_, .inl rfl, appends, requests⟩
    have room := refill.resolve_left reading
    have longer : ((s.refillFrom x).setRefill .none).store.freeQueue.length = s.store.freeQueue.length + 1 := by
      simp [State.refillFrom]
    rw [longer]
    exact room
  | grants _ idle presented ih => exact queuesBounded_beginAccess ih idle presented
  | @arrives s p m _ room ih =>
    obtain ⟨ports, inbound, free, refill, appends, requests⟩ := ih
    refine ⟨fun q => ?_, inbound, free, refill, appends, requests⟩
    by_cases here : p = q
    · subst here
      rw [State.surfaceOf_setSurface_self]
      refine ⟨?_, (ports p).2⟩
      simpa [SurfacePort.accept] using room
    · rw [State.surfaceOf_setSurface_ne _ here]
      exact ports q
  | @replies s p n m _ room ih =>
    obtain ⟨ports, inbound, free, refill, appends, requests⟩ := ih
    have frame : s.postReply p n m = { s with surface := (s.postReply p n m).surface } := State.whenUp_eq ..
    rw [frame]
    refine ⟨fun q => ?_, inbound, free, refill, appends, requests⟩
    have port : (s.postReply p n m).surfaceOf q = _ := State.whenUp_surfaceOf ..
    show portWithinCapacity ((s.postReply p n m).surfaceOf q)
    rw [port]
    split
    · next here =>
      obtain ⟨rfl, -⟩ := here
      refine ⟨(ports p).1, ?_⟩
      simpa using room
    · exact ports q
  | @admits s c _ room ih =>
    obtain ⟨ports, -, free, refill, appends, requests⟩ := ih
    refine ⟨ports, ?_, free, refill, appends, requests⟩
    simpa [EditorPort.accept] using room

/-! ## What every move keeps: the places of segments (R99, R112) -/

theorem spliceQueued_eq_false_iff (s : State) (c : ControlId) :
    s.spliceQueued c = false ↔ c ∉ queuedControls s.store.spliceQueue := by
  simp [State.spliceQueued, queuedControls]

/-- A list that names each control once at most names 208 at most. -/
theorem segmentsPlaced_iff (s : State) : SegmentsPlaced s ↔
    (∀ c g, s.segmentOf c = some g → g.control = c ∧ c ∉ queuedControls s.store.spliceQueue) ∧
    (queuedControls s.store.spliceQueue).Nodup := by
  simp only [SegmentsPlaced, spliceQueued_eq_false_iff]
  refine and_congr_right fun _ => ⟨fun h => h.1, fun once => ⟨once, ?_⟩⟩
  have few : (queuedControls s.store.spliceQueue).length ≤ Fintype.card ControlId := once.length_le_card
  simpa [queuedControls] using few

theorem NothingComes.segmentsPlaced {s t : State} (h : NothingComes s t) (placed : SegmentsPlaced s) :
    SegmentsPlaced t := by
  rw [segmentsPlaced_iff] at placed ⊢
  obtain ⟨standing, once⟩ := placed
  refine ⟨fun c g stands => ?_, once.sublist h.store.queued⟩
  obtain ⟨old, stood, same⟩ := h.writer c g stands
  obtain ⟨own, unqueued⟩ := standing c old stood
  exact ⟨same ▸ own, fun queued => unqueued (h.store.queued.subset queued)⟩

/-- A segment that closes leaves its control's place in the segment table for the tail of the splice queue. -/
theorem segmentsPlaced_joins {s t : State} {c : ControlId} {g : Segment} {e : ClosedSegment} (placed : SegmentsPlaced s)
    (opened : s.segmentOf c = some g) (left : NothingComes (s.setSegment c none) t)
    (named : e.segment.control = g.control) : SegmentsPlaced (t.joinSpliceQueue e) := by
  rw [segmentsPlaced_iff] at placed ⊢
  obtain ⟨standing, once⟩ := placed
  obtain ⟨own, unqueued⟩ := standing c g opened
  have sublist : (queuedControls t.store.spliceQueue).Sublist (queuedControls s.store.spliceQueue) := left.store.queued
  have joined : queuedControls (t.joinSpliceQueue e).store.spliceQueue = queuedControls t.store.spliceQueue ++ [c] := by
    simp [State.joinSpliceQueue, queuedControls, named, own]
  rw [joined]
  refine ⟨fun d k stands => ?_, ?_⟩
  · obtain ⟨old, stood, same⟩ := left.writer d k stands
    have apart : d ≠ c := by
      rintro rfl
      have gone : (s.setSegment d none).segmentOf d = some old := stood
      simp at gone
    have before : s.segmentOf d = some old := (State.segmentOf_setSegment_ne s apart.symm none).symm.trans stood
    obtain ⟨mine, absent⟩ := standing d old before
    refine ⟨same ▸ mine, fun listed => ?_⟩
    rcases List.mem_append.1 listed with earlier | last
    · exact absent (sublist.subset earlier)
    · exact apart (List.mem_singleton.1 last)
  · refine List.nodup_append'.2 ⟨once.sublist sublist, List.nodup_singleton c, ?_⟩
    exact List.disjoint_singleton.2 fun earlier => unqueued (sublist.subset earlier)

theorem QueueMoves.segmentsPlaced {r s : State} (moved : QueueMoves r s) (placed : SegmentsPlaced r) :
    SegmentsPlaced s := by
  induction moved with
  | start => exact placed
  | shrinks _ less ih => exact less.segmentsPlaced ih
  | closes _ opened left named ih => exact segmentsPlaced_joins ih opened left named
  | @opens s g _ unqueued ih =>
    obtain ⟨standing, once, few⟩ := ih
    refine ⟨fun d k stands => ?_, once, few⟩
    rw [State.setSegment_segmentOf] at stands
    split at stands
    · next here =>
      cases stands
      exact ⟨here.symm, here ▸ unqueued⟩
    · exact standing d k stands
  | @grants s q _ _ _ ih => cases q <;> exact ih
  | @replies s p n m _ _ ih =>
    have frame : s.postReply p n m = { s with surface := (s.postReply p n m).surface } := State.whenUp_eq ..
    rw [frame]
    exact ih
  | appends | refills | arrives | admits => assumption

end Sys2Proof.Machine
end

section
/-! SUPPORT. Every command moves the queues as `QueueMoves` allows: the shared operations in the order of the model, then the
commands, then every step (R84, R99, R105, R112, R153, R175). -/

namespace Sys2Proof.Machine

open Sys2Proof.Safety

/-! ## The inbound queue of the editor port (R176) -/

namespace State

@[simp] theorem flagRise_inbound (s : State) : s.flagRise.editor.inbound = s.editor.inbound := by
  unfold flagRise
  split <;> rfl

@[simp] theorem raiseLockLost_inbound (s : State) : s.raiseLockLost.editor.inbound = s.editor.inbound := by
  unfold raiseLockLost
  split <;> simp

@[simp] theorem raisePassOverrun_inbound (s : State) : s.raisePassOverrun.editor.inbound = s.editor.inbound := by
  unfold raisePassOverrun
  split <;> simp

@[simp] theorem postTransportToEditor_inbound (s : State) :
    s.postTransportToEditor.editor.inbound = s.editor.inbound := by
  unfold postTransportToEditor
  split <;> rfl

@[simp] theorem postEditor_inbound (s : State) (m : OutMessage) : (s.postEditor m).editor.inbound = s.editor.inbound := rfl

@[simp] theorem reservePlace_inbound (s : State) (o : PlaceOwner) :
    (s.reservePlace o).editor.inbound = s.editor.inbound := rfl

@[simp] theorem releasePlace_inbound (s : State) (o : PlaceOwner) :
    (s.releasePlace o).editor.inbound = s.editor.inbound := rfl

@[simp] theorem postReserved_inbound (s : State) (o : PlaceOwner) (m : OutMessage) :
    (s.postReserved o m).editor.inbound = s.editor.inbound := rfl

@[simp] theorem setRead_inbound (s : State) (x : Option ListRead) : (s.setRead x).editor.inbound = s.editor.inbound := rfl

@[simp] theorem endRead_inbound (s : State) (x : ListRead) : (s.endRead x).editor.inbound = s.editor.inbound := rfl

@[simp] theorem refuseEditor_inbound (s : State) (reason : RefusalReason) (kind : Byte) (control : Option Byte) :
    (s.refuseEditor reason kind control).editor.inbound = s.editor.inbound := rfl

@[simp] theorem postDone_inbound (s : State) (kind : Byte) : (s.postDone kind).editor.inbound = s.editor.inbound := rfl

@[simp] theorem reportLoadAbort_inbound (s : State) (reason : Option AbortReason) :
    (s.reportLoadAbort reason).editor.inbound = s.editor.inbound := by
  cases reason <;> rfl

@[simp] theorem abandonClear_inbound (s : State) : s.abandonClear.editor.inbound = s.editor.inbound := by
  rw [abandonClear_eq]

/-! ## The reply queue of a surface port (R44) -/

/-- A port whose reply queue has room for the one reply of a take (R44). -/
def HasReplyRoom (s : State) (p : SurfaceId) : Prop := (s.surfaceOf p).replies.length < Config.replyCapacity

theorem hasReplyRoom_of_handed {s : State} {p : SurfaceId} {m : SeatMessage} (handed : s.headMessage p = some m) :
    s.HasReplyRoom p := by
  unfold headMessage at handed
  split at handed
  · next room => exact room
  · cases handed

namespace HasReplyRoom

variable {s : State} {p : SurfaceId}

theorem popSurface (room : s.HasReplyRoom p) : (s.popSurface p).HasReplyRoom p := by
  unfold HasReplyRoom State.popSurface
  rw [surfaceOf_setSurface_self]
  exact room

theorem congr {t : State} (room : s.HasReplyRoom p) (surface : t.surface = s.surface) : t.HasReplyRoom p := by
  unfold HasReplyRoom
  rwa [surfaceOf_congr surface]

theorem postNotice {i : SeatId} {c : ControlId} {n : SeatNotice} (room : s.HasReplyRoom p) :
    (s.postNotice i c n).HasReplyRoom p := by
  unfold HasReplyRoom
  rw [postNotice_surfaceOf]
  split <;> exact room

end HasReplyRoom

end State

/-! ## What single updates bring -/

theorem PortsShrink.of_setSurface (s : State) (p : SurfaceId) {x : SurfacePort}
    (inbound : x.inbound.length ≤ (s.surfaceOf p).inbound.length)
    (replies : x.replies.length ≤ (s.surfaceOf p).replies.length) : PortsShrink s.surface (s.setSurface p x).surface := by
  intro q
  show ((s.setSurface p x).surfaceOf q).inbound.length ≤ _ ∧ ((s.setSurface p x).surfaceOf q).replies.length ≤ _
  by_cases here : p = q
  · subst here
    rw [State.surfaceOf_setSurface_self]
    exact ⟨inbound, replies⟩
  · rw [State.surfaceOf_setSurface_ne _ here]
    exact ⟨le_rfl, le_rfl⟩

theorem PortsShrink.of_whenUp (s : State) (p : SurfaceId) {f : SurfacePort → SurfacePort}
    (inbound : ∀ x, (f x).inbound = x.inbound) (replies : ∀ x, (f x).replies = x.replies) :
    PortsShrink s.surface (s.whenUp p f).surface := by
  unfold State.whenUp
  split
  · exact .of_setSurface s p (by rw [inbound]) (by rw [replies])
  · exact .refl _

theorem chainReturn_priority (kind : ReturnKind) (w : SlotRecord) : (MemRequest.chainReturn kind w).priority ≠ 3 := by
  cases kind <;> simp [MemRequest.priority]

namespace NothingComes

theorem of_requestRefill (s : State) : NothingComes s s.requestRefill := by
  refine .of_store ?_ (by simp)
  rw [State.requestRefill_spec]
  refine ⟨le_rfl, ?_, .refl _⟩
  dsimp only
  split
  · next asks => exact .inr (.inr asks.2.1)
  · exact or_not.imp_right .inl

theorem of_takeSlot {s t : State} {slot : Slot} (took : s.takeSlot = some (slot, t)) : NothingComes s t := by
  obtain ⟨rest, queue, ⟨-, -, refill, -, editor⟩, frame⟩ := State.takeSlot_spec took
  have stays := State.takeSlot_frame took
  have free : t.store.freeQueue = rest := by rw [frame]
  have spliceQueue : t.store.spliceQueue = s.store.spliceQueue := by rw [frame]
  have fewer : rest.length ≤ s.store.freeQueue.length := by simp [queue]
  have room : t.store.refill = .none ∨ s.store.refill ≠ .none ∨ rest.length < Config.freeQueueCapacity := by
    rw [refill]
    split
    · next asks => exact .inr (.inr asks.2.1)
    · exact or_not.imp_right .inl
  exact
    { surface := by simp [stays]
      inbound := by rw [editor]
      store := ⟨free ▸ fewer, free ▸ room, by rw [spliceQueue]⟩
      port := by simp [stays]
      writer := by simp [stays] }

theorem of_postRequest (s : State) {q : MemRequest} (append : q.isAppend = false) (refill : q.priority ≠ 3) :
    NothingComes s (s.postRequest q) := .of_port (.of_post append refill) (by simp)

theorem of_chainReturn (s : State) (kind : ReturnKind) (first last : Slot) (n : Nat) (x : Record) :
    NothingComes s (s.chainReturn kind first last n x) := by
  rw [State.chainReturn_spec]
  refine ⟨.refl _, le_rfl, ⟨le_rfl, ?_, .refl _⟩, .of_post rfl (chainReturn_priority _ _), .refl _⟩
  dsimp only [refillAfterReturn]
  split
  · next stands => exact .inr (.inl (by simp [stands]))
  · next stands => exact .inr (.inl (by simp [stands]))
  · split
    · next asks => exact .inr (.inr asks.2.1)
    · exact .inl rfl

/-- A segment that goes on at its control, or leaves it. -/
theorem of_setSegment {s : State} {c : ControlId} {x : Option Segment}
    (goesOn : ∀ g, x = some g → ∃ old, s.segmentOf c = some old ∧ old.control = g.control) :
    NothingComes s (s.setSegment c x) := by
  refine .of_writer (fun d g stands => ?_) (by simp)
  have written : (s.setSegment c x).segmentOf d = some g := stands
  rw [State.setSegment_segmentOf] at written
  split at written
  · next here =>
    subst here
    exact goesOn g written
  · exact ⟨g, written, rfl⟩

end NothingComes

namespace QueueMoves

variable {r s : State}

theorem others (h : QueueMoves r s) {t : State} (kept : t.surface = s.surface ∧ t.editor.inbound = s.editor.inbound ∧
    t.store = s.store ∧ t.port = s.port ∧ t.writer = s.writer) : QueueMoves r t := h.shrinks (.of_others kept)

theorem ite {b : Prop} [Decidable b] {u v : State} (moved : b → QueueMoves r u) (otherwise : ¬b → QueueMoves r v) :
    QueueMoves r (if b then u else v) := by
  split
  · exact moved ‹_›
  · exact otherwise ‹_›

/-! ## The surface ports -/

theorem setSurface (h : QueueMoves r s) {p : SurfaceId} {x : SurfacePort}
    (inbound : x.inbound.length ≤ (s.surfaceOf p).inbound.length)
    (replies : x.replies.length ≤ (s.surfaceOf p).replies.length) : QueueMoves r (s.setSurface p x) :=
  h.shrinks (.of_surface (.of_setSurface s p inbound replies) (by simp))

theorem whenUp (h : QueueMoves r s) {p : SurfaceId} {f : SurfacePort → SurfacePort}
    (inbound : ∀ x, (f x).inbound = x.inbound) (replies : ∀ x, (f x).replies = x.replies) :
    QueueMoves r (s.whenUp p f) :=
  h.shrinks (.of_surface (.of_whenUp s p inbound replies) (by simp))

theorem postNotice (h : QueueMoves r s) {i : SeatId} {c : ControlId} {n : SeatNotice} :
    QueueMoves r (s.postNotice i c n) := by
  unfold State.postNotice
  split
  · exact h.whenUp (fun _ => rfl) fun _ => rfl
  · exact h

theorem noticeHolder (h : QueueMoves r s) {c : ControlId} {n : SeatNotice} : QueueMoves r (s.noticeHolder c n) := by
  unfold State.noticeHolder
  split
  · exact h.postNotice
  · exact h

theorem postTransportTo (h : QueueMoves r s) {p : SurfaceId} : QueueMoves r (s.postTransportTo p) :=
  h.whenUp (fun _ => rfl) fun _ => rfl

theorem fillFollow (h : QueueMoves r s) {p : SurfaceId} : QueueMoves r (s.fillFollow p) := h.setSurface le_rfl le_rfl

theorem adjustVisibility (h : QueueMoves r s) {before : State} {p : SurfaceId} :
    QueueMoves r (s.adjustVisibility before p) := h.whenUp (fun _ => rfl) fun _ => rfl

theorem feedFollowAt (h : QueueMoves r s) {c : ControlId} {l : Level} {first : Bool} {p : SurfaceId} :
    QueueMoves r (s.feedFollowAt c l first p) := by
  unfold State.feedFollowAt
  split
  · refine h.whenUp (fun x => ?_) fun x => ?_
    all_goals split <;> rfl
  · exact h

theorem transmitAt (h : QueueMoves r s) {p : SurfaceId} : QueueMoves r (s.transmitAt p) :=
  h.setSurface (by simp) (by simp)

theorem surfaceDown (h : QueueMoves r s) {p : SurfaceId} : QueueMoves r (s.surfaceDown p) := by
  have down := h.setSurface (p := p) (x := (s.surfaceOf p).wentDown) (Nat.zero_le _) (Nat.zero_le _)
  unfold State.surfaceDown
  exact down.others (by simp)

theorem surfaceUp (h : QueueMoves r s) {p : SurfaceId} : QueueMoves r (s.surfaceUp p) := by
  have up := h.setSurface (p := p) (x := { s.surfaceOf p with
    link := .up, silenceTimer := some (s.now + Config.silenceUnits), followPosition := none }) le_rfl le_rfl
  exact up.postTransportTo.fillFollow

theorem surfaceSent (h : QueueMoves r s) {p : SurfaceId} {t : Transmission} :
    QueueMoves r (s.setSurface p ((s.surfaceOf p).sent t)) := by
  have kept : ((s.surfaceOf p).sent t).inbound = (s.surfaceOf p).inbound := by
    unfold SurfacePort.sent
    dsimp only
    repeat' split
    all_goals rfl
  have fewer : ((s.surfaceOf p).sent t).replies.length ≤ (s.surfaceOf p).replies.length := by
    unfold SurfacePort.sent
    dsimp only
    repeat' split
    all_goals simp
  exact h.setSurface (by rw [kept]) fewer

theorem clearFlagSet (h : QueueMoves r s) {set : Byte} : QueueMoves r (s.clearFlagSet set) := by
  refine h.shrinks ⟨fun p => ?_, by simp, .of_eq rfl rfl rfl, by simp, by simp⟩
  have port : tget (s.clearFlagSet set).surface p = { s.surfaceOf p with
    linkDown := (s.surfaceOf p).linkDown && !set.getLsbD (3 + p.val) } := tget_tbuild _ p
  rw [port]
  exact ⟨le_rfl, le_rfl⟩

/-! ## Flags and notices -/

theorem raiseLinkDown (h : QueueMoves r s) {p : SurfaceId} : QueueMoves r (s.raiseLinkDown p) := by
  unfold State.raiseLinkDown
  split
  · exact h
  · have marked := h.setSurface (p := p) (x := { s.surfaceOf p with linkDown := true }) le_rfl le_rfl
    exact marked.others (by simp)

theorem postTransport (h : QueueMoves r s) : QueueMoves r s.postTransport := by
  have posted := ((h.postTransportTo (p := 0)).postTransportTo (p := 1)).postTransportTo (p := 2) |>.postTransportTo (p := 3)
  unfold State.postTransport
  exact posted.others (by simp)

theorem postTransportWhen (h : QueueMoves r s) {b : Bool} : QueueMoves r (s.postTransportWhen b) := by
  unfold State.postTransportWhen
  split
  · exact h.postTransport
  · exact h

theorem transmitEditor (h : QueueMoves r s) : QueueMoves r s.transmitEditor := h.others (by simp)

theorem transmitAll (h : QueueMoves r s) : QueueMoves r s.transmitAll :=
  h.transmitAt.transmitAt.transmitAt.transmitAt.transmitEditor

/-! ## The memory port and the pool -/

theorem postRequest (h : QueueMoves r s) {q : MemRequest} (append : q.isAppend = false) (refill : q.priority ≠ 3) :
    QueueMoves r (s.postRequest q) := h.shrinks (.of_postRequest s append refill)

/-- Requests that are marked as dropped or disowned keep their kinds (R100, R136, R187). -/
theorem mapRequests (h : QueueMoves r s) {f : MemRequest → MemRequest} (append : ∀ q, (f q).isAppend = q.isAppend)
    (priority : ∀ q, (f q).priority = q.priority) : QueueMoves r (s.mapRequests f) :=
  h.shrinks (.of_port (.of_map append priority s.port) (by simp))

theorem endAccess (h : QueueMoves r s) : QueueMoves r s.endAccess := h.shrinks (.of_port (.of_endAccess s.port) (by simp))

theorem completeWrite (h : QueueMoves r s) {w : SlotRecord} : QueueMoves r (s.completeWrite w) :=
  h.shrinks (.of_port (.of_endAccess s.port) (by simp))

theorem requestRefill (h : QueueMoves r s) : QueueMoves r s.requestRefill := h.shrinks (.of_requestRefill s)

theorem chainReturn (h : QueueMoves r s) {kind : ReturnKind} {first last : Slot} {n : Nat} {x : Record} :
    QueueMoves r (s.chainReturn kind first last n x) := h.shrinks (.of_chainReturn s kind first last n x)

theorem returnChain (h : QueueMoves r s) {kind : ReturnKind} {first last : Slot} {n : Nat} :
    QueueMoves r (s.returnChain kind first last n) := by
  have drawn : QueueMoves r { s with freeDraws := s.freeDraws + 1 } := h.others (by simp)
  exact drawn.chainReturn

theorem relocateAll (h : QueueMoves r s) : QueueMoves r s.relocateAll := by
  have dropped := h.mapRequests (f := MemRequest.dropWalk) (fun q => by cases q <;> rfl) fun q => by cases q <;> rfl
  unfold State.relocateAll
  exact dropped.others (by simp)

/-! ## Loads, clears and reads -/

theorem linkLoadRecord (h : QueueMoves r s) {l : Load} {slot : Slot} {x : LoadRecord} :
    QueueMoves r (s.linkLoadRecord l slot x) := by
  have loads {u : State} {v : Option Load} (k : QueueMoves r u) : QueueMoves r (u.setLoad v) :=
    k.shrinks (.of_store (.of_eq rfl rfl rfl) (by simp))
  unfold State.linkLoadRecord
  dsimp only
  split
  · exact loads (h.postRequest rfl (by simp [MemRequest.priority]))
  · exact loads h

theorem abortLoad (h : QueueMoves r s) {reason : Option AbortReason} : QueueMoves r (s.abortLoad reason) := by
  unfold State.abortLoad
  split
  · next l _ =>
    have returned : QueueMoves r (s.returnLoadChain l) := by
      unfold State.returnLoadChain
      split
      · exact h.chainReturn
      · exact h
    have idle : QueueMoves r ((s.returnLoadChain l).setLoad none) :=
      returned.shrinks (.of_store (.of_eq rfl rfl rfl) (by simp))
    exact idle.others (by simp)
  · exact h

theorem abandonClear (h : QueueMoves r s) : QueueMoves r s.abandonClear := h.others (by simp)

theorem dropList (h : QueueMoves r s) : QueueMoves r (s.mapRequests MemRequest.dropList) :=
  h.mapRequests (fun q => by cases q <;> rfl) fun q => by cases q <;> rfl

theorem abortRead (h : QueueMoves r s) : QueueMoves r s.abortRead := by
  unfold State.abortRead
  split
  · exact h.dropList.others (by simp)
  · exact h

theorem leaveStopped (h : QueueMoves r s) : QueueMoves r s.leaveStopped := by
  have drawn : QueueMoves r { s with freeDraws := s.freeDraws + 1 } := h.others (by simp)
  unfold State.leaveStopped State.abortLoadAndClear
  dsimp only
  split_ifs
  · exact drawn.abortRead.abortLoad.abandonClear
  · exact drawn.abortLoad.abandonClear.abortRead
  · exact h.abortLoad.abandonClear.abortRead

theorem returnList (h : QueueMoves r s) {d : Descriptor} : QueueMoves r (s.returnList d) := by
  unfold State.returnList
  split
  · exact h
  · exact h.returnChain

theorem setList (h : QueueMoves r s) {c : ControlId} {d : Descriptor} : QueueMoves r (s.setList c d) :=
  h.shrinks (.of_store (.of_eq rfl rfl rfl) (by simp))

theorem replaceList (h : QueueMoves r s) {l : Load} : QueueMoves r (s.replaceList l) := by
  have returned : QueueMoves r _ := (h.setList (c := l.control) (d :=
    { head := l.first.getD 0, tail := (l.tail.map SlotRecord.slot).getD 0, count := l.received })).returnList
      (d := s.listOf l.control)
  have idle : QueueMoves r (State.setLoad _ none) := returned.shrinks (.of_store (.of_eq rfl rfl rfl) (by simp))
  unfold State.replaceList
  exact idle.others (by simp)

theorem clearStore (h : QueueMoves r s) {c : ControlId} : QueueMoves r (s.clearStore c) := by
  have cleared := (h.returnList (d := s.listOf c)).setList (c := c) (d := Descriptor.empty)
  unfold State.clearStore
  exact cleared.others (by simp)

theorem editorDown (h : QueueMoves r s) : QueueMoves r s.editorDown := by
  have dropped := (h.abortLoad (reason := none)).dropList
  unfold State.editorDown
  exact dropped.shrinks (.of_editor (Nat.zero_le _) (by simp))

/-! ## Segments -/

theorem closeSegment (h : QueueMoves r s) {c : ControlId} {g : Segment} {f : Frame} (opened : s.segmentOf c = some g) :
    QueueMoves r (s.closeSegment c g f) := by
  unfold State.closeSegment State.enqueueClosed
  split
  · exact h.closes opened (.refl _) rfl
  · split
    · split
      · next slot taken took =>
        have taken : NothingComes _ taken := .of_takeSlot took
        exact h.closes opened (taken.trans (.of_postRequest _ rfl (by simp [MemRequest.priority]))) rfl
      · exact h.closes opened (.refl _) rfl
    · exact h.closes opened (.refl _) rfl

theorem endWait (h : QueueMoves r s) : QueueMoves r s.endWait := h.others (by simp)

theorem closeOutside (h : QueueMoves r s) {c : ControlId} : QueueMoves r (s.closeOutside c) := by
  unfold State.closeOutside
  split
  · next g opened =>
    dsimp only
    split
    · exact (h.closeSegment opened).endWait
    · exact h.closeSegment opened
  · exact h

theorem endBarredPunchIn (h : QueueMoves r s) : QueueMoves r s.endBarredPunchIn := h.others (by simp)

theorem closeEach (h : QueueMoves r s) {l : List ControlId} : QueueMoves r (s.closeEach l) := by
  induction l generalizing s with
  | nil => exact h
  | cons c l ih => exact ih h.closeOutside

theorem closeWhere (h : QueueMoves r s) {which : ControlId → Bool} : QueueMoves r (s.closeWhere which) := by
  rw [State.closeWhere_eq]
  exact h.closeEach

theorem barIfInFlight (h : QueueMoves r s) : QueueMoves r s.barIfInFlight := by
  unfold State.barIfInFlight
  split
  · exact h.shrinks (.of_writer (.refl s.writer) (by simp))
  · exact h

theorem closeAll (h : QueueMoves r s) : QueueMoves r s.closeAll := h.barIfInFlight.closeWhere.endBarredPunchIn

theorem truncate (h : QueueMoves r s) {e : Evaluation} {g : Segment} (opened : s.segmentOf e.control = some g) :
    QueueMoves r (s.truncate e g) := by
  have closed : QueueMoves r ((s.setSegment e.control none).enqueueClosed g none) := h.closes opened (.refl _) rfl
  unfold State.truncate
  dsimp only
  split
  · exact (closed.noticeHolder (c := e.control) (n := .truncated)).others (by simp)
  · exact closed

theorem truncateWaiting (h : QueueMoves r s) : QueueMoves r s.truncateWaiting := by
  unfold State.truncateWaiting
  split
  · split
    · next opened => exact (h.truncate opened).endWait
    · exact h
  · exact h

/-- Closing work that is dropped or done leaves the segment in its place in the splice queue (R98). -/
theorem setSpliceQueue (h : QueueMoves r s) {q : List ClosedSegment}
    (queued : (queuedControls q).Sublist (queuedControls s.store.spliceQueue)) : QueueMoves r (s.setSpliceQueue q) :=
  h.shrinks (.of_store (.of_queued rfl rfl queued) (by simp))

theorem dropFinalRecords (h : QueueMoves r s) : QueueMoves r s.dropFinalRecords :=
  h.setSpliceQueue (by simp [queuedControls, Function.comp_def])

theorem closingDone (h : QueueMoves r s) {c : ControlId} : QueueMoves r (s.closingDone c) := by
  refine h.setSpliceQueue ?_
  rw [queuedControls, List.map_map, queuedControls]
  refine (congrArg (List.map · s.store.spliceQueue) (funext fun e => ?_)) ▸ List.Sublist.refl _
  dsimp only [Function.comp]
  split <;> rfl

theorem settlePool (h : QueueMoves r s) {before : State} : QueueMoves r (s.settlePool before) := by
  unfold State.settlePool State.abortWaitingLoad
  split_ifs
  · exact h.dropFinalRecords.truncateWaiting.abortLoad
  · exact h.dropFinalRecords.truncateWaiting
  · exact h

theorem latePunch (h : QueueMoves r s) {c : ControlId} : QueueMoves r (s.latePunch c) := by
  unfold State.latePunch
  dsimp only
  split
  · exact h
  · have told := h.noticeHolder (c := c) (n := if !s.storeReady || s.spliceQueued c then .latePunch else .poolLow)
    exact told.others (by simp)

/-- A punch-in opens its segment at a control with no splice queued (R88). -/
theorem punchIn (h : QueueMoves r s) {t : State} {c : ControlId} {f : Frame} {l : Level}
    (done : s.punchIn c f l = .done t) : QueueMoves r t := by
  unfold State.punchIn at done
  split at done
  · next allowed =>
    have unqueued := ((State.punchInAllowed_iff s c).1 allowed).1
    split at done
    · split at done
      · next u opens =>
        cases done
        unfold State.openSegment at opens
        split at opens
        · next first s1 took =>
          split at opens
          · next reserve s2 took' =>
            cases opens
            obtain ⟨_, -, -, frame⟩ := State.takeSlot_spec took
            obtain ⟨_, -, -, frame'⟩ := State.takeSlot_spec took'
            have queue : s2.spliceQueued c = s.spliceQueued c := by
              rw [frame', frame]
              rfl
            exact ((h.shrinks (.of_takeSlot took)).shrinks (.of_takeSlot took')).opens
              (g := Segment.opened c f l first reserve) (queue.trans unqueued)
          · cases opens
        · cases opens
      · cases done
    · cases done
  · cases done
    exact h.latePunch

/-- An append posts its write where the append queue has room (R91). -/
theorem append (h : QueueMoves r s) {t : State} {e : Evaluation} {g : Segment} (opened : s.segmentOf e.control = some g)
    (done : s.append e g = .done t) : QueueMoves r t := by
  unfold State.append at done
  split_ifs at done with empty none room
  · cases done
    exact h.truncate opened
  · split at done
    · next slot taken took =>
      cases done
      have stays := State.takeSlot_frame took
      have queue : taken.appendRoom = true := by
        rw [State.appendRoom_iff, appendQueue_length] at room ⊢
        simpa [stays] using room
      have stands : taken.segmentOf e.control = some g :=
        (State.segmentOf_congr (by simp [stays]) _).trans opened
      refine ((h.shrinks (.of_takeSlot took)).appends queue).shrinks (.of_setSegment fun k goesOn => ?_)
      cases goesOn
      exact ⟨g, stands, rfl⟩
    · cases done

/-! ## The pass -/

theorem frameEvent (h : QueueMoves r s) {t : Frame} : QueueMoves r (s.frameEvent t) := by
  unfold State.frameEvent
  split
  · split <;> exact h.others (by simp)
  · exact h.shrinks (.of_writer (.refl s.writer) (by simp))

theorem endEvaluation (h : QueueMoves r s) {c : ControlId} : QueueMoves r (s.endEvaluation c) := by
  refine h.shrinks (.of_writer ?_ (by simp))
  unfold State.endEvaluation State.completePass
  dsimp only
  split
  · split <;> exact .refl s.writer
  · exact .refl s.writer

theorem finishEvaluation (h : QueueMoves r s) {e : Evaluation} : QueueMoves r (s.finishEvaluation e) := by
  have recorded : QueueMoves r ((s.recordResults e).writeEntry e) := h.others (by simp)
  exact recorded.feedFollowAt.feedFollowAt.feedFollowAt.feedFollowAt.endEvaluation

theorem closeAtGlideEnd (h : QueueMoves r s) {e : Evaluation} : QueueMoves r (s.closeAtGlideEnd e) := by
  unfold State.closeAtGlideEnd
  split
  · next g opened =>
    split
    · exact h.closeSegment opened
    · exact h
  · exact h

theorem settleWriter (h : QueueMoves r s) {e : Evaluation} {todo : EvalTodo} {answer : State.WriterAnswer}
    (done : ∀ t, answer = .done t → QueueMoves r t) : QueueMoves r (s.settleWriter e todo answer) := by
  cases answer with
  | done t =>
    unfold State.settleWriter
    dsimp only
    split
    · exact (done t rfl).closeAtGlideEnd.finishEvaluation
    · exact (done t rfl).finishEvaluation
  | waits cause => exact h.others (by simp)

theorem attemptPunchIn (h : QueueMoves r s) {e : Evaluation} : QueueMoves r (s.attemptPunchIn e) :=
  h.settleWriter fun _ done => h.punchIn done

theorem continueSegment (h : QueueMoves r s) {e : Evaluation} {g : Segment} (opened : s.segmentOf e.control = some g) :
    QueueMoves r (s.continueSegment e g) := by
  refine h.settleWriter fun t done => ?_
  split at done
  · cases done
    exact h
  · exact h.append opened done

theorem withoutSegment (h : QueueMoves r s) {e : Evaluation} : QueueMoves r (s.withoutSegment e) := by
  unfold State.withoutSegment
  split
  · exact h.attemptPunchIn
  · exact h.finishEvaluation

theorem writerStep (h : QueueMoves r s) {e : Evaluation} : QueueMoves r (s.writerStep e) := by
  unfold State.writerStep
  split
  · next g opened =>
    split
    · exact (h.closeSegment opened).withoutSegment
    · exact h.continueSegment opened
  · exact h.withoutSegment

theorem advanceCursor (h : QueueMoves r s) {c : ControlId} {t : Frame} : QueueMoves r (s.advanceCursor c t) := by
  obtain ⟨x, ready, ahead, due, last | more⟩ | stays := s.advanceCursor_cases c t
  · rw [State.advanceCursor_last ready ahead due last]
    exact h.others (by simp)
  · rw [State.advanceCursor_fetches ready ahead due more]
    have moved (y : Cursor) : QueueMoves r (s.setCursor c y) := h.others (by simp)
    exact (moved _).postRequest rfl (by simp [MemRequest.priority])
  · rwa [State.advanceCursor_stays stays]

theorem staleTest (h : QueueMoves r s) {c : ControlId} {t : Frame} : QueueMoves r (s.staleTest c t) := by
  unfold State.staleTest
  split
  · exact h
  · split
    · next x _ =>
      split_ifs
      · exact h.others (by simp)
      · have removed : QueueMoves r (s.removeTouch c) := h.others (by simp)
        exact removed.postNotice
      · exact h
    · exact h

theorem evaluate (h : QueueMoves r s) {c : ControlId} {t : Frame} : QueueMoves r (s.evaluate c t) := by
  have placed : QueueMoves r (s.setRun { s.pass.run with position := some c }) := h.others (by simp)
  have stepped : QueueMoves r (s.evaluationStep c t) := placed.advanceCursor.staleTest
  have chosen : QueueMoves r (s.chosen c t) := stepped.shrinks (.of_others (by simp [State.chosen]))
  exact chosen.writerStep

theorem resume (h : QueueMoves r s) {e : Evaluation} : QueueMoves r (s.resume e) := by
  unfold State.resume
  split
  · exact h.attemptPunchIn
  · split
    · next opened => exact h.continueSegment opened
    · exact h.finishEvaluation
  · exact h.finishEvaluation

/-- The oldest closed segment that waits keeps its place when it is served (R98). -/
theorem queuedControls_serveClosing {slot : Slot} {q q' : List ClosedSegment} {g : Segment}
    (serves : State.serveClosing slot q = some (g, q')) : queuedControls q' = queuedControls q := by
  induction q generalizing q' with
  | nil => cases serves
  | cons e q ih =>
    unfold State.serveClosing at serves
    split at serves
    · cases serves
      rfl
    · obtain ⟨⟨g', rest⟩, served, same⟩ := Option.map_eq_some_iff.1 serves
      cases same
      exact congrArg (e.segment.control :: ·) (ih served)

theorem serveOldestClosing (h : QueueMoves r s) : QueueMoves r s.serveOldestClosing := by
  unfold State.serveOldestClosing
  split
  · next slot taken took =>
    split
    · next g q serves =>
      have posted : QueueMoves r (taken.postClosingWrite g slot) :=
        (h.shrinks (.of_takeSlot took)).postRequest rfl (by simp [MemRequest.priority])
      exact posted.setSpliceQueue (queuedControls_serveClosing serves ▸ .refl _)
    · exact h
  · exact h

/-! ## The splice -/

theorem setSplice (h : QueueMoves r s) {x : SpliceState} : QueueMoves r (s.setSplice x) :=
  h.shrinks (.of_store (.of_eq rfl rfl rfl) (by simp))

theorem beginWrites (h : QueueMoves r s) {g : Segment} {a : SpliceAnswer} : QueueMoves r (s.beginWrites g a) := by
  have posts (l : List SlotRecord) {u : State} (k : QueueMoves r u) :
      QueueMoves r (l.foldl (fun x w => x.postRequest (.spliceWrite w)) u) := by
    induction l generalizing u with
    | nil => exact k
    | cons w l ih => exact ih (k.postRequest rfl (by simp [MemRequest.priority]))
  exact posts _ h.setSplice

theorem startSplice (h : QueueMoves r s) {g : Segment} : QueueMoves r (s.startSplice g) := by
  have parked : QueueMoves r (s.setCursor g.control { s.cursorOf g.control with state := .parked }) := h.others (by simp)
  unfold State.startSplice
  dsimp only
  split
  · exact parked.beginWrites
  · exact parked.setSplice.postRequest rfl (by simp [MemRequest.priority])

theorem walkSplice (h : QueueMoves r s) {g : Segment} {a : SpliceAnswer} {x : SlotRecord} :
    QueueMoves r (s.walkSplice g a x) := by
  unfold State.walkSplice
  dsimp only
  split
  · exact h.beginWrites
  · exact h.setSplice.postRequest rfl (by simp [MemRequest.priority])

theorem completeSpliceRead (h : QueueMoves r s) {slot : Slot} : QueueMoves r (s.completeSpliceRead slot) := by
  unfold State.completeSpliceRead
  split
  · exact h.endAccess.walkSplice
  · exact h.endAccess

theorem returnSpliced (h : QueueMoves r s) {g : Segment} {a : SpliceAnswer} : QueueMoves r (s.returnSpliced g a) := by
  have run : QueueMoves r (match a.run with
      | some x => s.returnChain .splice x.first x.last x.length
      | none => s) := by
    split
    · exact h.returnChain
    · exact h
  unfold State.returnSpliced
  dsimp only
  split
  · exact run
  · exact run.returnChain

/-- The head of the splice queue leaves it when its splice is complete (R118). -/
theorem spliceWritten (h : QueueMoves r s) : QueueMoves r s.spliceWritten := by
  unfold State.spliceWritten
  split
  · next a e rest _ queue =>
    split
    · exact h
    · have returned := (h.setList (c := e.segment.control)
        (d := a.descriptor e.segment (s.listOf e.segment.control))).returnSpliced (g := e.segment) (a := a)
      have stays : (((s.setList e.segment.control (a.descriptor e.segment (s.listOf e.segment.control))).returnSpliced
          e.segment a).store.spliceQueue) = e :: rest := by
        rw [← queue]
        unfold State.returnSpliced State.returnChain
        dsimp only
        split <;> split <;> simp [State.chainReturn_spec]
      have left := returned.setSpliceQueue (q := rest) (by rw [stays]; exact List.sublist_cons_self ..)
      unfold State.completeSplice
      exact (left.setSplice (x := if rest.isEmpty then .idle else .waiting)).others (by simp)
  · exact h

/-! ## The steps of the memory port and of the store -/

theorem completeRefill (h : QueueMoves r s) {slot : Slot} : QueueMoves r (s.completeRefill slot) := by
  unfold State.completeRefill
  refine QueueMoves.requestRefill ?_
  split
  · next stands => exact h.endAccess.refills stands
  · exact h.endAccess.shrinks (.of_store (⟨le_rfl, .inl rfl, .refl _⟩) (by simp))

theorem completeFetch (h : QueueMoves r s) {c : ControlId} {slot : Slot} : QueueMoves r (s.completeFetch c slot) := by
  unfold State.completeFetch
  split
  · exact h.endAccess.others (by simp)
  · exact h.endAccess

theorem completeWalkRead (h : QueueMoves r s) {slot : Slot} {live : Bool} :
    QueueMoves r (s.completeWalkRead slot live) := by
  have walks {w : Walk} {x : SlotRecord} {u : State} (k : QueueMoves r u) : QueueMoves r (u.walkOn w x) := by
    have goesOn (v : Option Walk) : QueueMoves r (u.setWalk v) := k.others (by simp)
    unfold State.walkOn
    split
    · split_ifs
      · exact k.others (by simp)
      · exact k.others (by simp)
      · exact (goesOn _).postRequest rfl (by simp [MemRequest.priority])
    · exact k
  unfold State.completeWalkRead
  split
  · exact walks h.endAccess
  · exact h.endAccess

theorem completeFormat (h : QueueMoves r s) {slot : Slot} : QueueMoves r (s.completeFormat slot) := by
  have written (x : SlotRecord) (y : ListStore) (kept : y.freeQueue = s.store.freeQueue ∧ y.refill = s.store.refill ∧
      y.spliceQueue = s.store.spliceQueue) : QueueMoves r { s.completeWrite x with store := y } :=
    h.shrinks ⟨.refl _, le_rfl, .of_eq kept.1 kept.2.1 kept.2.2, .of_endAccess s.port, .refl _⟩
  unfold State.completeFormat State.formatDone
  dsimp only
  split
  · exact (written _ { s.store with freeHead := 0, memoryCount := Config.slotCount, storeState := .ready }
      ⟨rfl, rfl, rfl⟩).requestRefill
  · exact written _ _ ⟨rfl, rfl, rfl⟩

theorem completeListRead (h : QueueMoves r s) {slot : Slot} {live : Bool} :
    QueueMoves r (s.completeListRead slot live) := by
  have streams {x : ListRead} {y : SlotRecord} {u : State} (k : QueueMoves r u) : QueueMoves r (u.streamRecord x y) := by
    unfold State.streamRecord
    dsimp only
    split_ifs <;> exact k.others (by simp)
  unfold State.completeListRead
  split
  · exact streams h.endAccess
  · exact h.endAccess

theorem startWalk (h : QueueMoves r s) {c : ControlId} : QueueMoves r (s.startWalk c) := by
  unfold State.startWalk
  split
  · exact h.others (by simp)
  · have walking : QueueMoves r ((s.setCursor c { s.cursorOf c with target := some s.tracker.currentFrame }).setWalk
        (some { control := c, candidate := none })) := h.others (by simp)
    exact walking.postRequest rfl (by simp [MemRequest.priority])

theorem serveLoadRecord (h : QueueMoves r s) : QueueMoves r s.serveLoadRecord := by
  unfold State.serveLoadRecord
  split
  · next x l slot taken _ _ took =>
    split
    · have linked := (h.shrinks (.of_takeSlot took)).linkLoadRecord (l := l) (slot := slot) (x := x)
      exact linked.others (by simp)
    · exact h
  · exact h

theorem requestListRead (h : QueueMoves r s) {x : ListRead} : QueueMoves r (s.requestListRead x) := by
  have reserved : QueueMoves r ((s.reservePlace .record).setRead (some { x with atPort := true })) := h.others (by simp)
  unfold State.requestListRead
  split
  · exact reserved.postRequest rfl (by simp [MemRequest.priority])
  · split
    · exact h.others (by simp)
    · exact reserved.postRequest rfl (by simp [MemRequest.priority])

/-! ## Marks and expiries -/

theorem setTracker (h : QueueMoves r s) {x : Tracker} : QueueMoves r (s.setTracker x) := h.others (by simp)

theorem takeStoppedMark (h : QueueMoves r s) {f : Frame} : QueueMoves r (s.takeStoppedMark f) := by
  have closed (x : Tracker) : QueueMoves r
      (if s.tracker.transport.rolling = true then (s.setTracker x).closeAll else s.setTracker x) :=
    .ite (fun _ => h.setTracker.closeAll) fun _ => h.setTracker
  exact QueueMoves.postTransportWhen (.ite (fun _ => closed _) fun _ => (closed _).relocateAll)

theorem takeMovingMarkParked (h : QueueMoves r s) {f : Frame} : QueueMoves r (s.takeMovingMarkParked f) := by
  have acquires {u : State} (k : QueueMoves r u) : QueueMoves r u.acquire := k.barIfInFlight.endBarredPunchIn
  have placed (x : Tracker) (b : Bool) :
      QueueMoves r (if b = true then s.setTracker x else (s.setTracker x).relocateAll) :=
    .ite (fun _ => h.setTracker) fun _ => h.setTracker.relocateAll
  have locked (x : Tracker) (b : Bool) (plays : Prop) [Decidable plays] : QueueMoves r
      (if plays then (if b = true then s.setTracker x else (s.setTracker x).relocateAll).acquire
        else if b = true then s.setTracker x else (s.setTracker x).relocateAll) :=
    .ite (fun _ => acquires (placed x b)) fun _ => placed x b
  exact QueueMoves.postTransportWhen (QueueMoves.frameEvent
    (.ite (fun _ => (locked _ _ _).leaveStopped) fun _ => locked _ _ _))

theorem takeMovingMarkRolling (h : QueueMoves r s) {f : Frame} : QueueMoves r (s.takeMovingMarkRolling f) := by
  unfold State.takeMovingMarkRolling
  dsimp only
  split
  · exact h.setTracker.frameEvent.postTransportWhen
  · exact h.setTracker.closeAll.relocateAll.frameEvent.postTransport

theorem takeMark (h : QueueMoves r s) {f : Frame} {m : Motion} : QueueMoves r (s.takeMark f m) := by
  cases m with
  | stopped => exact h.takeStoppedMark
  | moving =>
    unfold State.takeMark
    dsimp only
    split
    · exact h.takeMovingMarkRolling
    · exact h.takeMovingMarkParked

theorem stopByTimer (h : QueueMoves r s) {lost : Bool} : QueueMoves r (s.stopByTimer lost) := by
  unfold State.stopByTimer
  dsimp only
  split
  · have raised : QueueMoves r (s.setTracker { s.tracker with
        transport := .stopped, runCount := 0, freewheelCount := 0 }).raiseLockLost := h.others (by simp)
    exact raised.closeAll.frameEvent.postTransport
  · exact h.setTracker.closeAll.frameEvent.postTransport

theorem freewheelTo (h : QueueMoves r s) {n : Nat} : QueueMoves r (s.freewheelTo n) :=
  h.setTracker.frameEvent.postTransportWhen

theorem takeExpiry (h : QueueMoves r s) : QueueMoves r s.takeExpiry := by
  unfold State.takeExpiry
  dsimp only
  split
  · exact h.frameEvent
  · exact h.setTracker.frameEvent.postTransport
  · split_ifs
    · exact h.stopByTimer
    · exact h.stopByTimer
    · exact h.freewheelTo
  · split_ifs
    · exact h.stopByTimer
    · exact h.freewheelTo

theorem atExpiry (h : QueueMoves r s) : QueueMoves r s.atExpiry := h.others (by simp)

/-! ## Reception at the ports (R156, R164, R176) -/

theorem examineSurface (h : QueueMoves r s) {p : SurfaceId} {f : LinkFrame} : QueueMoves r (s.examineSurface p f) := by
  have refuses {reason : RefusalReason} : QueueMoves r (s.refuseReception p f reason) := by
    unfold State.refuseReception
    split
    · next room => exact h.replies room
    · exact h
  unfold State.examineSurface
  refine .ite (fun _ => h) fun _ => .ite (fun _ => refuses) fun _ => ?_
  split
  · exact refuses
  · exact .ite (fun room => h.arrives room) fun _ => refuses

theorem surfaceSymbol (h : QueueMoves r s) {p : SurfaceId} {y : LineSymbol} : QueueMoves r (s.surfaceSymbol p y) := by
  have receives (x : Option (List Byte)) : QueueMoves r (s.setReceiving p x) := h.setSurface le_rfl le_rfl
  have present {u : State} (k : QueueMoves r u) : QueueMoves r (u.surfacePresent p) := by
    unfold State.surfacePresent
    split
    · exact k.setSurface le_rfl le_rfl
    · exact k.surfaceUp
  have frame {u : State} {bs : List Byte} (k : QueueMoves r u) : QueueMoves r (u.surfaceFrame p bs) := by
    unfold State.surfaceFrame
    split
    · exact (present k).examineSurface
    · exact k
  unfold State.surfaceSymbol
  split
  · exact receives _
  · exact receives _
  · exact h
  · exact frame (receives _)
  · exact h

theorem surfaceSymbols (h : QueueMoves r s) {p : SurfaceId} {l : List LineSymbol} :
    QueueMoves r (l.foldl (State.surfaceSymbol p) s) := by
  induction l generalizing s with
  | nil => exact h
  | cons y l ih => exact ih h.surfaceSymbol

theorem examineEditor (h : QueueMoves r s) {f : LinkFrame} : QueueMoves r (s.examineEditor f) := by
  have refuses {reason : RefusalReason} : QueueMoves r (s.refuseEditorReception f.kind reason) := by
    unfold State.refuseEditorReception
    split
    · exact h.others (by simp)
    · exact h
  unfold State.examineEditor
  refine .ite (fun _ => h) fun _ => .ite (fun _ => refuses) fun _ => ?_
  split
  · exact refuses
  · exact .ite (fun room => h.admits room) fun _ => refuses

theorem editorSymbol (h : QueueMoves r s) {y : LineSymbol} : QueueMoves r (s.editorSymbol y) := by
  have receives (x : Option (List Byte)) : QueueMoves r (s.setEditorReceiving x) :=
    h.shrinks (.of_editor le_rfl (by simp))
  have present {u : State} (k : QueueMoves r u) : QueueMoves r u.editorPresent := by
    unfold State.editorPresent
    split
    · exact k.shrinks (.of_editor le_rfl (by simp))
    · have up : QueueMoves r (u.setEditor { u.editor with
          link := .up
          silenceTimer := some (u.now + Config.silenceUnits)
          flagNotice := if u.anyFlag then some false else u.editor.flagNotice }) := k.shrinks (.of_editor le_rfl (by simp))
      unfold State.editorUp
      exact up.others (by simp)
  have frame {u : State} {bs : List Byte} (k : QueueMoves r u) : QueueMoves r (u.editorFrame bs) := by
    unfold State.editorFrame
    split
    · exact (present k).examineEditor
    · exact k
  unfold State.editorSymbol
  split
  · exact receives _
  · exact receives _
  · exact h
  · exact frame (receives _)
  · exact h

theorem editorSymbols (h : QueueMoves r s) {l : List LineSymbol} : QueueMoves r (l.foldl State.editorSymbol s) := by
  induction l generalizing s with
  | nil => exact h
  | cons y l ih => exact ih h.editorSymbol

theorem editorSent (h : QueueMoves r s) {t : Transmission} : QueueMoves r (s.setEditor (s.editor.sent t)) := by
  refine h.shrinks (.of_editor ?_ (by simp))
  have kept : (s.editor.sent t).inbound = s.editor.inbound := by
    unfold EditorPort.sent
    dsimp only
    repeat' split
    all_goals rfl
  exact (congrArg List.length kept).le

/-! ## The takes of seat messages (R44, R161, R164) -/

theorem popSurface (h : QueueMoves r s) {p : SurfaceId} : QueueMoves r (s.popSurface p) :=
  h.setSurface (by simp [SurfacePort.taken]) le_rfl

/-- The take of a message that names a fader posts one reply at most, if the message's effect does (R44). -/
theorem takeFader (h : QueueMoves r s) {p : SurfaceId} {m : SeatMessage} {f : Nat} (room : s.HasReplyRoom p)
    {effect : State → SeatId → ControlId → State}
    (keeps : ∀ (u : State) (i : SeatId) (c : ControlId), QueueMoves r u → u.HasReplyRoom p → QueueMoves r (effect u i c)) :
    QueueMoves r (s.takeFader p m f effect) := by
  unfold State.takeFader
  dsimp only
  split
  · exact h.popSurface.replies room.popSurface
  · split
    · exact h.popSurface.replies room.popSurface
    · exact h.popSurface.replies room.popSurface
    · exact keeps _ _ _ h.popSurface room.popSurface

theorem touchControl (h : QueueMoves r s) {p : SurfaceId} {m : SeatMessage} {i : SeatId} {c : ControlId}
    (room : s.HasReplyRoom p) : QueueMoves r (State.touchControl p m s i c) := by
  have answers {u : State} (k : QueueMoves r u) (surface : u.surface = s.surface) {q : OutMessage} :
      QueueMoves r (u.postReply p m.seat q) := k.replies (room.congr surface)
  unfold State.touchControl
  split
  · exact answers (u := s.grantTouch i c) (h.others (by simp)) (by simp)
  · next x _ =>
    split_ifs
    · exact answers (u := s.setTouch c (some { x with lastMove := s.tracker.currentFrame })) (h.others (by simp)) rfl
    · have moved : QueueMoves r (((s.setTouch c (some { x with
          holder := i, lastMove := s.tracker.currentFrame })).countHeld x.holder (· - 1)).countHeld i (· + 1)) :=
        h.others (by simp)
      exact moved.postNotice.replies (State.HasReplyRoom.postNotice (room.congr (by simp)))
    · exact answers h rfl

theorem moveControl (h : QueueMoves r s) {p : SurfaceId} {m : SeatMessage} {l : Int} {i : SeatId} {c : ControlId}
    (room : s.HasReplyRoom p) : QueueMoves r (State.moveControl p m l s i c) := by
  unfold State.moveControl
  split
  · split
    · exact h.others (by simp)
    · exact h.replies room
  · exact h.replies room

theorem releaseControl (h : QueueMoves r s) {p : SurfaceId} {m : SeatMessage} {i : SeatId} {c : ControlId}
    (room : s.HasReplyRoom p) : QueueMoves r (State.releaseControl p m s i c) := by
  unfold State.releaseControl
  split
  · have removed : QueueMoves r (s.removeTouch c) := h.others (by simp)
    exact removed.replies (room.congr (by simp))
  · exact h.replies room

theorem modeControl (h : QueueMoves r s) {p : SurfaceId} {m : SeatMessage} {code : Byte} {i : SeatId} {c : ControlId}
    (room : s.HasReplyRoom p) : QueueMoves r (State.modeControl p m code s i c) := by
  unfold State.modeControl
  split
  · exact h.replies room
  · next k _ =>
    split
    · exact h.replies room
    · have configured : QueueMoves r (s.setConfig c { s.configOf c with mode := k }) := h.others (by simp)
      exact configured.replies room

theorem takeBank (h : QueueMoves r s) {p : SurfaceId} {m : SeatMessage} {base : Nat} (room : s.HasReplyRoom p) :
    QueueMoves r (s.takeBank p m base) := by
  unfold State.takeBank
  dsimp only
  split
  · exact h.popSurface.replies room.popSurface
  · next i _ =>
    split_ifs
    · exact h.popSurface.replies room.popSurface
    · exact h.popSurface.replies room.popSurface
    · have mapped : QueueMoves r ((s.popSurface p).setSeat i { (s.popSurface p).seatOf i with bankBase := base }) :=
        (h.popSurface (p := p)).others (by simp)
      exact mapped.adjustVisibility

/-! ## The takes of editor commands (R178) -/

theorem popEditor (h : QueueMoves r s) : QueueMoves r s.popEditor :=
  h.shrinks (.of_editor (by simp [State.popEditor, EditorPort.taken]) (by simp))

theorem postEditor (h : QueueMoves r s) {m : OutMessage} : QueueMoves r (s.postEditor m) := h.others (by simp)

theorem takeSetControl (h : QueueMoves r s) {f : SetControlFields} : QueueMoves r (s.takeSetControl f) := by
  have configures {c : ControlId} {x : ControlConfig} : QueueMoves r (s.configure c x) := by
    have configured : QueueMoves r (s.setConfig c x) := h.others (by simp)
    exact .ite (fun _ => configured.closeOutside.endBarredPunchIn) fun _ => configured
  unfold State.takeSetControl
  split
  · exact h.postEditor
  · exact configures.settlePool.postEditor
  · exact h

theorem takeSetStem (h : QueueMoves r s) {stem safe : Byte} : QueueMoves r (s.takeSetStem stem safe) := by
  have changes {i : StemId} {b : Bool} : QueueMoves r (s.changeSafe i b) := by
    have changed : QueueMoves r (s.setSafe i b) := h.others (by simp)
    exact .ite (fun _ => changed.closeWhere.endBarredPunchIn) fun _ => changed
  unfold State.takeSetStem
  split
  · exact .ite (fun _ => changes.settlePool.postEditor) fun _ => h.postEditor
  · exact h.postEditor

theorem takeSetSeat (h : QueueMoves r s) {seat link rank : Byte} : QueueMoves r (s.takeSetSeat seat link rank) := by
  have remaps {i : SeatId} {l : Option SurfaceId} {n : Nat} : QueueMoves r (s.remapSeat i l n) := by
    have isolated (x : Seat) : QueueMoves r ((s.isolate (fun j => j == i)).setSeat i x) := h.others (by simp)
    exact .ite (fun _ => h.others (by simp)) fun _ =>
      (isolated _).adjustVisibility.adjustVisibility.adjustVisibility.adjustVisibility
  unfold State.takeSetSeat
  split
  · exact .ite (fun _ => h.postEditor) fun _ => .ite (fun _ => h.postEditor) fun _ => remaps.postEditor
  · exact h.postEditor

theorem takeSetHub (h : QueueMoves r s) {rate acquire limit : Byte} {stale : Nat} :
    QueueMoves r (s.takeSetHub rate acquire limit stale) := by
  unfold State.takeSetHub
  split
  · exact h.postEditor
  · exact h.others (by simp)

theorem takeListBegin (h : QueueMoves r s) {control : Byte} {n : Nat} : QueueMoves r (s.takeListBegin control n) := by
  unfold State.takeListBegin
  split
  · exact h.postEditor
  · refine .ite (fun _ => h.postEditor) fun _ => ?_
    split
    · exact h.postEditor
    · exact h.shrinks (.of_store (.of_eq rfl rfl rfl) (by simp))

theorem takeListRecord (h : QueueMoves r s) {x : LoadRecord} : QueueMoves r (s.takeListRecord x) := by
  have gives {l : Load} : QueueMoves r (s.giveLoadRecord l x) := by
    refine .ite (fun _ => ?_) fun _ => h.others (by simp)
    split
    · next took => exact (h.shrinks (.of_takeSlot took)).linkLoadRecord
    · exact h
  unfold State.takeListRecord
  split
  · exact h.postEditor
  · exact .ite (fun _ => h.postEditor) fun _ => .ite (fun _ => h.postEditor) fun _ => .ite (fun _ => h.postEditor) fun _ =>
      .ite (fun _ => h.abortLoad) fun _ => .ite (fun _ => h.abortLoad) fun _ => gives.settlePool

theorem takeListEnd (h : QueueMoves r s) : QueueMoves r s.takeListEnd := by
  have posts {l : Load} : QueueMoves r (s.postLoadTail l) := by
    unfold State.postLoadTail
    split
    · exact h.postRequest rfl (by simp [MemRequest.priority])
    · exact h
  unfold State.takeListEnd
  split
  · exact h.postEditor
  · exact .ite (fun _ => h.postEditor) fun _ => .ite (fun _ => h.abortLoad) fun _ =>
      posts.shrinks (.of_store (.of_eq rfl rfl rfl) (by simp))

theorem takeReadList (h : QueueMoves r s) {control : Byte} {first last : Frame} :
    QueueMoves r (s.takeReadList control first last) := by
  unfold State.takeReadList
  split
  · exact h.postEditor
  · split
    · exact h.postEditor
    · exact .ite (fun _ => h.others (by simp)) fun _ => h.others (by simp)

theorem takeClearList (h : QueueMoves r s) {control : Byte} : QueueMoves r (s.takeClearList control) := by
  unfold State.takeClearList
  split
  · exact h.postEditor
  · split
    · exact h.postEditor
    · exact .ite (fun _ => h.others (by simp)) fun _ => .ite (fun _ => h.others (by simp)) fun _ => h.clearStore.postEditor

theorem discardSegment (h : QueueMoves r s) {c : ControlId} : QueueMoves r (s.discardSegment c) := by
  unfold State.discardSegment
  split
  · have disowned := h.mapRequests (f := MemRequest.disown c) (fun q => by cases q <;> rfl) fun q => by cases q <;> rfl
    have left := disowned.shrinks (.of_setSegment (c := c) (x := none) fun _ none => nomatch none)
    exact (left.postRequest rfl (by simp [MemRequest.priority])).returnChain
  · exact h

theorem discardAll (h : QueueMoves r s) : QueueMoves r s.discardAll := by
  have discards (l : List ControlId) {u : State} (k : QueueMoves r u) : QueueMoves r (l.foldl State.discardSegment u) := by
    induction l generalizing u with
    | nil => exact k
    | cons c l ih => exact ih k.discardSegment
  exact discards _ h

theorem takeMixReset (h : QueueMoves r s) : QueueMoves r s.takeMixReset := by
  have cleared : QueueMoves r s.removeAllTouches.abandonPass.resetRecords :=
    h.shrinks (.of_writer (.refl s.writer) (by simp))
  exact cleared.discardAll.abortLoad.relocateAll.clearFlagSet.postEditor

theorem takeLinkReset (h : QueueMoves r s) {port : Byte} : QueueMoves r (s.takeLinkReset port) := by
  unfold State.takeLinkReset
  split
  · exact h.surfaceDown.postEditor
  · exact .ite (fun _ => h.editorDown) fun _ => h.postEditor

/-! ## Every step -/

/-- After power-on reset every queue is empty and no segment is open (R1). -/
theorem powerOnReset (h : QueueMoves r s) : QueueMoves r s.powerOnReset := by
  have surface : PortsShrink s.surface s.powerOnReset.surface := fun p => by
    have port : tget s.powerOnReset.surface p = { SurfacePort.reset with farHold := (s.surfaceOf p).farHold } :=
      tget_tbuild _ p
    rw [port]
    exact ⟨Nat.zero_le _, Nat.zero_le _⟩
  exact h.shrinks
    { surface := surface
      inbound := Nat.zero_le _
      store := ⟨Nat.zero_le _, .inl rfl, List.nil_sublist _⟩
      port := ⟨Nat.zero_le _, fun _ _ listed => nomatch listed⟩
      writer := .of_none State.segmentOf_reset }

end QueueMoves

/-- The outcome goes on to a state that the queues' moves lead to. -/
def MovesOn (s : State) (o : Host.Outcome State Fault Refusal) : Prop := ∃ t, o = .next t ∧ QueueMoves s t

theorem movesOn_next {s t : State} (h : QueueMoves s t) : MovesOn s (.next t) := ⟨t, rfl, h⟩

theorem chooseRequest_mem {l : List MemRequest} {q : MemRequest} (h : chooseRequest l = some q) : q ∈ l := by
  obtain ⟨p, -, found⟩ := List.exists_of_findSome?_eq_some h
  exact List.mem_of_find?_eq_some found

/-- Each command moves the queues as the part's tests allow. -/
theorem exec_movesOn {r s : State} (h : QueueMoves r s) (c : Instr) : MovesOn r (exec c s) := by
  have stays : MovesOn r (.next s) := movesOn_next h
  have sends {u : State} (k : QueueMoves r u) : MovesOn r (.next u.transmitAll) := movesOn_next k.transmitAll
  have answers {u : State} (k : QueueMoves r u) : MovesOn r (.next u.transmitEditor) := movesOn_next k.transmitEditor
  have replies {p : SurfaceId} {u : State} (k : QueueMoves r u) : MovesOn r (.next (u.transmitAt p)) :=
    movesOn_next k.transmitAt
  cases c with
  | powerOnReset => exact movesOn_next h.powerOnReset
  | frameMark => exact movesOn_next (.ite (fun _ => h.takeMark.settlePool.transmitAll) fun _ => h)
  | frameTimerExpiry => exact sends h.atExpiry.takeExpiry.settlePool
  | controlEvaluation =>
    simp only [exec, execControlEvaluation]
    split
    exacts [sends h.evaluate.settlePool, stays]
  | evaluationResume =>
    simp only [exec, execEvaluationResume]
    split
    exacts [sends h.resume.settlePool, stays]
  | deferredClosingWork => exact sends h.serveOldestClosing.settlePool
  | memoryGrant =>
    simp only [exec, execMemoryGrant]
    split
    · next idle chosen => exact movesOn_next (h.grants idle (chooseRequest_mem chosen))
    · exact stays
  | appendWriteComplete | chainReturnWriteComplete | loadWriteComplete =>
    simp only [exec, execAppendWriteComplete, execChainReturnWriteComplete, execLoadWriteComplete]
    split
    exacts [movesOn_next h.completeWrite, stays]
  | closingWriteComplete =>
    simp only [exec, execClosingWriteComplete]
    split
    exacts [movesOn_next h.completeWrite.closingDone, movesOn_next h.completeWrite, stays]
  | refillReadComplete =>
    simp only [exec, execRefillReadComplete]
    split
    exacts [movesOn_next h.completeRefill, stays]
  | fetchComplete =>
    simp only [exec, execFetchComplete]
    split
    exacts [movesOn_next h.completeFetch, stays]
  | walkStart =>
    simp only [exec, execWalkStart]
    split
    exacts [movesOn_next h.startWalk, stays]
  | walkReadComplete =>
    simp only [exec, execWalkReadComplete]
    split
    exacts [movesOn_next h.completeWalkRead, stays]
  | spliceStart =>
    simp only [exec, execSpliceStart]
    split
    exacts [movesOn_next h.startSplice, stays]
  | spliceWalkReadComplete =>
    simp only [exec, execSpliceWalkReadComplete]
    split
    exacts [movesOn_next h.completeSpliceRead, stays]
  | spliceWriteComplete =>
    simp only [exec, execSpliceWriteComplete]
    split
    exacts [movesOn_next h.completeWrite.spliceWritten, stays]
  | formatWriteComplete =>
    simp only [exec, execFormatWriteComplete]
    split
    exacts [movesOn_next h.completeFormat, stays]
  | loadReplacement =>
    simp only [exec, execLoadReplacement]
    split
    · next l _ =>
      have replaced := h.replaceList (l := l)
      exact answers (u := (s.replaceList l).postReserved .load (.done kindListEnd)) (replaced.others (by simp))
    · exact stays
  | loadRecordSlot => exact sends h.serveLoadRecord.settlePool
  | clearListEvent =>
    simp only [exec, execClearListEvent]
    split
    · next c _ =>
      have cleared := h.clearStore (c := c)
      exact answers (u := ((s.clearStore c).setEditor { (s.clearStore c).editor with clear := none }).postReserved .clear
        (.done kindClearList)) (cleared.others (by simp))
    · exact stays
  | listReadRequest =>
    simp only [exec, execListReadRequest]
    split
    exacts [answers h.requestListRead, stays]
  | listReadComplete =>
    simp only [exec, execListReadComplete]
    split
    exacts [answers h.completeListRead, stays]
  | blockStart | blockEnd | engineRead => exact movesOn_next (h.others (by simp))
  | surfaceFrameReceived => exact replies h.surfaceSymbols
  | silenceExpiry p =>
    simp only [exec, execSilenceExpiry]
    split
    · next expiry _ =>
      have later : QueueMoves r { s with now := max s.now expiry } := h.others (by simp)
      exact answers later.surfaceDown.raiseLinkDown
    · exact stays
  | farHoldChange port =>
    cases port with
    | surface p => exact replies (h.setSurface le_rfl le_rfl)
    | editor => exact answers (h.shrinks (.of_editor le_rfl (by simp)))
  | surfaceFrameSent =>
    simp only [exec, execSurfaceFrameSent]
    split
    exacts [replies h.surfaceSent, stays]
  | touch =>
    simp only [exec, execTouch]
    split
    · next handed =>
      exact sends (h.takeFader (State.hasReplyRoom_of_handed handed) fun _ _ _ k room => k.touchControl room)
    · exact stays
  | move =>
    simp only [exec, execMove]
    split
    · next handed =>
      exact replies (h.takeFader (State.hasReplyRoom_of_handed handed) fun _ _ _ k room => k.moveControl room)
    · exact stays
  | release =>
    simp only [exec, execRelease]
    split
    · next handed =>
      exact replies (h.takeFader (State.hasReplyRoom_of_handed handed) fun _ _ _ k room => k.releaseControl room)
    · exact stays
  | bank =>
    simp only [exec, execBank]
    split
    · next handed => exact replies (h.takeBank (State.hasReplyRoom_of_handed handed))
    · exact stays
  | mode =>
    simp only [exec, execMode]
    split
    · next handed =>
      exact replies (h.takeFader (State.hasReplyRoom_of_handed handed) fun _ _ _ k room => k.modeControl room)
    · exact stays
  | query =>
    simp only [exec, execQuery]
    split
    · next handed =>
      exact replies (h.takeFader (State.hasReplyRoom_of_handed handed) fun _ _ _ k room => k.replies room)
    · exact stays
  | hello =>
    simp only [exec, execHello]
    split
    exacts [replies h.popSurface.fillFollow, stays]
  | editorFrameReceived => exact answers h.editorSymbols
  | editorSilenceExpiry =>
    simp only [exec, execEditorSilenceExpiry]
    split
    · next expiry _ =>
      have later : QueueMoves r { s with now := max s.now expiry } := h.others (by simp)
      exact movesOn_next later.editorDown
    · exact stays
  | editorFrameSent =>
    simp only [exec, execEditorFrameSent]
    split
    exacts [answers h.editorSent, stays]
  | setControl =>
    simp only [exec, execSetControl]
    split
    exacts [sends h.popEditor.takeSetControl, stays]
  | setStem =>
    simp only [exec, execSetStem]
    split
    exacts [sends h.popEditor.takeSetStem, stays]
  | setSeat =>
    simp only [exec, execSetSeat]
    split
    exacts [sends h.popEditor.takeSetSeat, stays]
  | setHub =>
    simp only [exec, execSetHub]
    split
    exacts [answers h.popEditor.takeSetHub, stays]
  | listBegin =>
    simp only [exec, execListBegin]
    split
    exacts [answers h.popEditor.takeListBegin, stays]
  | listRecord =>
    simp only [exec, execListRecord]
    split
    exacts [sends h.popEditor.takeListRecord, stays]
  | listEnd =>
    simp only [exec, execListEnd]
    split
    exacts [answers h.popEditor.takeListEnd, stays]
  | readList =>
    simp only [exec, execReadList]
    split
    exacts [answers h.popEditor.takeReadList, stays]
  | clearList =>
    simp only [exec, execClearList]
    split
    exacts [answers h.popEditor.takeClearList, stays]
  | status =>
    simp only [exec, execStatus]
    split
    exacts [answers h.popEditor.postEditor, stays]
  | clearFlags =>
    simp only [exec, execClearFlags]
    split
    exacts [answers h.popEditor.clearFlagSet.postEditor, stays]
  | mixReset =>
    simp only [exec, execMixReset]
    split
    exacts [answers h.popEditor.takeMixReset, stays]
  | linkReset =>
    simp only [exec, execLinkReset]
    split
    exacts [answers h.popEditor.takeLinkReset, stays]

/-- A step moves the queues as its command does; a tick moves none. -/
theorem queueMoves_of_step {s t : State} (stepped : step s = .next t) : QueueMoves s t := by
  have movesOn : MovesOn s (step s) := by
    unfold step State.tick
    split
    · exact movesOn_next (QueueMoves.start.others (by simp))
    · exact exec_movesOn (QueueMoves.start.others (by simp)) _
  obtain ⟨u, next, moved⟩ := movesOn
  rw [stepped] at next
  cases next
  exact moved

/-- Settles O55: every move of the queues tests for room before it fills one. -/
theorem stepKeepsQueuesBounded : Obligations.StepKeepsQueuesBounded :=
  fun _ _ bounded stepped => (queueMoves_of_step stepped).queuesBounded bounded

/-- Settles O56: a segment that closes leaves its control's place for the tail of the splice queue, and one opens only where
no splice of its control is queued. -/
theorem stepKeepsSegmentsPlaced : Obligations.StepKeepsSegmentsPlaced :=
  fun _ _ placed stepped => (queueMoves_of_step stepped).segmentsPlaced placed

end Sys2Proof.Machine
end

section
/-! SUPPORT. The close of one open segment (R78, R97 to R99): the closing work of the closed segment case by case, then a
close from outside. -/

namespace Sys2Proof.Machine

open Sys2Proof.Safety

namespace State

/-! ## The closing work (R97, R98) -/

theorem totalFree_eq_zero_iff (s : State) :
    s.totalFree = 0 ↔ s.store.freeQueue = [] ∧ s.store.memoryCount = 0 := by
  simp [totalFree]

/-- With no final record due the closing work is complete (R97). -/
theorem closeSegment_undue {s : State} {c : ControlId} {g : Segment} {last : Frame} (undue : last ≤ g.outFrame) :
    s.closeSegment c g last = (s.setSegment c none).joinSpliceQueue { segment := g, closing := .complete } := by
  simp only [closeSegment, if_neg (not_lt.2 undue), enqueueClosed]

/-- A final record that is due takes the slot at the front of the queue, if no older closed segment waits (R98; log 13). -/
theorem closeSegment_atOnce {s taken : State} {c : ControlId} {g : Segment} {last : Frame} {slot : Slot}
    (due : g.outFrame < last) (waiters : s.closingWaiters = 0)
    (took : (s.setSegment c none).takeSlot = some (slot, taken)) :
    s.closeSegment c g last = (taken.postRequest (.closing (some g.control) (tailWrite g slot))).joinSpliceQueue
      { segment := appendedTo g last g.lastLevel slot, closing := .writing } := by
  have none : (s.setSegment c none).closingWaiters = 0 := waiters
  simp only [closeSegment, if_pos due, enqueueClosed, if_pos none, took]
  rfl

/-- With no slot for it the closed segment waits, or with no free slot anywhere its final record is dropped (R98). -/
theorem closeSegment_withoutSlot {s : State} {c : ControlId} {g : Segment} {last : Frame} (due : g.outFrame < last)
    (none : s.closingWaiters ≠ 0 ∨ s.store.freeQueue = []) :
    s.closeSegment c g last = (s.setSegment c .none).joinSpliceQueue
      { segment := g, closing := if s.totalFree = 0 then .complete else .waitingSlot last } := by
  have join : s.closeSegment c g last = (s.setSegment c .none).joinWithoutSlot g last := by
    simp only [closeSegment, if_pos due, enqueueClosed]
    by_cases waiters : (s.setSegment c .none).closingWaiters = 0
    · have empty : (s.setSegment c .none).store.freeQueue = [] := none.resolve_left (not_not_intro waiters)
      rw [if_pos waiters, takeSlot_eq_none_iff.2 empty]
    · rw [if_neg waiters]
  rw [join]
  rfl

/-! ## A close from outside (R78, R96) -/

theorem closeOutside_none {s : State} {c : ControlId} (closed : s.segmentOf c = none) : s.closeOutside c = s := by
  simp only [closeOutside, closed]

/-- A close from outside is the close of the segment, but for an append that waits on it. -/
theorem closeOutside_eq {s : State} {c : ControlId} {g : Segment} (opened : s.segmentOf c = some g) :
    s.closeOutside c = { s.closeSegment c g (s.lastEvaluatedFrame c g) with pass := (s.closeOutside c).pass } := by
  simp only [closeOutside, opened]
  split
  · exact eq_of_blocks (by simp)
  · rfl

/-- An append waits on the open segment of a control when the evaluation under way waits there to append. -/
theorem appendWaits_iff {s : State} {c : ControlId} {g : Segment} (opened : s.segmentOf c = some g) : s.AppendWaits c ↔
    s.pass.run.wait ≠ none ∧ ∃ e, s.pass.run.underWay = some e ∧ e.control = c ∧ e.todo = .append := by
  simp [AppendWaits, waitsAt_iff, opened]

end State

/-- Settles O10: the close of the segment by its closing work, then the append that waits on it. -/
theorem segmentClosed : Obligations.SegmentClosed := by
  refine ⟨fun s c closed => State.closeOutside_none closed, fun s c g opened => ?_⟩
  intro last t joined queued
  have frame := State.closeOutside_eq opened
  obtain ⟨w, closed⟩ : ∃ w, w = s.closeSegment c g last := ⟨_, rfl⟩
  have frame : t = { w with pass := t.pass } := closed ▸ frame
  have kept := s.closeOutside_kept c
  have joins {work : ClosingWork}
      (same : w = (s.setSegment c none).joinSpliceQueue { segment := g, closing := work }) : queued work := by
    have store : t.store = w.store := by rw [frame]
    have port : t.port = w.port := by rw [frame]
    have editor : t.editor = w.editor := by rw [frame]
    rw [same] at store port editor
    exact ⟨store, port, editor⟩
  refine ⟨s.closeOutside_segmentOf c, fun undue => joins (closed.trans (State.closeSegment_undue undue)),
    fun slot rest due waiters queue => ?atOnce, fun due none some => joins (closed.trans ?waits),
    fun due empty => joins (closed.trans ?dropped), fun other => ?passKept, fun e wait run control todo => ?passEnds,
    kept.frame, kept.bar⟩
  case atOnce =>
    obtain ⟨taken, took, slots, rest⟩ := State.takeSlot_of_queue (s := s.setSegment c none) queue
    have same := closed.trans (State.closeSegment_atOnce due waiters took)
    have store : t.store = w.store := by rw [frame]
    have port : t.port = w.port := by rw [frame]
    have editor : t.editor = w.editor := by rw [frame]
    rw [same] at store port editor
    refine ⟨State.slotsTaken_congr slots ?_ editor, ?_, ?_⟩
    · rw [store]
      rfl
    · rw [store, rest]
      rfl
    · rw [port, rest]
      rfl
  case waits => rw [State.closeSegment_withoutSlot due none, if_neg some]
  case dropped =>
    have none : s.store.freeQueue = [] := (s.totalFree_eq_zero_iff.1 empty).1
    rw [State.closeSegment_withoutSlot due (.inr none), if_pos empty]
  case passKept =>
    refine State.closeOutside_pass_other ?_
    rw [State.appendWaits_iff opened]
    rintro ⟨wait, e, run, control, todo⟩
    rcases other with free | other
    · exact wait free
    · exact (other e run).elim (absurd control) (absurd todo)
  case passEnds =>
    have waits : s.AppendWaits c := (State.appendWaits_iff opened).2 ⟨wait, e, run, control, todo⟩
    rw [State.closeOutside_pass_waiting waits, State.endWait_eq run]
    rfl

end Sys2Proof.Machine
end

section
/-! SUPPORT. The completions of the accesses of one slot: the posted writes, FORMAT and the refill read (O28). -/

namespace Sys2Proof.Machine
open Sys2Proof.Safety

namespace State

/-- A completed write changes no byte outside its slot. -/
theorem completeWrite_keepsMemoryBut {s : State} (canonical : MemoryCanonical s) (w : SlotRecord) :
    KeepsMemoryBut s (s.completeWrite w) w.slot := by
  intro a outside
  have notInside : ¬(Memory.slotAddress w.slot ≤ a ∧ a < Memory.slotAddress w.slot + 16) := by omega
  show Memory.read (Memory.writeSlot s.memory w.slot w.record) a = Memory.read s.memory a
  rw [Memory.read_writeSlot (Memory.rising_of_wf canonical), if_neg notInside]

/-- FORMAT's record: the free chain goes on, except in the last slot (R111). -/
theorem formatRecord_eq (slot : Slot) : formatRecord slot =
    if slot = 1048575#20 then { frame := 0, kind := .level, level := 0, last := true, next := 0 }
    else { frame := 0, kind := .level, level := 0, last := false, next := slot + 1 } := by
  by_cases last : slot = 1048575#20
  · subst last
    rfl
  · simp [formatRecord, last]

theorem completeFormat_goesOn {s : State} {slot : Slot} (more : slot ≠ 1048575#20) :
    s.completeFormat slot =
      let written := s.completeWrite { slot := slot, record := formatRecord slot }
      { written with store := { s.store with storeState := .formatting (slot + 1) } } :=
  if_neg more

/-- The last FORMAT write makes the whole memory the free list, and the first refill is requested (R111). -/
theorem completeFormat_last {s : State} {slot : Slot} (last : slot = 1048575#20) :
    s.completeFormat slot =
      let written := s.completeWrite { slot := slot, record := formatRecord slot }
      { written with store := { s.store with
        freeHead := 0, memoryCount := 1048576, storeState := .ready
        refill := if s.store.freeQueue.length < 64 ∧ s.store.refill = .none then .requested else s.store.refill } } := by
  have done : s.completeFormat slot = (s.completeWrite { slot := slot, record := formatRecord slot }).formatDone :=
    if_pos last
  rw [done, formatDone, requestRefill_spec]
  simp [completeWrite, endAccess, Config.slotCount]

theorem completeRefill_stands {s : State} {slot bound : Slot} (refill : s.store.refill = .reading bound true) :
    s.completeRefill slot = { s with
      port := { s.port with access := none }
      store := { s.store with
        freeQueue := s.store.freeQueue ++ [slot]
        freeHead := (Memory.readSlot s.memory slot).next
        memoryCount := s.store.memoryCount - 1
        refill := if s.store.storeState = .ready ∧ (s.store.freeQueue ++ [slot]).length < 64 ∧
          0 < s.store.memoryCount - 1 then .requested else .none } } := by
  have stands : s.refillStands = true := by simp [refillStands, refill]
  rw [completeRefill, if_pos stands, requestRefill_spec]
  simp [setRefill, refillFrom, endAccess, readRecord]

theorem completeRefill_dropped {s : State} {slot bound : Slot} (refill : s.store.refill = .reading bound false) :
    s.completeRefill slot = { s with
      port := { s.port with access := none }
      store := { s.store with refill := if s.store.storeState = .ready ∧ s.store.freeQueue.length < 64 ∧
        0 < s.store.memoryCount then .requested else .none } } := by
  have dropped : ¬s.refillStands = true := by simp [refillStands, refill]
  rw [completeRefill, if_neg dropped, requestRefill_spec]
  simp [setRefill, endAccess]

end State

/-- Settles O28: each completion is its access's branch, and a slot's write leaves the bytes of every other slot. -/
theorem slotAccessesComplete : Obligations.SlotAccessesComplete := by
  refine ⟨fun s w => ?posted, fun s slot access => ?format, fun s slot bound stands access refill => ?refillRead⟩
  case posted =>
    refine ⟨fun o access => ?_, fun k access => ?_, fun access => ?_, fun access => ?_, fun c access => ?_,
      fun canonical => State.completeWrite_keepsMemoryBut canonical w⟩
    · simp only [exec, execAppendWriteComplete, access]
      rfl
    · simp only [exec, execChainReturnWriteComplete, access]
      rfl
    · simp only [exec, execLoadWriteComplete, access]
      rfl
    · simp only [exec, execClosingWriteComplete, access]
      rfl
    · simp only [exec, execClosingWriteComplete, access]
      rfl
  case format =>
    have completes : exec .formatWriteComplete s = .next (s.completeFormat slot) := by
      simp only [exec, execFormatWriteComplete, access]
    rw [← State.formatRecord_eq]
    refine ⟨fun more => ?_, fun last => ?_, fun canonical =>
      State.completeWrite_keepsMemoryBut canonical { slot := slot, record := formatRecord slot }⟩
    · rw [completes, State.completeFormat_goesOn more]
      rfl
    · rw [completes, State.completeFormat_last last]
      rfl
  case refillRead =>
    have completes : exec .refillReadComplete s = .next (s.completeRefill slot) := by
      simp only [exec, execRefillReadComplete, access]
    refine ⟨fun stood => ?_, fun fell => ?_⟩
    · rw [completes, State.completeRefill_stands (stood ▸ refill)]
    · rw [completes, State.completeRefill_dropped (fell ▸ refill)]

end Sys2Proof.Machine
end

section
/-! SUPPORT. Deferred closing work: the oldest closed segment that waits for a slot is served (O26). -/

namespace Sys2Proof.Machine
open Sys2Proof.Safety

namespace State

theorem serveClosing_cons_other {slot : Slot} {e : ClosedSegment} {rest : List ClosedSegment}
    (other : ∀ k, e.closing ≠ .waitingSlot k) :
    serveClosing slot (e :: rest) = (serveClosing slot rest).map (fun r => (r.1, e :: r.2)) := by
  cases closing : e.closing with
  | waitingSlot k => exact absurd closing (other k)
  | writing => simp [serveClosing, closing]
  | complete => simp [serveClosing, closing]

/-- Only the oldest waiting segment is served. -/
theorem serveClosing_oldest {slot : Slot} {before after : List ClosedSegment} {g : Segment} {f : Frame}
    (older : ∀ e ∈ before, ∀ k, e.closing ≠ .waitingSlot k) :
    serveClosing slot (before ++ { segment := g, closing := .waitingSlot f } :: after) =
      some (g, before ++ { segment := appendedTo g f g.lastLevel slot, closing := .writing } :: after) := by
  induction before with
  | nil => rfl
  | cons e before ih =>
    obtain ⟨first, others⟩ := List.forall_mem_cons.1 older
    rw [List.cons_append, serveClosing_cons_other first, ih others]
    rfl

theorem serveClosing_none {slot : Slot} {queue : List ClosedSegment}
    (none_ : ∀ e ∈ queue, ∀ k, e.closing ≠ .waitingSlot k) : serveClosing slot queue = none := by
  induction queue with
  | nil => rfl
  | cons e queue ih =>
    obtain ⟨first, others⟩ := List.forall_mem_cons.1 none_
    rw [serveClosing_cons_other first, ih others]
    rfl

theorem serveOldestClosing_idle {s : State}
    (idle : s.store.freeQueue = [] ∨ ∀ e ∈ s.store.spliceQueue, ∀ k, e.closing ≠ .waitingSlot k) :
    s.serveOldestClosing = s := by
  unfold serveOldestClosing
  split
  · next slot taken took =>
    obtain ⟨rest, queue, -, frame⟩ := takeSlot_spec took
    have splice : taken.store.spliceQueue = s.store.spliceQueue := by rw [frame]
    obtain empty | none_ := idle
    · simp [empty] at queue
    · rw [splice, serveClosing_none none_]
  · rfl

/-- The served segment's queue entry, its closing write, and the slot taken (R98). -/
theorem serveOldestClosing_serves {s : State} {before after : List ClosedSegment} {g : Segment} {f : Frame} {slot : Slot}
    {rest : List Slot} (splice : s.store.spliceQueue = before ++ { segment := g, closing := .waitingSlot f } :: after)
    (older : ∀ e ∈ before, ∀ k, e.closing ≠ .waitingSlot k) (queue : s.store.freeQueue = slot :: rest) :
    ∃ taken, SlotsTaken s taken rest 1 ∧
      taken = { s with
        editor := taken.editor
        store := { s.store with freeQueue := rest, poolLow := taken.store.poolLow, refill := taken.store.refill } } ∧
      s.serveOldestClosing = (taken.postClosingWrite g slot).setSpliceQueue
        (before ++ { segment := appendedTo g f g.lastLevel slot, closing := .writing } :: after) := by
  obtain ⟨taken, took, slots, frame⟩ := takeSlot_of_queue queue
  have same : taken.store.spliceQueue = s.store.spliceQueue := by rw [frame]
  refine ⟨taken, slots, frame, ?_⟩
  simp only [serveOldestClosing, took, same, splice, serveClosing_oldest older]

end State

/-- Settles O26: the split of the queue at its first waiting segment is what `serveClosing` serves; with none, or with no
slot, the state stays and so does the pool. -/
theorem deferredClosingWorkDone : Obligations.DeferredClosingWorkDone := by
  refine ⟨fun s before after g f slot rest splice older queue => ?serves, fun s idle => ?idle⟩
  case serves =>
    obtain ⟨taken, slots, frame, serves⟩ := State.serveOldestClosing_serves splice older queue
    refine ⟨s.serveOldestClosing, goesOn_transmitAll _, ?_, ?_, ?_, ?_⟩
    · exact State.slotsTaken_congr slots (by rw [serves]; rfl) (by rw [serves]; rfl)
    all_goals
      rw [serves, frame]
      rfl
  case idle =>
    have kept : s.serveOldestClosing.settlePool s = s := by
      rw [State.serveOldestClosing_idle idle, State.settlePool_of_store rfl]
    show GoesOnTo (.next (s.serveOldestClosing.settlePool s).transmitAll) s
    rw [kept]
    exact goesOn_transmitAll s

end Sys2Proof.Machine
end

section
/-! SUPPORT. The pool runs out (R92, R93, R98, R183): the final records dropped, the waiting append's truncation, and the
waiting load record's abort, in the order in which they settle (O13). -/

namespace Sys2Proof.Machine
open Sys2Proof.Safety

namespace State

/-! ## The final records that wait are dropped (R98) -/

theorem dropFinalRecords_spliceQueue (s : State) : s.dropFinalRecords.store.spliceQueue =
    s.store.spliceQueue.map (fun e => match e.closing with
      | .waitingSlot _ => { e with closing := .complete }
      | _ => e) := by
  refine List.map_congr_left fun e _ => ?_
  obtain ⟨g, closing⟩ := e
  cases closing <;> rfl

theorem dropFinalRecords_waits (s : State) {e : ClosedSegment} (queued : e ∈ s.dropFinalRecords.store.spliceQueue)
    (k : Frame) : e.closing ≠ .waitingSlot k := by
  obtain ⟨old, -, rfl⟩ := List.mem_map.1 queued
  cases work : old.closing <;> simp [ClosingWork.dropped]

theorem closingWaiters_eq_zero {s : State} (none_ : ∀ e ∈ s.store.spliceQueue, ∀ k, e.closing ≠ .waitingSlot k) :
    s.closingWaiters = 0 := by
  refine List.countP_eq_zero.2 fun e queued => ?_
  cases work : e.closing with
  | waitingSlot k => exact absurd work (none_ e queued k)
  | writing => simp
  | complete => simp

/-! ## The truncation of a waiting append (R92, R93) -/

/-- The evaluation whose append waits for a slot, and its control's open segment. -/
def WaitsToAppend (s : State) (e : Evaluation) (g : Segment) : Prop :=
  s.pass.run.wait = some .freeSlot ∧ s.pass.run.underWay = some e ∧ e.todo = .append ∧ s.segmentOf e.control = some g

theorem truncateWaiting_waits {s : State} {e : Evaluation} {g : Segment} (waits : s.WaitsToAppend e g) :
    s.truncateWaiting = (s.truncate e g).setRun (released s.pass.run e) := by
  obtain ⟨wait, run, todo, opened⟩ := waits
  have kept : (s.truncate e g).pass.run = s.pass.run := by
    rw [truncate_eq]
    rfl
  have truncates : s.truncateWaiting = (s.truncate e g).endWait := by
    simp only [truncateWaiting, wait, run, todo, opened]
  rw [truncates, endWait_eq (kept.symm ▸ run), kept]

theorem truncateWaiting_idle {s : State} (idle : ∀ e g, ¬s.WaitsToAppend e g) : s.truncateWaiting = s := by
  unfold truncateWaiting
  split
  · next e wait run =>
    split
    · next g todo opened => exact absurd ⟨wait, run, todo, opened⟩ (idle e g)
    · rfl
  · rfl

theorem noticeHolder_surface_congr {s t : State} (arbiter : t.arbiter = s.arbiter) (surface : t.surface = s.surface)
    (c : ControlId) (n : SeatNotice) : (t.noticeHolder c n).surface = (s.noticeHolder c n).surface :=
  table_ext fun q => noticeHolder_surfaceOf_congr arbiter surface c n q

/-- The truncation of a waiting append, field by field. -/
theorem truncateWaiting_eq {s : State} {e : Evaluation} {g : Segment} (waits : s.WaitsToAppend e g) :
    s.truncateWaiting = { s with
      pass := { s.pass with
        run := { s.pass.run with wait := none, underWay := some { e with todo := .finish } }
        records := (s.withLatePunch e.control ((s.recordOf e.control).latePunch || e.held)).pass.records }
      writer := { s.writer with segments := (s.setSegment e.control none).writer.segments }
      store := { s.store with
        spliceQueue := s.store.spliceQueue ++ [{ segment := g, closing := .complete }]
        splice := if s.store.splice = .idle then .waiting else s.store.splice }
      surface := if e.held then (s.noticeHolder e.control .truncated).surface else s.surface } := by
  rw [truncateWaiting_waits waits, truncate_eq]
  refine eq_of_blocks ⟨rfl, rfl, rfl, rfl, rfl, rfl, rfl, rfl, rfl, rfl, rfl, ?surface, rfl, rfl⟩
  cases e.held with
  | false => rfl
  | true =>
    exact noticeHolder_surface_congr (s := s)
      (t := (s.setSegment e.control none).joinSpliceQueue { segment := g, closing := .complete }) rfl rfl _ _

theorem recordOf_withLatePunch_or (s : State) (c d : ControlId) (b : Bool) :
    (s.withLatePunch c ((s.recordOf c).latePunch || b)).recordOf d =
      { s.recordOf d with latePunch := (s.recordOf d).latePunch || (d == c && b) } := by
  by_cases same : d = c
  · subst same
    rw [withLatePunch, recordOf_setRecord_self, beq_self_eq_true, Bool.true_and]
  · rw [withLatePunch, recordOf_setRecord_ne _ (Ne.symm same), beq_false_of_ne same, Bool.false_and, Bool.or_false]

/-- What is truncated or not, only these blocks move. -/
theorem truncateWaiting_kept (s : State) : s.truncateWaiting = { s with
    pass := s.truncateWaiting.pass
    writer := { s.writer with segments := s.truncateWaiting.writer.segments }
    store := { s.store with
      spliceQueue := s.truncateWaiting.store.spliceQueue, splice := s.truncateWaiting.store.splice }
    surface := s.truncateWaiting.surface } := by
  by_cases waits : ∃ e g, s.WaitsToAppend e g
  · obtain ⟨e, g, waits⟩ := waits
    rw [truncateWaiting_eq waits]
  · rw [truncateWaiting_idle fun e g h => waits ⟨e, g, h⟩]

/-- A truncated segment joins the queue with its closing work complete. -/
theorem truncateWaiting_waiters {s : State} (none_ : ∀ e ∈ s.store.spliceQueue, ∀ k, e.closing ≠ .waitingSlot k) :
    ∀ e ∈ s.truncateWaiting.store.spliceQueue, ∀ k, e.closing ≠ .waitingSlot k := by
  by_cases waits : ∃ e g, s.WaitsToAppend e g
  · obtain ⟨e, g, waits⟩ := waits
    rw [truncateWaiting_eq waits]
    intro x queued k
    rcases List.mem_append.1 queued with before | new
    · exact none_ x before k
    · rw [List.mem_singleton.1 new]
      simp
  · rwa [truncateWaiting_idle fun e g h => waits ⟨e, g, h⟩]

/-! ## The abort of a waiting load record (R183) -/

theorem abortWaitingLoad_idle {s : State} (idle : s.editor.waitingRecord = none ∨ s.store.load = none) :
    s.abortWaitingLoad = s := by
  unfold abortWaitingLoad
  split
  · next waits =>
    obtain none_ | unloaded := idle
    · simp [none_] at waits
    · exact abortLoad_none _ unloaded
  · rfl

theorem abortWaitingLoad_waits {s : State} (waits : s.editor.waitingRecord ≠ none) :
    s.abortWaitingLoad = s.abortLoad (some .pool) :=
  if_pos (Option.isSome_iff_ne_none.2 waits)

/-- An aborted load leaves the splice queue and the splice. -/
theorem loadAborted_splice {s t : State} {before : MemoryPort} {l : Load} (aborted : LoadAborted s before l t) :
    t.store.spliceQueue = s.store.spliceQueue ∧ t.store.splice = s.store.splice := by
  obtain ⟨empty, chain⟩ := aborted
  cases first : l.first with
  | none =>
    rw [(empty (.inl first)).1]
    exact ⟨rfl, rfl⟩
  | some f =>
    cases tail : l.tail with
    | none =>
      rw [(empty (.inr tail)).1]
      exact ⟨rfl, rfl⟩
    | some h =>
      rw [(chain f h first tail).1]
      exact ⟨rfl, rfl⟩

theorem loadAborted_congr {s s' t : State} {before : MemoryPort} {l : Load} (aborted : LoadAborted s before l t)
    (store : s'.store = s.store) : LoadAborted s' before l t := by
  simpa only [LoadAborted, store] using aborted

/-- Whether a load is aborted or not, only these blocks move, and the splice does not. -/
theorem abortWaitingLoad_kept (s : State) :
    s.abortWaitingLoad = { s with
      store := s.abortWaitingLoad.store, port := s.abortWaitingLoad.port, editor := s.abortWaitingLoad.editor } ∧
    s.abortWaitingLoad.store.spliceQueue = s.store.spliceQueue ∧ s.abortWaitingLoad.store.splice = s.store.splice := by
  by_cases idle : s.editor.waitingRecord = none ∨ s.store.load = none
  · rw [abortWaitingLoad_idle idle]
    exact ⟨rfl, rfl, rfl⟩
  · obtain ⟨waits, loads⟩ := not_or.1 idle
    obtain ⟨l, load⟩ := Option.ne_none_iff_exists'.1 loads
    obtain ⟨aborted, frame⟩ := abortLoad_spec s l (some .pool) load
    rw [abortWaitingLoad_waits waits]
    refine ⟨?_, loadAborted_splice aborted⟩
    conv_lhs => rw [frame]
    rw [frame]

theorem settlePool_runsOut {u s : State} (some_ : 0 < s.totalFree) (none_ : u.totalFree = 0) :
    u.settlePool s = u.dropFinalRecords.truncateWaiting.abortWaitingLoad :=
  if_pos ⟨some_, none_⟩

end State

/-- Settles O13: each of the three endings by what it leaves, chained in their order. -/
theorem poolRunsOut : Obligations.PoolRunsOut := by
  refine fun u s => ⟨fun stands => if_neg stands, fun some_ none_ => ?_⟩
  intro t dropped truncates
  have settles : t = u.dropFinalRecords.truncateWaiting.abortWaitingLoad := State.settlePool_runsOut some_ none_
  obtain ⟨aborts, queue, splice⟩ := u.dropFinalRecords.truncateWaiting.abortWaitingLoad_kept
  rw [← settles] at aborts queue splice
  obtain ⟨pass, writer, surface⟩ : t.pass = u.dropFinalRecords.truncateWaiting.pass ∧
      t.writer = u.dropFinalRecords.truncateWaiting.writer ∧ t.surface = u.dropFinalRecords.truncateWaiting.surface := by
    rw [settles]
    simp
  have kept := u.dropFinalRecords.truncateWaiting_kept
  have drops : u.dropFinalRecords.store.spliceQueue = dropped := u.dropFinalRecords_spliceQueue
  have waiters := State.truncateWaiting_waiters fun e queued => u.dropFinalRecords_waits queued
  have truncated := @State.truncateWaiting_eq u.dropFinalRecords
  have idle := @State.truncateWaiting_idle u.dropFinalRecords
  have aborted := State.abortLoad_spec u.dropFinalRecords.truncateWaiting
  have waits := @State.abortWaitingLoad_waits u.dropFinalRecords.truncateWaiting
  have loadIdle := @State.abortWaitingLoad_idle u.dropFinalRecords.truncateWaiting
  generalize u.dropFinalRecords.truncateWaiting = v at *
  refine ⟨State.closingWaiters_eq_zero (queue ▸ waiters), fun e g cut => ?truncates, fun none' => ?stays,
    ⟨fun l waiting load => ?aborts, fun idle' => ?unloaded⟩, ?bar, ?frame⟩
  case truncates =>
    have left := truncated (e := e) (g := g) cut
    refine ⟨fun d => ?segment, ?queue, ?splice, ?pass, fun d => ?record, ?surface⟩
    case segment =>
      rw [← State.setSegment_segmentOf u e.control d none, State.segmentOf_congr writer]
      exact State.segmentOf_congr (by rw [left]; rfl) d
    case queue => rw [queue, left, ← drops]
    case splice =>
      rw [splice, left]
      rfl
    case pass =>
      rw [pass, left]
      rfl
    case record =>
      rw [← State.recordOf_withLatePunch_or u e.control d e.held, State.recordOf_congr pass]
      simp only [State.recordOf, left]
      rfl
    case surface =>
      rw [surface, left]
      cases e.held with
      | false => rfl
      | true => exact State.noticeHolder_surface_congr (s := u) (t := u.dropFinalRecords) rfl rfl _ _
  case stays =>
    have same : v = u.dropFinalRecords := idle none'
    refine ⟨by rw [queue, same, drops], ?_, ?_, ?_, ?_⟩
    · rw [splice, same]
      rfl
    · rw [pass, same]
      rfl
    · rw [writer, same]
      rfl
    · rw [surface, same]
      rfl
  case aborts =>
    have waits' : v.editor.waitingRecord ≠ none := by rwa [kept]
    have load' : v.store.load = some l := by rwa [kept]
    obtain ⟨chain, frame⟩ := aborted l (some .pool) load'
    rw [← waits waits', ← settles] at chain frame
    refine ⟨?_, ?_⟩
    · have port : v.port = u.port := by rw [kept]; rfl
      rw [port] at chain
      refine State.loadAborted_congr chain ?_
      rw [queue, splice, kept]
      rfl
    · have editor := congrArg State.editor frame
      rw [kept] at editor
      exact editor
  case unloaded =>
    have same : t = v := settles.trans (loadIdle (by rwa [kept]))
    rw [same]
    refine ⟨?_, ?_, ?_⟩
    all_goals
      rw [kept]
      rfl
  case bar =>
    rw [writer, kept]
    rfl
  case frame =>
    refine aborts.trans ?_
    rw [pass, writer, surface, kept]
    rfl

end Sys2Proof.Machine
end

section
/-! SUPPORT. The Segment Writer step of an evaluation (R64, R76 to R78): what it starts from, the ways in which it ends or
waits, and what it has then done. -/

namespace Sys2Proof.Machine
open Sys2Proof.Safety

namespace State

/-! ## What the step starts from (R64, R76) -/

theorem chosen_store (s : State) (c : ControlId) (f : Frame) : (s.chosen c f).store = s.store := by simp [chosen]

theorem chosen_writer (s : State) (c : ControlId) (f : Frame) : (s.chosen c f).writer = s.writer := by simp [chosen]

theorem chosen_editor (s : State) (c : ControlId) (f : Frame) : (s.chosen c f).editor = s.editor := by simp [chosen]

theorem chosen_segmentOf (s : State) (c : ControlId) (f : Frame) (d : ControlId) :
    (s.chosen c f).segmentOf d = s.segmentOf d := segmentOf_congr (s.chosen_writer c f) d

theorem chosen_totalFree (s : State) (c : ControlId) (f : Frame) : (s.chosen c f).totalFree = s.totalFree :=
  totalFree_congr (s.chosen_store c f)

theorem chosen_closingWaiters (s : State) (c : ControlId) (f : Frame) :
    (s.chosen c f).closingWaiters = s.closingWaiters := by
  simp only [closingWaiters, chosen_store]

theorem chosen_slotsForPass (s : State) (c : ControlId) (f : Frame) :
    (s.chosen c f).slotsForPass = s.slotsForPass := by
  simp only [slotsForPass, chosen_closingWaiters, chosen_store]

theorem chosen_punchInAllowed (s : State) (c : ControlId) (f : Frame) :
    (s.chosen c f).punchInAllowed c = s.punchInAllowed c := by
  simp only [punchInAllowed, spliceQueued, storeReady, chosen_totalFree, chosen_store]

/-- The cursor's advance posts a fetch at most, which is no append (R130). -/
theorem evaluationStep_appendQueue (s : State) (c : ControlId) (f : Frame) :
    (s.evaluationStep c f).appendQueue = s.appendQueue := by
  have port := (s.evaluationStep_cursors c f).2
  simp only [appendQueue, outstanding, port]
  obtain ⟨r, ready, ahead, due, last | more⟩ | stays := s.advanceCursor_cases c f
  · rw [advanceCursor_last ready ahead due last]
    rfl
  · rw [advanceCursor_fetches ready ahead due more]
    simp [postRequest, setCursor]
  · rw [advanceCursor_stays stays]

theorem chosen_appendRoom (s : State) (c : ControlId) (f : Frame) :
    (s.chosen c f).appendRoom = true ↔ s.appendQueue.length < 64 := by
  have queue : (s.chosen c f).appendQueue = s.appendQueue := s.evaluationStep_appendQueue c f
  rw [appendRoom_iff, queue]

theorem handedOver_transition (s : State) (c : ControlId) (f : Frame) :
    (s.handedOver c f).transition = ((inputsAt s c f).mode != (s.recordOf c).previousMode) := by
  rw [← s.recordOf_evaluationStep c f c]
  rfl

/-! ## The end of the step, or a wait (R77) -/

theorem controlEvaluation_settles {s : State} {c : ControlId} {f : Frame} (due : EvaluationDue s c f) :
    GoesOnTo (exec .controlEvaluation s) (((s.chosen c f).writerStep (s.handedOver c f)).settlePool s) := by
  have next : exec .controlEvaluation s = .next ((s.evaluate c f).settlePool s).transmitAll := by
    show execControlEvaluation s = _
    simp only [execControlEvaluation, evaluationDue_eq due]
  rw [next, evaluate_eq]
  exact goesOn_transmitAll _

/-- The step ends in state v, and the pool may run out with it. -/
theorem controlEvaluation_ends {s v : State} {c : ControlId} {f : Frame} (due : EvaluationDue s c f)
    (ends : (s.chosen c f).writerStep (s.handedOver c f) = v.finishEvaluation (s.handedOver c f)) :
    GoesOnTo (exec .controlEvaluation s) (((v.results (s.handedOver c f)).endEvaluation c).settlePool s) := by
  have goesOn := controlEvaluation_settles due
  rw [ends] at goesOn
  exact goesOn

/-- The step ends in state v, and the pool cannot run out with it. -/
theorem controlEvaluation_endsWithSlots {s v : State} {c : ControlId} {f : Frame} (due : EvaluationDue s c f)
    (ends : (s.chosen c f).writerStep (s.handedOver c f) = v.finishEvaluation (s.handedOver c f))
    (slots : s.totalFree = 0 ∨ v.totalFree ≠ 0) :
    GoesOnTo (exec .controlEvaluation s) ((v.results (s.handedOver c f)).endEvaluation c) := by
  have goesOn := controlEvaluation_ends due ends
  have store : ((v.results (s.handedOver c f)).endEvaluation c).store = v.store := by simp [results]
  rwa [settlePool_of_slots (slots.imp_right (by rw [totalFree_congr store]; exact id))] at goesOn

/-- The wait holds the inputs the evaluation read and the choice it made (R77; log 16). -/
theorem chosen_enterWait (s : State) (c : ControlId) (f : Frame) (cause : WaitCause) (todo : EvalTodo) :
    (s.chosen c f).enterWait (s.handedOver c f) cause todo = waitingState s c f cause todo := by
  have tracker : (s.evaluationStep c f).tracker = s.tracker := by simp
  unfold enterWait handedOver handOver waitingState
  simp only [Inputs.transition, inputsAt, inputs, chosen, recordChoice, setRecord, setRun, recordOf_evaluationStep,
    configOf_evaluationStep, tracker, evaluationStep_pass, Inputs.held]

theorem controlEvaluation_waits {s : State} {c : ControlId} {f : Frame} {cause : WaitCause} {todo : EvalTodo}
    (due : EvaluationDue s c f) (waits : (s.chosen c f).writerStep (s.handedOver c f) =
      (s.chosen c f).enterWait (s.handedOver c f) cause todo) :
    GoesOnTo (exec .controlEvaluation s) (waitingState s c f cause todo) := by
  have stands : ((s.chosen c f).enterWait (s.handedOver c f) cause todo).settlePool s = _ :=
    settlePool_of_store (s.chosen_store c f)
  have goesOn := controlEvaluation_settles due
  rwa [waits, stands, chosen_enterWait] at goesOn

/-! ## What the step has done -/

/-- A step is done alike whether the evaluation comes to it at once or has waited. -/
theorem ResumptionDone.writerDone {s v : State} {c : ControlId} {f : Frame} {late : Bool}
    (done : ResumptionDone (s.chosen c f) v (s.handedOver c f) late) : WriterDone s v c f late :=
  ⟨done.pass, done.arbiter, done.engine.trans (by simp [chosen])⟩

theorem chosen_latePunch (s : State) (c : ControlId) (f : Frame) :
    ((s.chosen c f).recordOf c).latePunch = ((s.recordOf c).latePunch && (inputsAt s c f).touch.isSome) := by
  rw [chosen_recordOf_self, Bool.and_comm]
  rfl

/-- A step that keeps the pass has changed no late-punch flag. -/
theorem WriterDone.of_pass {s v : State} {c : ControlId} {f : Frame} (pass : v.pass = (s.chosen c f).pass)
    (arbiter : v.arbiter = (s.chosen c f).arbiter) (engine : v.engine = (s.chosen c f).engine) :
    WriterDone s v c f ((s.recordOf c).latePunch && (inputsAt s c f).touch.isSome) := by
  have done : ResumptionDone (s.chosen c f) v (s.handedOver c f) ((s.chosen c f).recordOf c).latePunch :=
    .of_pass pass arbiter engine
  rw [← chosen_latePunch]
  exact done.writerDone

theorem WriterDone.latePunch {s v : State} {c : ControlId} {f : Frame} {late : Bool} (done : WriterDone s v c f late) :
    ((v.results (s.handedOver c f)).recordOf c).latePunch = late := by
  rw [done.results_recordOf]

theorem latePunch_surfaceOf_congr {s u : State} (arbiter : s.arbiter = u.arbiter) (surface : s.surface = u.surface)
    (c : ControlId) (q : SurfaceId) : (s.latePunch c).surfaceOf q =
      (if (s.recordOf c).latePunch then u else u.noticeHolder c (s.latePunchNotice c)).surfaceOf q := by
  rw [latePunch_surfaceOf]
  split
  · exact surfaceOf_congr surface q
  · exact noticeHolder_surfaceOf_congr arbiter surface c _ q

/-- While the control is held its late-punch flag stands. -/
theorem chosen_latePunch_held {s : State} {c : ControlId} {f : Frame} (held : (inputsAt s c f).touch ≠ none) :
    ((s.chosen c f).recordOf c).latePunch = (s.recordOf c).latePunch := by
  rw [chosen_latePunch, Option.isSome_iff_ne_none.2 held, Bool.and_true]

theorem slotsTaken_of_chosen {s t : State} {c : ControlId} {f : Frame} {rest : List Slot} {n : Nat}
    (taken : SlotsTaken (s.chosen c f) t rest n) : SlotsTaken s t rest n := by
  simpa only [SlotsTaken, chosen_store, chosen_editor, chosen_totalFree] using taken

/-! ## A punch-in attempt (R88, R89) -/

theorem settleWriter_punchIn (s v : State) (e : Evaluation) :
    s.settleWriter e .punchIn (.done v) = v.finishEvaluation e := rfl

theorem punchIn_opens {s u : State} {c : ControlId} {f : Frame} {l : Level} (met : s.punchInAllowed c = true)
    (slots : 2 ≤ s.slotsForPass) (opens : s.openSegment c f l = some u) : s.punchIn c f l = .done u := by
  rw [punchIn, if_pos met, if_pos slots, opens]

theorem punchIn_waits {s : State} {c : ControlId} {f : Frame} {l : Level} (met : s.punchInAllowed c = true)
    (few : s.slotsForPass < 2) : s.punchIn c f l = .waits .freeSlot := by
  rw [punchIn, if_pos met, if_neg (Nat.not_le.2 few)]

theorem punchIn_late {s : State} {c : ControlId} {f : Frame} {l : Level} (unmet : ¬s.punchInAllowed c = true) :
    s.punchIn c f l = .done (s.latePunch c) := by
  rw [punchIn, if_neg unmet]

/-- A writing evaluation with no open segment attempts a punch-in (R86). -/
theorem withoutSegment_writes {s : State} {e : Evaluation} (writes : s.isWriting e = true) : s.withoutSegment e =
    s.settleWriter e .punchIn (s.punchIn e.control e.frame e.presented) := if_pos writes

theorem writerStep_punchIn {s : State} {c : ControlId} {f : Frame} (closed : s.segmentOf c = none) (writes : Writes s c f) :
    (s.chosen c f).writerStep (s.handedOver c f) = (s.chosen c f).settleWriter (s.handedOver c f) .punchIn
      ((s.chosen c f).punchIn c f (inputsAt s c f).choose.presented) := by
  have none : (s.chosen c f).segmentOf (s.handedOver c f).control = none := (s.chosen_segmentOf c f c).trans closed
  rw [writerStep_closed none, withoutSegment_writes ((s.isWriting_iff c f).2 writes)]
  rfl

end State

/-- Settles O22: by whether the store can take a punch-in, and by the slots it finds. -/
theorem punchInAttempt : Obligations.PunchInAttempt := by
  intro s c f due closed writes u level met
  have attempt := State.writerStep_punchIn closed writes
  have held : (inputsAt s c f).touch ≠ none := writes.1
  have allowed : (s.chosen c f).punchInAllowed c = true ↔ met := by
    rw [State.chosen_punchInAllowed, State.punchInAllowed_iff]
  refine ⟨fun a b rest able queue waiters => ?opens, fun able few => ?waits, fun unable => ?late⟩
  case opens =>
    have queue' : (s.chosen c f).store.freeQueue = a :: b :: rest := by rw [State.chosen_store, queue]
    have slots : 2 ≤ (s.chosen c f).slotsForPass := by
      simp [State.chosen_slotsForPass, State.slotsForPass_of_none waiters, queue]
    obtain ⟨taken, takes, taking, frame⟩ := State.openSegment_of_queue (c := c) (f := f) (l := level) queue'
    rw [State.punchIn_opens (allowed.2 able) slots takes, State.settleWriter_punchIn] at attempt
    have segments (d : ControlId) := taken.setSegment_segmentOf c d (some (Segment.opened c f level a b))
    have opened := taken.setSegment_eq c (some (Segment.opened c f level a b))
    generalize taken.setSegment c (some (Segment.opened c f level a b)) = v at attempt segments opened
    have left : v.totalFree ≠ 0 := by
      obtain ⟨_, _, free⟩ := able
      have same : v.totalFree = rest.length + s.store.memoryCount := by
        rw [opened, frame, ← s.chosen_store c f]
        rfl
      simp only [State.totalFree, queue, List.length_cons] at free
      omega
    have goesOn := State.controlEvaluation_endsWithSlots due attempt (.inr left)
    obtain ⟨pass, arbiter, engine, surface⟩ : v.pass = (s.chosen c f).pass ∧ v.arbiter = (s.chosen c f).arbiter ∧
        v.engine = (s.chosen c f).engine ∧ v.surface = u.surface := by
      rw [opened, frame]
      exact ⟨rfl, rfl, rfl, rfl⟩
    have done : State.WriterDone s v c f _ := .of_pass pass arbiter engine
    refine ⟨v.results (s.handedOver c f), goesOn, done.evaluationLeft fun q => State.surfaceOf_congr surface q,
      fun d => ?segment, State.slotsTaken_congr (State.slotsTaken_of_chosen taking) ?store ?editor, ?bar, ?flag, ?openFrame⟩
    case segment =>
      rw [State.results_segmentOf, segments, State.segmentOf_congr (s := s.chosen c f) (by rw [frame]),
        State.chosen_segmentOf]
      rfl
    case flag => rw [done.latePunch, Option.isSome_iff_ne_none.2 held, Bool.and_true]
    all_goals rw [State.results_eq, opened]
    case bar => rw [frame, ← s.chosen_writer c f]
    case openFrame =>
      rw [frame, State.chosen_store]
      rfl
  case waits =>
    refine State.controlEvaluation_waits due (attempt.trans ?_)
    have short : (s.chosen c f).slotsForPass < 2 := by
      rw [State.chosen_slotsForPass]
      exact (State.slotsForPass_lt_two_iff s).2 few
    rw [State.punchIn_waits (allowed.2 able) short]
    rfl
  case late =>
    intro reason
    rw [State.punchIn_late (mt allowed.1 unable), State.settleWriter_punchIn] at attempt
    have store : ((s.chosen c f).latePunch c).store = s.store := by
      rw [State.latePunch_eq, ← s.chosen_store c f]
    have goesOn := State.controlEvaluation_endsWithSlots due attempt (by
      rw [State.totalFree_congr store]
      exact Decidable.em _)
    have done := ((s.chosen c f).latePunch_resumptionDone (s.handedOver c f)).writerDone
    refine ⟨((s.chosen c f).latePunch c).results (s.handedOver c f), goesOn, done.evaluationLeft fun q => ?surface,
      done.latePunch, ?lateFrame⟩
    case surface =>
      have notice : (s.chosen c f).latePunchNotice c = reason := by
        simp only [State.latePunchNotice, State.spliceQueued, State.chosen_store]
        rfl
      have surface := State.latePunch_surfaceOf_congr (s := s.chosen c f) (u := u) rfl rfl c q
      rwa [notice, State.chosen_latePunch_held held] at surface
    case lateFrame =>
      rw [State.results_eq, State.latePunch_eq, State.chosen_eq]

end Sys2Proof.Machine
end

section
/-! SUPPORT. The step of a control with an open segment and no mode transition (R90 to R95): the level stands, the append
ends or waits, or the segment is truncated (O23). -/

namespace Sys2Proof.Machine
open Sys2Proof.Safety

namespace State

/-- With no mode transition the open segment goes on (R90). -/
theorem writerStep_continues {s : State} {c : ControlId} {f : Frame} {g : Segment} (opened : s.segmentOf c = some g)
    (steady : (inputsAt s c f).mode = (s.recordOf c).previousMode) :
    (s.chosen c f).writerStep (s.handedOver c f) = (s.chosen c f).continueSegment (s.handedOver c f) g := by
  have open_ : (s.chosen c f).segmentOf (s.handedOver c f).control = some g := (s.chosen_segmentOf c f c).trans opened
  have still : (s.handedOver c f).transition = false := by simp [handedOver_transition, steady]
  simp only [writerStep, open_, still]
  rfl

/-- At an equal level there is nothing to append, and only a glide's end closes the segment (R90, R95). -/
theorem continueSegment_equal {s : State} {e : Evaluation} {g : Segment} (equal : e.presented = g.lastLevel) :
    s.continueSegment e g = (s.closeAtGlideEnd e).finishEvaluation e := by
  simp only [continueSegment, settleWriter, if_pos equal, if_true]

theorem continueSegment_changed {s : State} {e : Evaluation} {g : Segment} (changed : e.presented ≠ g.lastLevel) :
    s.continueSegment e g = s.settleWriter e .append (s.append e g) := by
  simp only [continueSegment, if_neg changed]

theorem continueSegment_waits {s : State} {e : Evaluation} {g : Segment} {cause : WaitCause}
    (changed : e.presented ≠ g.lastLevel) (waits : s.append e g = .waits cause) :
    s.continueSegment e g = s.enterWait e cause .append := by
  rw [continueSegment_changed changed, waits]
  rfl

theorem continueSegment_truncates {s : State} {e : Evaluation} {g : Segment} (changed : e.presented ≠ g.lastLevel)
    (empty : s.totalFree = 0) : s.continueSegment e g = (s.truncate e g).finishEvaluation e := by
  have closed : (s.truncate e g).segmentOf e.control = none := by rw [truncate_segmentOf, if_pos rfl]
  rw [continueSegment_changed changed, append_empty empty, settleWriter, if_pos rfl, closeAtGlideEnd_closed closed]

theorem continueSegment_appends {s taken : State} {e : Evaluation} {g : Segment} {slot : Slot}
    (changed : e.presented ≠ g.lastLevel) (slots : s.slotsForPass ≠ 0) (room : s.appendRoom = true)
    (took : s.takeSlot = some (slot, taken)) :
    s.continueSegment e g = (taken.appended e g slot).finishEvaluation e := by
  rw [continueSegment_changed changed, append_done slots room took, settleWriter, if_pos rfl, closeAtGlideEnd_appended]
  rfl

theorem closeAtGlideEnd_notEnded {s : State} {e : Evaluation} (goesOn : e.glideEnded = false) :
    s.closeAtGlideEnd e = s := by
  unfold closeAtGlideEnd
  split
  · rw [goesOn]
    exact if_neg Bool.false_ne_true
  · rfl

/-- The notice of a truncation goes to the holder, which an untouched control has not (R93). -/
theorem truncate_chosen_surfaceOf (s : State) (c : ControlId) (f : Frame) (g : Segment) (q : SurfaceId) :
    ((s.chosen c f).truncate (s.handedOver c f) g).surfaceOf q =
      ((s.evaluationStep c f).noticeHolder c .truncated).surfaceOf q := by
  have notice := noticeHolder_surfaceOf_congr (s := s.evaluationStep c f) (t := s.chosen c f) rfl rfl c .truncated q
  rw [truncate_surfaceOf, ← notice]
  cases held : (s.handedOver c f).held with
  | true => rfl
  | false =>
    have untouched : (s.chosen c f).touchOf c = none := Option.isSome_eq_false_iff.1 held |> Option.isNone_iff_eq_none.1
    rw [noticeHolder_unheld _ untouched]
    rfl

/-- What a change of level comes to with a slot and room: the state before the results, and what the append has done. -/
structure AppendDone (s v : State) (c : ControlId) (f : Frame) (g : Segment) (slot : Slot) (rest : List Slot) : Prop where
  ends : (s.chosen c f).writerStep (s.handedOver c f) = v.finishEvaluation (s.handedOver c f)
  done : WriterDone s v c f ((s.recordOf c).latePunch && (inputsAt s c f).touch.isSome)
  segments : ∀ d, v.segmentOf d = if d = c then
    (if (inputsAt s c f).choose.glideEnded then none
      else some (appendedTo g f (inputsAt s c f).choose.presented slot)) else s.segmentOf d
  taken : SlotsTaken s v rest 1
  bar : v.writer.closeAllBar = s.writer.closeAllBar
  frame : v = { s.evaluationStep c f with
    pass := v.pass, writer := v.writer, editor := v.editor
    port := { (s.evaluationStep c f).port with
      requests := (s.evaluationStep c f).port.requests ++ [.append (some c) (tailWrite g slot)] }
    store := { s.store with
      freeQueue := rest, poolLow := v.store.poolLow, refill := v.store.refill
      spliceQueue := s.store.spliceQueue ++ (if (inputsAt s c f).choose.glideEnded then
        [{ segment := appendedTo g f (inputsAt s c f).choose.presented slot, closing := .complete }] else [])
      splice := if (inputsAt s c f).choose.glideEnded = true ∧ s.store.splice = .idle then .waiting
        else s.store.splice } }

theorem exists_appendDone {s : State} {c : ControlId} {f : Frame} {g : Segment} {slot : Slot} {rest : List Slot}
    (opened : s.segmentOf c = some g) (steady : (inputsAt s c f).mode = (s.recordOf c).previousMode)
    (changed : (inputsAt s c f).choose.presented ≠ g.lastLevel) (queue : s.store.freeQueue = slot :: rest)
    (waiters : s.closingWaiters = 0) (room : s.appendQueue.length < 64) : ∃ v, AppendDone s v c f g slot rest := by
  have slots : (s.chosen c f).slotsForPass ≠ 0 := by
    simp [chosen_slotsForPass, slotsForPass_eq_zero_iff, queue, waiters]
  have queue' : (s.chosen c f).store.freeQueue = slot :: rest := by rw [chosen_store, queue]
  obtain ⟨taken, took, taking, rest_⟩ := takeSlot_of_queue queue'
  have writes := taken.appended_eq (s.handedOver c f) g slot
  have ends := (writerStep_continues opened steady).trans
    (continueSegment_appends changed slots ((s.chosen_appendRoom c f).2 room) took)
  have segments := taken.appended_segmentOf (s.handedOver c f) g slot
  generalize taken.appended (s.handedOver c f) g slot = v at writes ends segments
  refine ⟨v, ends, .of_pass ?_ ?_ ?_, fun d => ?_, slotsTaken_congr (slotsTaken_of_chosen taking) ?_ ?_, ?_, ?_⟩
  · rw [writes, rest_]
  · rw [writes, rest_]
  · rw [writes, rest_]
  · rw [segments, segmentOf_congr (s := s.chosen c f) (by rw [rest_]), chosen_segmentOf]
    rfl
  · rw [writes]
  · rw [writes]
  · rw [writes, rest_, ← s.chosen_writer c f]
  · rw [writes, rest_, chosen_store]
    rfl

end State

/-- Settles O23: by the level, the total free count, the slots for the pass and the room of the append queue. -/
theorem appendStep : Obligations.AppendStep := by
  intro s c f g due opened steady u x y
  have step := State.writerStep_continues opened steady
  refine ⟨fun equal glides => ?equal, fun slot rest changed glides queue waiters room => ?appends,
    fun changed empty => ?truncates, fun changed some_ none_ => ?forSlot, fun changed some_ waiters full => ?forRoom⟩
  case equal =>
    have still : (s.chosen c f).closeAtGlideEnd (s.handedOver c f) = s.chosen c f := State.closeAtGlideEnd_notEnded glides
    rw [State.continueSegment_equal equal, still] at step
    have goesOn := State.controlEvaluation_endsWithSlots due step (by
      rw [State.chosen_totalFree]
      exact Decidable.em _)
    have done := s.chosen_writerDone c f
    refine ⟨(s.chosen c f).results (s.handedOver c f), goesOn, done.evaluationLeft fun _ => rfl, done.latePunch, ?_⟩
    rw [State.results_eq, State.chosen_eq]
  case appends =>
    obtain ⟨v, ends, done, segments, taken, bar, frame⟩ :=
      State.exists_appendDone opened steady changed queue waiters room
    have surface : v.surface = u.surface := by rw [frame]
    refine ⟨v.results (s.handedOver c f), State.controlEvaluation_ends due ends,
      done.evaluationLeft fun q => State.surfaceOf_congr surface q, done.latePunch, fun d => ?segment,
      State.slotsTaken_congr taken ?store ?editor, ?bar, ?port, ?frame⟩
    case segment =>
      rw [State.results_segmentOf, segments, glides]
      rfl
    all_goals rw [State.results_eq]
    case bar => exact bar
    case port => rw [frame]
    case frame =>
      have stays : (inputsAt s c f).choose.glideEnded = false := glides
      simp only [stays, Bool.false_eq_true, if_false, List.append_nil, false_and] at frame
      rw [frame]
  case truncates =>
    have none_ : (s.chosen c f).totalFree = 0 := by rw [State.chosen_totalFree, empty]
    rw [State.continueSegment_truncates changed none_] at step
    have goesOn := State.controlEvaluation_endsWithSlots due step (.inl empty)
    have done := ((s.chosen c f).truncate_resumptionDone (s.handedOver c f) g).writerDone
    refine ⟨((s.chosen c f).truncate (s.handedOver c f) g).results (s.handedOver c f), goesOn,
      done.evaluationLeft (s.truncate_chosen_surfaceOf c f g), ?flag, fun d => ?cut, ?cutBar, ?cutFrame⟩
    case flag =>
      rw [done.latePunch]
      have flag : ((s.chosen c f).recordOf (s.handedOver c f).control).latePunch = _ := s.chosen_latePunch c f
      rw [flag]
      show (_ && x.touch.isSome || x.touch.isSome) = x.touch.isSome
      cases x.touch.isSome <;> simp
    case cut =>
      rw [State.results_segmentOf, State.truncate_segmentOf, State.chosen_segmentOf]
      rfl
    all_goals rw [State.results_eq, State.truncate_eq]
    case cutBar =>
      show (s.chosen c f).writer.closeAllBar = _
      rw [State.chosen_writer]
    case cutFrame =>
      rw [← s.chosen_store c f]
      rfl
  case forSlot =>
    have left : (s.chosen c f).totalFree ≠ 0 := by rwa [State.chosen_totalFree]
    have slots : (s.chosen c f).slotsForPass = 0 := by
      rw [State.chosen_slotsForPass, (State.slotsForPass_eq_zero_iff s).2 none_]
    exact State.controlEvaluation_waits due
      (step.trans (State.continueSegment_waits changed (State.append_waitsForSlot left slots)))
  case forRoom =>
    have slots : (s.chosen c f).slotsForPass ≠ 0 := by
      simp [State.chosen_slotsForPass, State.slotsForPass_eq_zero_iff, some_, waiters]
    have noRoom : ¬(s.chosen c f).appendRoom = true := by
      rw [State.chosen_appendRoom]
      omega
    exact State.controlEvaluation_waits due
      (step.trans (State.continueSegment_waits changed (State.append_waitsForRoom slots noRoom)))

end Sys2Proof.Machine
end

section
/-! SUPPORT. The closes at a control's own evaluation (R95, R97): at a mode transition and at a glide's end, each the close of
the segment in the state that holds the evaluation's choice (O24). -/

namespace Sys2Proof.Machine
open Sys2Proof.Safety

namespace State

/-! ## The close does not read the pass -/

theorem takeSlot_setPass (s : State) (p : PassEngine) :
    { s with pass := p }.takeSlot = s.takeSlot.map (fun r => (r.1, { r.2 with pass := p })) := by
  unfold takeSlot
  cases s.store.freeQueue with
  | nil => rfl
  | cons slot rest =>
    simp only [requestRefill_spec, notePoolLow_spec]
    rfl

theorem closeSegment_setPass (s : State) (p : PassEngine) (c : ControlId) (g : Segment) (last : Frame) :
    { s with pass := p }.closeSegment c g last = { s.closeSegment c g last with pass := p } := by
  by_cases due : g.outFrame < last
  · by_cases none : s.closingWaiters ≠ 0 ∨ s.store.freeQueue = []
    · rw [closeSegment_withoutSlot due none, closeSegment_withoutSlot (s := { s with pass := p }) due none]
      rfl
    · obtain ⟨waiters, queued⟩ := not_or.1 none
      obtain ⟨slot, rest, queue⟩ := List.exists_cons_of_ne_nil queued
      obtain ⟨taken, took, -, -⟩ := takeSlot_of_queue (s := s.setSegment c .none) queue
      have took' : ({ s with pass := p }.setSegment c .none).takeSlot = some (slot, { taken with pass := p }) := by
        have moved := (s.setSegment c .none).takeSlot_setPass p
        rw [took] at moved
        exact moved
      rw [closeSegment_atOnce due (not_not.1 waiters) took,
        closeSegment_atOnce (s := { s with pass := p }) due (not_not.1 waiters) took']
      rfl
  · have undue := not_lt.1 due
    rw [closeSegment_undue (s := s) undue, closeSegment_undue (s := { s with pass := p }) undue]
    rfl

/-- With no evaluation under way no append waits on the segment, and a close from outside is the close alone (R78). -/
theorem closeOutside_free {s : State} {c : ControlId} {g : Segment} (opened : s.segmentOf c = some g)
    (free : s.pass.run.underWay = none) : s.closeOutside c = s.closeSegment c g (s.lastEvaluatedFrame c g) := by
  have waits : s.waitsAt c .append = false := by
    rw [Bool.eq_false_iff, Ne, waitsAt_iff]
    simp [free]
  simp only [closeOutside, opened, waits]
  rfl

theorem evaluationStep_opened {s : State} {c : ControlId} {f : Frame} {g : Segment} (opened : s.segmentOf c = some g) :
    (s.evaluationStep c f).segmentOf c = some g := (segmentOf_congr (by simp) c).trans opened

theorem evaluationStep_free {s : State} {c : ControlId} {f : Frame} (free : s.pass.run.underWay = none) :
    (s.evaluationStep c f).pass.run.underWay = none := by
  rw [evaluationStep_pass]
  exact free

/-- The close at a mode transition: at the last frame the control was evaluated at before (R97). -/
theorem chosen_closeSegment {s : State} {c : ControlId} {f : Frame} {g : Segment} (opened : s.segmentOf c = some g)
    (free : s.pass.run.underWay = none) :
    (s.chosen c f).closeSegment c g ((s.chosen c f).lastEvaluatedFrame c g) =
      { (s.evaluationStep c f).closeOutside c with pass := (s.chosen c f).pass } := by
  have last : (s.chosen c f).lastEvaluatedFrame c g = (s.evaluationStep c f).lastEvaluatedFrame c g := by
    rw [lastEvaluatedFrame, chosen_recordOf_self, lastEvaluatedFrame, recordOf_evaluationStep]
  rw [closeOutside_free (evaluationStep_opened opened) (evaluationStep_free free), last, chosen_eq, closeSegment_setPass]

/-- The close at a glide's end: at the frame of the pass (R95). -/
theorem chosen_closeSegment_at {s : State} {c : ControlId} {f : Frame} {g : Segment} (opened : s.segmentOf c = some g)
    (free : s.pass.run.underWay = none) :
    (s.chosen c f).closeSegment c g f = { closedAt (s.evaluationStep c f) c f with pass := (s.chosen c f).pass } := by
  have recorded {u : State} (open_ : u.segmentOf c = some g) (idle : u.pass.run.underWay = none) :
      closedAt u c f = { u.closeSegment c g f with pass := (closedAt u c f).pass } := by
    have close : closedAt u c f = _ :=
      closeOutside_free (s := u.setRecord c { u.recordOf c with evaluatedFrame := some f }) open_ idle
    have last : (u.setRecord c { u.recordOf c with evaluatedFrame := some f }).lastEvaluatedFrame c g = f := by
      rw [lastEvaluatedFrame, recordOf_setRecord_self]
      rfl
    have pass : (closedAt u c f).pass = (u.setRecord c { u.recordOf c with evaluatedFrame := some f }).pass := by
      rw [close]
      simp
    rw [pass, close, last]
    exact closeSegment_setPass u _ c g f
  rw [recorded (evaluationStep_opened opened) (evaluationStep_free free), chosen_eq, closeSegment_setPass]

/-! ## The step after a close at a mode transition (R67, R88, R89) -/

theorem writerStep_transition {s : State} {c : ControlId} {f : Frame} {g : Segment} (opened : s.segmentOf c = some g)
    (changes : (inputsAt s c f).mode ≠ (s.recordOf c).previousMode) :
    (s.chosen c f).writerStep (s.handedOver c f) =
      ((s.chosen c f).closeSegment c g ((s.chosen c f).lastEvaluatedFrame c g)).withoutSegment (s.handedOver c f) := by
  have open_ : (s.chosen c f).segmentOf (s.handedOver c f).control = some g := (s.chosen_segmentOf c f c).trans opened
  have moved : (s.handedOver c f).transition = true := by simp [handedOver_transition, changes]
  simp only [writerStep, open_, moved]
  rfl

theorem isWriting_congr {s t : State} {e : Evaluation} (bar : t.writer.closeAllBar = s.writer.closeAllBar)
    (safe : t.isSafe e.control = s.isSafe e.control) : t.isWriting e = s.isWriting e := by
  simp only [isWriting, bar, safe]

/-- After a close that leaves the pass and the bar, the evaluation writes as it would have before it. -/
theorem isWriting_closed {s v : State} {c : ControlId} {f : Frame} (pass : v.pass = (s.chosen c f).pass)
    (bar : v.writer.closeAllBar = s.writer.closeAllBar) : v.isWriting (s.handedOver c f) = true ↔ Writes s c f := by
  have bar' : v.writer.closeAllBar = (s.chosen c f).writer.closeAllBar := by rw [bar, chosen_writer]
  have safe : v.isSafe c = (s.chosen c f).isSafe c := isSafe_congr (by rw [pass]) (by rw [pass]) c
  rw [isWriting_congr bar' safe, isWriting_iff]

/-- The closed segment's splice is queued, and bars a punch-in of its control (R88, R97). -/
theorem spliceQueued_closeSegment (s : State) (c : ControlId) (g : Segment) (last : Frame) :
    (s.closeSegment c g last).spliceQueued g.control = true := by
  obtain ⟨e, queue, control, -⟩ := (s.setSegment c none).enqueueClosed_joins g
    (if g.outFrame < last then some last else none)
  have joined : (s.closeSegment c g last).store.spliceQueue = s.store.spliceQueue ++ [e] := queue
  simp [spliceQueued, joined, control]

theorem withoutSegment_late {s : State} {e : Evaluation} (writes : s.isWriting e = true)
    (queued : s.spliceQueued e.control = true) : s.withoutSegment e = (s.latePunch e.control).finishEvaluation e := by
  have unmet : ¬s.punchInAllowed e.control = true := by simp [punchInAllowed, queued]
  rw [withoutSegment_writes writes, punchIn_late unmet, settleWriter_punchIn]

theorem latePunchNotice_queued {s : State} {c : ControlId} (queued : s.spliceQueued c = true) :
    s.latePunchNotice c = .latePunch := by
  simp [latePunchNotice, queued]

theorem closeAtGlideEnd_ends {s : State} {e : Evaluation} {g : Segment} (opened : s.segmentOf e.control = some g)
    (ended : e.glideEnded = true) : s.closeAtGlideEnd e = s.closeSegment e.control g e.frame := by
  simp only [closeAtGlideEnd, opened, ended, if_true]

/-! ## What a close and a late punch after it have done -/

theorem closeSegment_writerDone (s : State) (c : ControlId) (f : Frame) (g : Segment) (last : Frame) :
    WriterDone s ((s.chosen c f).closeSegment c g last) c f
      ((s.recordOf c).latePunch && (inputsAt s c f).touch.isSome) :=
  .of_pass (by simp) (by simp) (by simp)

theorem closeSegment_chosen_surface (s : State) (c : ControlId) (f : Frame) (g : Segment) (last : Frame) :
    ((s.chosen c f).closeSegment c g last).surface = (s.evaluationStep c f).surface := by
  have kept : ((s.chosen c f).closeSegment c g last).surface = (s.chosen c f).surface := by simp
  exact kept

theorem latePunch_writerDone {s v : State} {c : ControlId} {f : Frame} (pass : v.pass = (s.chosen c f).pass)
    (arbiter : v.arbiter = (s.chosen c f).arbiter) (engine : v.engine = (s.chosen c f).engine) :
    WriterDone s (v.latePunch c) c f true := by
  refine ResumptionDone.writerDone ⟨?_, ?_, ?_⟩
  · rw [latePunch_eq]
    simp only [withLatePunch, setRecord, recordOf, pass]
    rfl
  · rw [latePunch_eq, arbiter]
  · rw [latePunch_eq, engine]

end State

/-- Settles O24: at a transition the close, then the step of a control with no open segment; at a glide's end the append, if
the level has changed, then the close. -/
theorem segmentClosesAtItsEvaluation : Obligations.SegmentClosesAtItsEvaluation := by
  intro s c f g due opened u x y
  have free : s.pass.run.underWay = none := due.2.1
  refine ⟨fun changes => ?transition, fun steady ended equal => ?glideEnds,
    fun slot rest steady ended changed queue waiters room => ?appends⟩
  case transition =>
    intro closed
    have step := State.writerStep_transition opened changes
    have frame := State.chosen_closeSegment (f := f) opened free
    have queued := (s.chosen c f).spliceQueued_closeSegment c g ((s.chosen c f).lastEvaluatedFrame c g)
    have done := s.closeSegment_writerDone c f g ((s.chosen c f).lastEvaluatedFrame c g)
    have surface := s.closeSegment_chosen_surface c f g ((s.chosen c f).lastEvaluatedFrame c g)
    generalize (s.chosen c f).closeSegment c g ((s.chosen c f).lastEvaluatedFrame c g) = v
      at step frame queued done surface
    have pass : v.pass = (s.chosen c f).pass := by rw [frame]
    have bar : v.writer.closeAllBar = s.writer.closeAllBar := by
      have writer : u.writer = s.writer := by simp [u]
      rw [frame, ← writer]
      exact (u.closeOutside_kept c).bar
    have writing : v.isWriting (s.handedOver c f) = true ↔ Writes s c f := State.isWriting_closed pass bar
    refine ⟨fun silent => ?silent, fun writes own => ?late⟩
    case silent =>
      rw [State.withoutSegment_idle (mt writing.1 silent), ← State.finishEvaluation_eq] at step
      refine ⟨v.results (s.handedOver c f), State.controlEvaluation_ends due step,
        done.evaluationLeft fun q => State.surfaceOf_congr surface q, done.latePunch, ?_⟩
      rw [State.results_eq, frame]
    case late =>
      have queued' : v.spliceQueued c = true := own ▸ queued
      rw [State.withoutSegment_late (writing.2 writes) queued'] at step
      have flag : (v.recordOf c).latePunch = (s.recordOf c).latePunch :=
        (congrArg EvalRecord.latePunch (State.recordOf_congr pass c)).trans (State.chosen_latePunch_held writes.1)
      have late : State.WriterDone s (v.latePunch c) c f true :=
        State.latePunch_writerDone pass done.arbiter (by rw [done.engine]; simp [State.chosen])
      refine ⟨(v.latePunch c).results (s.handedOver c f), State.controlEvaluation_ends due step,
        late.evaluationLeft fun q => ?lateSurface, late.latePunch, ?_⟩
      case lateSurface =>
        have told := State.latePunch_surfaceOf_congr (u := u) done.arbiter surface c q
        rwa [flag, State.latePunchNotice_queued queued'] at told
      rw [State.results_eq, State.latePunch_eq, frame]
  case glideEnds =>
    have step := State.writerStep_continues opened steady
    have open_ : (s.chosen c f).segmentOf (s.handedOver c f).control = some g := (s.chosen_segmentOf c f c).trans opened
    rw [State.continueSegment_equal equal, State.closeAtGlideEnd_ends open_ ended] at step
    have frame := State.chosen_closeSegment_at (f := f) opened free
    have done := s.closeSegment_writerDone c f g f
    have surface := s.closeSegment_chosen_surface c f g f
    refine ⟨((s.chosen c f).closeSegment c g f).results (s.handedOver c f), State.controlEvaluation_ends due step,
      done.evaluationLeft fun q => State.surfaceOf_congr surface q, done.latePunch, ?_⟩
    rw [State.results_eq, frame]
  case appends =>
    obtain ⟨v, ends, done, segments, taken, bar, frame⟩ :=
      State.exists_appendDone opened steady changed queue waiters room
    have ends' : (inputsAt s c f).choose.glideEnded = true := ended
    simp only [ends', if_true, true_and] at frame segments
    have surface : v.surface = u.surface := by rw [frame]
    refine ⟨v.results (s.handedOver c f), State.controlEvaluation_ends due ends,
      done.evaluationLeft fun q => State.surfaceOf_congr surface q, done.latePunch, fun d => ?segment,
      State.slotsTaken_congr taken ?store ?editor, ?bar, ?port, ?frame⟩
    case segment => rw [State.results_segmentOf, segments]
    all_goals rw [State.results_eq]
    case bar => exact bar
    case port => rw [frame]
    case frame => rw [frame]

end Sys2Proof.Machine
end

section
/-! SUPPORT. Record memory from step to step (R102, R126): a completed write writes one whole slot, and nothing else reaches
record memory. -/

namespace Sys2Proof.Machine
open Sys2Proof.Safety

/-- From one state to another record memory is kept, or one whole slot of it is written (R126, R198). -/
def WritesSlotAtMost (s t : State) : Prop :=
  t.memory = s.memory ∨ ∃ (slot : Slot) (r : Record), t.memory = Memory.writeSlot s.memory slot r

theorem WritesSlotAtMost.memoryCanonical {s t : State} (writes : WritesSlotAtMost s t) (canonical : MemoryCanonical s) :
    MemoryCanonical t := by
  obtain kept | ⟨slot, r, written⟩ := writes
  · exact (congrArg Memory.wf kept).trans canonical
  · exact (congrArg Memory.wf written).trans (Memory.wf_writeSlot slot r canonical)

theorem completeWrite_memory (s : State) (w : SlotRecord) :
    (s.completeWrite w).memory = Memory.writeSlot s.memory w.slot w.record := rfl

theorem completeFormat_memory (s : State) (slot : Slot) :
    (s.completeFormat slot).memory = Memory.writeSlot s.memory slot (formatRecord slot) := by
  unfold State.completeFormat
  dsimp only
  split
  · simp [completeWrite_memory]
  · rfl

/-- The commands that complete a write. -/
def completesWrite : Instr → Bool
  | .appendWriteComplete | .closingWriteComplete | .chainReturnWriteComplete | .spliceWriteComplete
  | .formatWriteComplete | .loadWriteComplete => true
  | _ => false

/-- The completion of a write writes its slot, if that write is the access in progress. -/
theorem exec_writesSlot {c : Instr} (s : State) (completes : completesWrite c = true) :
    ∃ t, exec c s = .next t ∧ WritesSlotAtMost s t := by
  cases c with
  | appendWriteComplete | chainReturnWriteComplete | loadWriteComplete =>
    simp only [exec, execAppendWriteComplete, execChainReturnWriteComplete, execLoadWriteComplete]
    split
    exacts [⟨_, rfl, .inr ⟨_, _, rfl⟩⟩, ⟨_, rfl, .inl rfl⟩]
  | closingWriteComplete =>
    simp only [exec, execClosingWriteComplete]
    split
    exacts [⟨_, rfl, .inr ⟨_, _, rfl⟩⟩, ⟨_, rfl, .inr ⟨_, _, rfl⟩⟩, ⟨_, rfl, .inl rfl⟩]
  | spliceWriteComplete =>
    simp only [exec, execSpliceWriteComplete]
    split
    · next w _ => exact ⟨_, rfl, .inr ⟨w.slot, w.record, by simp [completeWrite_memory]⟩⟩
    · exact ⟨_, rfl, .inl rfl⟩
  | formatWriteComplete =>
    simp only [exec, execFormatWriteComplete]
    split
    · exact ⟨_, rfl, .inr ⟨_, _, completeFormat_memory ..⟩⟩
    · exact ⟨_, rfl, .inl rfl⟩
  | _ => cases completes

/-- Every other command leaves record memory as it is. -/
theorem exec_memory {c : Instr} (s : State) (apart : completesWrite c = false) :
    ∃ t, exec c s = .next t ∧ t.memory = s.memory := by
  cases c with
  | appendWriteComplete | closingWriteComplete | chainReturnWriteComplete | spliceWriteComplete | formatWriteComplete
  | loadWriteComplete => cases apart
  | powerOnReset | blockStart | blockEnd | engineRead => exact ⟨_, rfl, rfl⟩
  | frameMark ok f m => exact ⟨_, rfl, by split <;> simp⟩
  | frameTimerExpiry | deferredClosingWork | loadRecordSlot | surfaceFrameReceived | editorFrameReceived =>
    exact ⟨_, rfl, by simp⟩
  | farHoldChange port raised => cases port <;> exact ⟨_, rfl, by simp⟩
  | touch | move | release | mode | query =>
    simp only [exec, execTouch, execMove, execRelease, execMode, execQuery]
    split
    · exact ⟨_, rfl, by simp [State.takeFader_frame]⟩
    · exact ⟨_, rfl, rfl⟩
  | controlEvaluation | evaluationResume | memoryGrant | refillReadComplete | fetchComplete | walkStart
  | walkReadComplete | spliceStart | spliceWalkReadComplete | loadReplacement | clearListEvent | listReadRequest
  | listReadComplete | silenceExpiry | surfaceFrameSent | bank | hello | editorSilenceExpiry | editorFrameSent
  | setControl | setStem | setSeat | setHub | listBegin | listRecord | listEnd | readList | clearList | status
  | clearFlags | mixReset | linkReset =>
    simp only [exec, execControlEvaluation, execEvaluationResume, execMemoryGrant, execRefillReadComplete,
      execFetchComplete, execWalkStart, execWalkReadComplete, execSpliceStart, execSpliceWalkReadComplete,
      execLoadReplacement, execClearListEvent, execListReadRequest, execListReadComplete, execSilenceExpiry,
      execSurfaceFrameSent, execBank, execHello,
      execEditorSilenceExpiry, execEditorFrameSent, execSetControl, execSetStem, execSetSeat, execSetHub,
      execListBegin, execListRecord, execListEnd, execReadList, execClearList, execStatus, execClearFlags,
      execMixReset, execLinkReset]
    split <;> exact ⟨_, rfl, by simp⟩

/-- A step writes one slot of record memory at most. -/
theorem step_writesSlotAtMost (s : State) : ∃ t, step s = .next t ∧ WritesSlotAtMost s t := by
  unfold step
  split
  · exact ⟨_, rfl, .inl rfl⟩
  · next c rest _ =>
    cases completes : completesWrite c with
    | true => exact exec_writesSlot { s with pending := rest } completes
    | false =>
      obtain ⟨t, next, kept⟩ := exec_memory { s with pending := rest } completes
      exact ⟨t, next, .inl kept⟩

/-- Settles O53: the one slot a step may write keeps the canonical form. -/
theorem stepKeepsMemoryCanonical : Obligations.StepKeepsMemoryCanonical := by
  intro s t canonical stepped
  obtain ⟨u, next, writes⟩ := step_writesSlotAtMost s
  rw [stepped] at next
  cases next
  exact writes.memoryCanonical canonical

end Sys2Proof.Machine
end

section
/-! SUPPORT. The record slot (R102, R198): the fields of a record read back from its sixteen bytes, and slots lie apart in
record memory. -/

namespace Sys2Proof.Machine
open Sys2Proof.Safety

/-! ## The fields of a record (R194, R198) -/

theorem byteOf_toNat (n : Nat) : (byteOf n).toNat = n % 256 := by simp [byteOf]

theorem number3_bytes3 {n : Nat} (fits : n < 16777216) :
    number3 (byteOf (n / 65536)) (byteOf (n / 256)) (byteOf n) = n := by
  simp only [number3, byteOf_toNat]
  omega

theorem number2_bytes2 {n : Nat} (fits : n < 65536) : number2 (byteOf (n / 256)) (byteOf n) = n := by
  simp only [number2, byteOf_toNat]
  omega

theorem signed2_levelBytes {l : Int} (low : -32768 ≤ l) (high : l < 32768) :
    signed2 (byteOf ((BitVec.ofInt 16 l).toNat / 256)) (byteOf (BitVec.ofInt 16 l).toNat) = l := by
  rw [signed2, number2_bytes2 (BitVec.ofInt 16 l).isLt, BitVec.ofNat_toNat, BitVec.setWidth_eq, BitVec.toInt_ofInt]
  exact Int.bmod_eq_of_le (by omega) (by omega)

theorem recordFlags_bits (r : Record) :
    (recordFlags r).getLsbD 0 = decide (r.kind = .gap) ∧ (recordFlags r).getLsbD 1 = r.last := by
  unfold recordFlags
  cases r.kind <;> cases r.last <;> decide

/-- Which bytes of a record each field is read from (R198). -/
theorem recordOfBytes_layout (r : Record) :
    recordOfBytes (fun i => (recordBytes r).getD i.val 0) =
      { frame := number3 (byteOf (r.frame / 65536)) (byteOf (r.frame / 256)) (byteOf r.frame)
        kind := if (recordFlags r).getLsbD 0 then .gap else .level
        level := if r.kind = .gap then 0 else
          signed2 (byteOf ((BitVec.ofInt 16 r.level).toNat / 256)) (byteOf (BitVec.ofInt 16 r.level).toNat)
        last := (recordFlags r).getLsbD 1
        next := if r.last then 0 else BitVec.ofNat 20
          (number3 (byteOf (r.next.toNat / 65536)) (byteOf (r.next.toNat / 256)) (byteOf r.next.toNat)) } := by
  obtain ⟨frame, kind, level, last, next⟩ := r
  cases kind <;> cases last <;>
    simp [recordOfBytes, recordBytes, bytes3, levelBytes, bytes2, signed2, number2, number3]

/-- A record's bytes hold its frame, kind, LAST, level and next slot, but that the level of a GAP and the next slot of the
last record are written as 0 (R198). -/
theorem recordOfBytes_recordBytes {r : Record} (frame : r.frame ≤ 16777215) (low : -4608 ≤ r.level)
    (high : r.level ≤ 384) :
    recordOfBytes (fun i => (recordBytes r).getD i.val 0) =
      { r with level := if r.kind = .gap then 0 else r.level, next := if r.last then 0 else r.next } := by
  obtain ⟨gapBit, lastBit⟩ := recordFlags_bits r
  have frameBack := number3_bytes3 (Nat.lt_succ_of_le frame)
  have levelBack := signed2_levelBytes ((by decide : (-32768 : Int) ≤ -4608).trans low)
    (lt_of_le_of_lt high (by decide : (384 : Int) < 32768))
  have nextBack := number3_bytes3 (lt_trans r.next.isLt (by decide))
  have kindBack : (if decide (r.kind = .gap) = true then RecordKind.gap else .level) = r.kind := by
    cases r.kind <;> rfl
  rw [recordOfBytes_layout, frameBack, levelBack, nextBack, gapBit, lastBit, kindBack, BitVec.ofNat_toNat,
    BitVec.setWidth_eq]

/-! ## Slots in record memory (R102) -/

namespace Memory

/-- Different slots share no byte. -/
theorem slotAddress_apart {slot other : Slot} (differs : other ≠ slot) :
    slotAddress other + 16 ≤ slotAddress slot ∨ slotAddress slot + 16 ≤ slotAddress other := by
  have numbers : other.toNat ≠ slot.toNat := fun same => differs (BitVec.eq_of_toNat_eq same)
  simp only [slotAddress]
  omega

/-- A slot's record is read from the slot's own bytes. -/
theorem readSlot_congr {m m' : Memory} {slot : Slot}
    (same : ∀ a, slotAddress slot ≤ a → a < slotAddress slot + 16 → read m' a = read m a) :
    readSlot m' slot = readSlot m slot := by
  unfold readSlot
  congr 1
  funext i
  exact same _ (Nat.le_add_right ..) (Nat.add_lt_add_left i.isLt _)

theorem read_writeSlot_inside {m : Memory} (rising : Rising m) (slot : Slot) (r : Record) (i : Fin 16) :
    read (writeSlot m slot r) (slotAddress slot + i.val) = (recordBytes r).getD i.val 0 := by
  rw [read_writeSlot rising, if_pos ⟨Nat.le_add_right .., Nat.add_lt_add_left i.isLt _⟩, Nat.add_sub_cancel_left]

theorem read_writeSlot_outside {m : Memory} (rising : Rising m) (slot : Slot) (r : Record) {a : Nat}
    (outside : a < slotAddress slot ∨ slotAddress slot + 16 ≤ a) : read (writeSlot m slot r) a = read m a := by
  rw [read_writeSlot rising, if_neg (by omega)]

theorem readSlot_writeSlot {m : Memory} (rising : Rising m) (slot : Slot) (r : Record) :
    readSlot (writeSlot m slot r) slot = recordOfBytes (fun i => (recordBytes r).getD i.val 0) := by
  simp only [readSlot, read_writeSlot_inside rising]

end Memory

/-- Settles O52: a slot reads back what its sixteen bytes hold, and no other slot holds any of them. -/
theorem recordSlotRoundTrip : Obligations.RecordSlotRoundTrip := by
  intro m slot r canonical frame low high
  have rising := Memory.rising_of_wf canonical
  refine ⟨?readsBack, fun a outside => Memory.read_writeSlot_outside rising slot r outside, fun other differs => ?others⟩
  case readsBack => rw [Memory.readSlot_writeSlot rising, recordOfBytes_recordBytes frame low high]
  case others =>
    have apart := Memory.slotAddress_apart differs
    exact Memory.readSlot_congr fun a above below => Memory.read_writeSlot_outside rising slot r (by omega)

end Sys2Proof.Machine
end

section
/-! SUPPORT. The memory port arbiter (R108, R126, R127): which requests are presented, and which of them is granted. -/

namespace Sys2Proof.Machine
open Sys2Proof.Safety

theorem MemRequest.priority_mem (r : MemRequest) : r.priority ∈ [1, 2, 3, 4, 5, 6, 7] := by
  cases r with
  | chainReturn kind w => cases kind <;> simp [priority]
  | _ => simp [priority]

/-- The search for a request's priority finds the request, if none before it has that priority or a higher one. -/
theorem find?_priority {before after : List MemRequest} {r : MemRequest}
    (above : ∀ q ∈ before, r.priority < q.priority) :
    (before ++ r :: after).find? (fun q => q.priority == r.priority) = some r := by
  have none_ : before.find? (fun q => q.priority == r.priority) = none := by
    rw [List.find?_eq_none]
    intro q stands
    simpa using (above q stands).ne'
  simp [none_]

/-- The search for a priority above that of the split finds nothing. -/
theorem find?_priority_above {before after : List MemRequest} {r : MemRequest} {p : Nat} (higher : p < r.priority)
    (above : ∀ q ∈ before, r.priority < q.priority) (below : ∀ q ∈ after, r.priority ≤ q.priority) :
    (before ++ r :: after).find? (fun q => q.priority == p) = none := by
  rw [List.find?_eq_none]
  intro q stands
  have atLeast : r.priority ≤ q.priority := by
    obtain first | rfl | last := by simpa using stands
    exacts [(above q first).le, le_rfl, below q last]
  simpa using (higher.trans_le atLeast).ne'

/-- Over rising priorities, the search stops at the priority of the split. -/
theorem findSome?_priority {before after : List MemRequest} {r : MemRequest} {ps : List Nat}
    (rising : ps.Pairwise (· < ·)) (listed : r.priority ∈ ps) (above : ∀ q ∈ before, r.priority < q.priority)
    (below : ∀ q ∈ after, r.priority ≤ q.priority) :
    ps.findSome? (fun p => (before ++ r :: after).find? (fun q => q.priority == p)) = some r := by
  induction ps with
  | nil => cases listed
  | cons p ps ih =>
    obtain ⟨first, rest⟩ := List.pairwise_cons.1 rising
    rw [List.findSome?_cons]
    obtain rfl | later := List.mem_cons.1 listed
    · rw [find?_priority above]
    · rw [find?_priority_above (first _ later) above below]
      exact ih rest later

/-- The arbiter's choice is the first request of the highest priority (R126). -/
theorem chooseRequest_eq {before after : List MemRequest} {r : MemRequest}
    (above : ∀ q ∈ before, r.priority < q.priority) (below : ∀ q ∈ after, r.priority ≤ q.priority) : chooseRequest (before ++ r :: after) = some r :=
  findSome?_priority (by decide) r.priority_mem above below

theorem chooseRequest_nil : chooseRequest [] = none := rfl

namespace State

/-- A read is held back just while a write of its slot has not completed (R108, R127). -/
theorem heldBack_eq_false_iff (s : State) (r : MemRequest) : s.heldBack r = false ↔
    ∀ slot, r.readSlot = some slot → ∀ w ∈ s.port.access.toList ++ s.port.requests, w.writeSlot ≠ some slot := by
  unfold heldBack writePosted
  cases r.readSlot with
  | none => simp
  | some slot => simp [outstanding, or_imp, forall_and]

theorem mem_impliedRequests_iff (s : State) (r : MemRequest) : r ∈ s.impliedRequests ↔
    (s.store.refill = .requested ∧ r = .refill s.store.freeHead) ∨
      (∃ slot, s.store.storeState = .formatting slot ∧ r = .format slot) := by
  unfold impliedRequests
  cases s.store.storeState <;> by_cases requested : s.store.refill = .requested <;> simp [requested]

theorem mem_presented_iff (s : State) (r : MemRequest) : r ∈ s.presented ↔
    (r ∈ s.port.requests ∨ (s.store.refill = .requested ∧ r = .refill s.store.freeHead) ∨
      (∃ slot, s.store.storeState = .formatting slot ∧ r = .format slot)) ∧
    ∀ slot, r.readSlot = some slot → ∀ w ∈ s.port.access.toList ++ s.port.requests, w.writeSlot ≠ some slot := by
  rw [← mem_impliedRequests_iff, ← heldBack_eq_false_iff]
  simp [presented, or_and_right]

/-- A granted access begins: the request leaves the list, and a refill is bound to its slot (R108, R126). -/
theorem beginAccess_eq (s : State) (r : MemRequest) : s.beginAccess r = { s with
    port := { requests := s.port.requests.erase r, access := some r }
    store := { s.store with refill := match r with
      | .refill slot => .reading slot true
      | _ => s.store.refill } } := by
  cases r <;> rfl

end State

/-- Settles O27: the list of priorities is searched in rising order, so the split of the presented requests at the first of
the highest priority is where the search stops. -/
theorem grantChooses : Obligations.GrantChooses := by
  refine ⟨fun s idle => ?idle, fun s before after r free split above below => ?grants,
    fun s r => State.mem_presented_iff s r, fun o c w slot live => ?requests⟩
  case idle =>
    simp only [exec, execMemoryGrant]
    obtain busy | nothing := idle
    · split
      · next free _ => exact absurd free busy
      · rfl
    · rw [nothing, chooseRequest_nil]
      cases s.port.access <;> rfl
  case grants =>
    simp only [exec, execMemoryGrant, free, split, chooseRequest_eq above below]
    exact congrArg Host.Outcome.next (State.beginAccess_eq s r)
  case requests =>
    refine ⟨by simp [MemRequest.priority], ?reads, ?writes, rfl, rfl⟩
    case reads => simp [MemRequest.readSlot, MemRequest.writeSlot]
    case writes => simp [MemRequest.readSlot, MemRequest.writeSlot]

end Sys2Proof.Machine
end

section
/-! SUPPORT. The questions asked of a state, each as the fields it reads (R14, R18, R40, R98, R99, R113, R131, R194). -/

namespace Sys2Proof.Machine
open Sys2Proof.Safety

/-- Requests of one form: a question that just they answer is answered where one of them stands. -/
theorem any_iff_exists_form {ι : Type} {form : ι → MemRequest} {asks : MemRequest → Bool} (l : List MemRequest)
    (answers : ∀ r, asks r = true ↔ ∃ i, r = form i) : l.any asks = true ↔ ∃ i, form i ∈ l := by
  rw [List.any_eq_true]
  constructor
  · rintro ⟨r, stands, asked⟩
    obtain ⟨i, rfl⟩ := (answers r).1 asked
    exact ⟨i, stands⟩
  · rintro ⟨i, stands⟩
    exact ⟨_, stands, (answers _).2 ⟨i, rfl⟩⟩

/-! ## Flags and masters -/

/-- A bit of a byte with one bit, or none, set. -/
theorem bitByte_getLsbD (b : Bool) (i : Nat) {j : Nat} (inByte : j < 8) :
    (State.bitByte b i).getLsbD j = (b && decide (i = j)) := by
  cases b
  · simp [State.bitByte]
  · simp only [State.bitByte, byteOf, if_true, BitVec.getLsbD_ofNat, inByte, Nat.testBit_two_pow, decide_true]

/-- The masters of a path are its group fields' masters, each once (R18). -/
theorem mem_mastersOf_iff (x : ControlConfig) (m : MasterId) :
    m ∈ mastersOf x ↔ x.groupA = some m ∨ x.groupB = some m := by
  unfold mastersOf
  split
  · next a b => simp [a, b]
  · next a b => simp [a, b, eq_comm]
  · next a b => simp [a, b, eq_comm]
  · next first second a b =>
    by_cases same : first = second
    · simp [a, b, same, eq_comm]
    · simp [a, b, same, eq_comm]

theorem mastersOf_nodup (x : ControlConfig) : (mastersOf x).Nodup := by
  unfold mastersOf
  split
  · exact List.nodup_nil
  · exact List.nodup_singleton _
  · exact List.nodup_singleton _
  · split
    · exact List.nodup_singleton _
    · next differ => simpa using differ

namespace State

/-- A bit of the flag set is set by the one flag that stands there (R194). -/
theorem flagSet_getLsbD (s : State) {j : Nat} (inByte : j < 8) : s.flagSet.getLsbD j =
    (s.tracker.lockLost && decide (0 = j) || s.tracker.passOverrun && decide (1 = j) ||
      s.store.poolLow && decide (2 = j) ||
      (s.surfaceOf 0).linkDown && decide (3 = j) || (s.surfaceOf 1).linkDown && decide (4 = j) ||
      (s.surfaceOf 2).linkDown && decide (5 = j) || (s.surfaceOf 3).linkDown && decide (6 = j)) := by
  simp only [flagSet, BitVec.getLsbD_or, bitByte_getLsbD _ _ inByte]

theorem flagSet_linkDown (s : State) (p : SurfaceId) : s.flagSet.getLsbD (3 + p.val) = (s.surfaceOf p).linkDown := by
  rw [flagSet_getLsbD s (by omega)]
  fin_cases p <;> simp

/-! ## Ports and paths -/

theorem visible_iff (s : State) (p : SurfaceId) (c : ControlId) : s.visible p c = true ↔
    ∃ i : SeatId, (s.seatOf i).link = some p ∧ (s.seatOf i).bankBase ≤ c.val ∧
      c.val ≤ (s.seatOf i).bankBase + 31 := by
  simp [visible, seatShows]

/-! ## The splice queue -/

theorem spliceQueued_iff (s : State) (c : ControlId) :
    s.spliceQueued c = true ↔ ∃ e ∈ s.store.spliceQueue, e.segment.control = c := by
  simp [spliceQueued]

theorem spliceRunning_iff (s : State) (c : ControlId) : s.spliceRunning c = true ↔
    ∃ e rest a, s.store.spliceQueue = e :: rest ∧ e.segment.control = c ∧
      (s.store.splice = .walking a ∨ s.store.splice = .writing a) := by
  unfold spliceRunning
  split
  · next a e rest splice queue => simp [splice, queue]
  · next a e rest splice queue => simp [splice, queue]
  · next walks writes =>
    refine iff_of_false Bool.false_ne_true ?_
    rintro ⟨e, rest, a, queue, -, splice | splice⟩
    · exact walks a e rest splice queue
    · exact writes a e rest splice queue

theorem closingWaiters_eq_zero_iff (s : State) :
    s.closingWaiters = 0 ↔ ∀ e ∈ s.store.spliceQueue, ∀ f, e.closing ≠ .waitingSlot f := by
  refine ⟨fun none_ e queued f waits => ?_, closingWaiters_eq_zero⟩
  have served := List.countP_eq_zero.1 none_ e queued
  simp [waits] at served

/-! ## Requests, walks and reads in flight -/

theorem fetchInFlight_iff (s : State) (c : ControlId) : s.fetchInFlight c = true ↔
    ∃ slot, MemRequest.fetch c slot ∈ s.port.access.toList ++ s.port.requests := by
  unfold fetchInFlight
  exact any_iff_exists_form _ fun r => by cases r <;> simp

theorem walkInFlight_iff (s : State) (c : ControlId) :
    s.walkInFlight c = true ↔ ∃ w, s.cursors.walk = some w ∧ w.control = c := by
  unfold walkInFlight
  cases s.cursors.walk <;> simp

theorem cursorBusy_iff (s : State) (c : ControlId) : s.cursorBusy c = true ↔
    (∃ slot, MemRequest.fetch c slot ∈ s.port.access.toList ++ s.port.requests) ∨
      ∃ w, s.cursors.walk = some w ∧ w.control = c := by
  rw [cursorBusy, Bool.or_eq_true, fetchInFlight_iff, walkInFlight_iff]

theorem readOf_iff (s : State) (c : ControlId) : s.readOf c = true ↔ ∃ r, s.editor.read = some r ∧ r.control = c := by
  unfold readOf
  cases s.editor.read <;> simp

end State

/-- Settles O3: each question is answered from the fields it names. -/
theorem questionsAnswered : Obligations.QuestionsAnswered := fun s c p =>
  ⟨rfl, s.visible_iff p c, s.isSafe_iff c,
    fun m => ⟨mem_mastersOf_iff _ m, List.nodup_iff_count_le_one.1 (mastersOf_nodup _) m, rfl⟩,
    s.spliceQueued_iff c, s.spliceRunning_iff c, s.closingWaiters_eq_zero_iff, rfl, rfl, s.fetchInFlight_iff c,
    by simp only [s.flagSet_getLsbD (show 0 < 8 by decide)]; simp,
    by simp only [s.flagSet_getLsbD (show 1 < 8 by decide)]; simp,
    by simp only [s.flagSet_getLsbD (show 2 < 8 by decide)]; simp, s.flagSet_linkDown p,
    by simp only [s.flagSet_getLsbD (show 7 < 8 by decide)]; simp⟩

end Sys2Proof.Machine
end

section
/-! SUPPORT. Chain returns (R100, R109): a return with free contents, and the discard of an open segment. -/

namespace Sys2Proof.Machine
open Sys2Proof.Safety

namespace State

/-- The write of a chain return: the chain's last slot, linked to the free list head, its other fields free values (R109;
log 8). -/
def returnWrite (s : State) (last : Slot) : SlotRecord :=
  { slot := last, record := { s.returnContents with last := false, next := s.store.freeHead } }

/-- A chain return reaches the free list, the refill, the posted requests and the count of free values (R109). -/
theorem returnChain_eq (s : State) (kind : ReturnKind) (first last : Slot) (length : Nat) :
    s.returnChain kind first last length = { s with
      store := { s.store with
        freeHead := first, memoryCount := s.store.memoryCount + length, refill := refillAfterReturn s.store length }
      port := { s.port with requests := s.port.requests ++ [.chainReturn kind (s.returnWrite last)] }
      freeDraws := s.freeDraws + 1 } := by
  rw [returnChain, chainReturn_spec]
  rfl

theorem returnChain_totalFree (s : State) (kind : ReturnKind) (first last : Slot) (length : Nat) :
    (s.returnChain kind first last length).totalFree = s.totalFree + length := by
  simp only [returnChain_eq, totalFree, Nat.add_assoc]

/-- The discard of an open segment (R100). -/
theorem discardSegment_opened {s : State} {c : ControlId} {g : Segment} (opened : s.segmentOf c = some g) :
    s.discardSegment c = State.returnChain { s.setSegment c none with port :=
      { requests := s.port.requests.map (MemRequest.disown c) ++ [.closing none (tailWrite g g.reserve)]
        access := s.port.access.map (MemRequest.disown c) } } .discard g.first g.reserve g.count := by
  simp only [discardSegment, opened]
  rfl

end State

/-- Settles O33: a return is a chain return with the free contents drawn, and a discard is a return of the disowned
segment's chain. -/
theorem chainsReturn : Obligations.ChainsReturn := by
  refine ⟨fun s kind first last length => ?returns, fun s c => ⟨fun closed => ?closed, fun g opened => ?opened⟩⟩
  case returns =>
    refine ⟨?_, s.returnChain_totalFree kind first last length, ⟨(s.returnWrite last).record, rfl, rfl, ?_⟩, ?_⟩
    · rw [State.returnChain_eq]
    · rw [State.returnChain_eq]
      rfl
    · rw [State.returnChain_eq]
  case closed => simp only [State.discardSegment, closed]
  case opened =>
    intro disown posted
    have same : disown = MemRequest.disown c := by
      funext r
      cases r <;> rfl
    simp only [posted, same]
    exact State.discardSegment_opened opened

end Sys2Proof.Machine
end

section
/-! SUPPORT. The splice up to its writes (R99, R113 to R117): when the head segment's splice starts, what its walk makes of a
record, and the writes it posts. -/

namespace Sys2Proof.Machine
open Sys2Proof.Safety

namespace State

/-! ## The start (R99, R113, R114) -/

theorem writesFor_outstanding_iff (s : State) (c : ControlId) : s.outstanding.any (MemRequest.writesFor c) = true ↔
    ∃ w, MemRequest.append (some c) w ∈ s.port.access.toList ++ s.port.requests ∨
      MemRequest.closing (some c) w ∈ s.port.access.toList ++ s.port.requests := by
  rw [List.any_eq_true]
  constructor
  · rintro ⟨r, stands, writes⟩
    cases r with
    | append o w =>
      obtain rfl : o = some c := by simpa [MemRequest.writesFor] using writes
      exact ⟨w, .inl stands⟩
    | closing o w =>
      obtain rfl : o = some c := by simpa [MemRequest.writesFor] using writes
      exact ⟨w, .inr stands⟩
    | _ => cases writes
  · rintro ⟨w, stands | stands⟩
    · exact ⟨_, stands, by simp [MemRequest.writesFor]⟩
    · exact ⟨_, stands, by simp [MemRequest.writesFor]⟩

/-- The splice of the head segment may start when the segment is ready and nothing of its control is in flight. -/
theorem spliceMayStart_iff (s : State) (e : ClosedSegment) : s.spliceMayStart e = true ↔
    (s.store.splice = .idle ∨ s.store.splice = .waiting) ∧ e.closing = .complete ∧
    s.outstanding.any (MemRequest.writesFor e.segment.control) = false ∧ s.cursorBusy e.segment.control = false ∧
    s.readOf e.segment.control = false := by
  simp [spliceMayStart, readyForSplice, and_assoc]

theorem spliceStart_none {s : State} (none_ : s.spliceDue = none) : exec .spliceStart s = .next s := by
  simp only [exec, execSpliceStart, none_]

theorem spliceDue_waits {s : State} {e : ClosedSegment} {rest : List ClosedSegment}
    (queue : s.store.spliceQueue = e :: rest) (waits : ¬s.spliceMayStart e = true) : s.spliceDue = none := by
  simp only [spliceDue, queue, if_neg waits]

theorem spliceStart_starts {s : State} {e : ClosedSegment} {rest : List ClosedSegment}
    (queue : s.store.spliceQueue = e :: rest) (mayStart : s.spliceMayStart e = true) :
    exec .spliceStart s = .next (s.startSplice e.segment) := by
  simp only [exec, execSpliceStart, spliceDue, queue, if_pos mayStart]

/-! ## The writes (R117) -/

theorem postWrites_eq (l : List SlotRecord) (s : State) : l.foldl (fun x w => x.postRequest (.spliceWrite w)) s =
    { s with port := { s.port with requests := s.port.requests ++ l.map .spliceWrite } } := by
  induction l generalizing s with
  | nil => simp
  | cons w l ih =>
    rw [List.foldl_cons, ih]
    simp [postRequest]

theorem beginWrites_eq (s : State) (g : Segment) (a : SpliceAnswer) : s.beginWrites g a = { s with
    store := { s.store with splice := .writing a }
    port := { s.port with requests := s.port.requests ++ (a.writes g).map .spliceWrite } } := by
  rw [beginWrites, postWrites_eq]
  rfl

end State

/-- The reserve slot resumes the old value just where the segment ends before the last frame and N does not follow at
once (R116). -/
theorem SpliceAnswer.usesReserve_iff (a : SpliceAnswer) (g : Segment) : a.usesReserve g = true ↔
    g.outFrame < 16777215 ∧ ∀ n, a.n = some n → n.record.frame ≠ g.outFrame + 1 := by
  unfold usesReserve
  cases a.n <;> simp

theorem Record.linked_eq (r : Record) (link : Option Slot) :
    r.linked link = { r with last := link.isNone, next := link.getD 0 } := by
  cases link <;> rfl

theorem SpliceAnswer.resume_eq (a : SpliceAnswer) (g : Segment) : a.resume g =
    { frame := g.outFrame + 1, kind := if a.oldValue.isSome then .level else .gap, level := a.oldValue.getD 0,
      last := false, next := 0 } := by
  unfold resume
  cases a.oldValue <;> rfl

/-- The write that leads P to the segment's first slot (R117). -/
def SlotRecord.relinked (r : SlotRecord) (g : Segment) : SlotRecord :=
  { slot := r.slot, record := { r.record with last := false, next := g.first } }

/-- The writes: the held tail, the resume record if the reserve slot is used, and P if there is one (R117). -/
theorem SpliceAnswer.writes_eq (a : SpliceAnswer) (g : Segment) : a.writes g =
    [a.tailWrite g] ++ (if a.usesReserve g then [{ slot := g.reserve, record := (a.resume g).linked a.nSlot }] else []) ++
      a.p.toList.map (fun r => r.relinked g) := by
  unfold writes
  cases a.p <;> rfl

/-- Settles O30: the start's guard is the head segment's readiness with nothing of its control in flight. -/
theorem spliceStarts : Obligations.SpliceStarts := by
  refine ⟨?starts, ?waits, ?empty⟩
  case starts =>
    intro s g rest queue idle requests walk read parked
    have mayStart : s.spliceMayStart { segment := g, closing := .complete } = true := by
      refine (s.spliceMayStart_iff _).2 ⟨idle, rfl, ?_, ?_, ?_⟩
      · rw [Bool.eq_false_iff, ne_eq, State.writesFor_outstanding_iff]
        rintro ⟨w, stands | stands⟩
        exacts [(requests _ stands w 0).1 rfl, (requests _ stands w 0).2.1 rfl]
      · rw [Bool.eq_false_iff, ne_eq, State.cursorBusy_iff]
        rintro (⟨slot, stands⟩ | ⟨w, walks, same⟩)
        exacts [(requests _ stands ⟨0, formatRecord 0⟩ slot).2.2 rfl, walk w walks same]
      · rw [Bool.eq_false_iff, ne_eq, State.readOf_iff]
        rintro ⟨r, reads, same⟩
        exact read r reads same
    rw [State.spliceStart_starts queue mayStart]
    refine ⟨fun some_ => ?_, fun none_ => ?_⟩
    · have notEmpty : ¬s.listEmpty g.control = true := by simpa [State.listEmpty] using some_
      rw [State.startSplice, if_neg notEmpty]
      rfl
    · have listEmpty : s.listEmpty g.control = true := by simpa [State.listEmpty] using none_
      rw [State.startSplice, if_pos listEmpty, State.beginWrites_eq]
      rfl
  case waits =>
    intro s e rest queue c blocked
    refine State.spliceStart_none (State.spliceDue_waits queue fun mayStart => ?_)
    obtain ⟨idle, complete, noWrite, notBusy, noRead⟩ := (s.spliceMayStart_iff e).1 mayStart
    rw [Bool.eq_false_iff, ne_eq, State.writesFor_outstanding_iff] at noWrite
    rw [Bool.eq_false_iff, ne_eq, State.cursorBusy_iff] at notBusy
    rw [Bool.eq_false_iff, ne_eq, State.readOf_iff] at noRead
    obtain unready | ⟨a, running⟩ | ⟨w, slot, request⟩ | walks | reads := blocked
    · exact unready complete
    · obtain splice | splice := idle <;> simp [splice] at running
    · obtain appends | closes | fetches := request
      exacts [noWrite ⟨w, .inl appends⟩, noWrite ⟨w, .inr closes⟩, notBusy (.inl ⟨slot, fetches⟩)]
    · exact notBusy (.inr walks)
    · exact noRead reads
  case empty =>
    intro s queue
    exact State.spliceStart_none (by simp only [State.spliceDue, queue])

/-! ## The walk (R115, R116) -/

/-- Settles O31: the answer after one more record is `classify`'s, and the writes follow from the answer. -/
theorem spliceWalkReads : Obligations.SpliceWalkReads := by
  refine ⟨?walk, ?writes⟩
  case walk =>
    intro s slot a e rest access splice queue g r value found
    have classified : a.classify g { slot := slot, record := r } = found := by
      simp only [SpliceAnswer.classify, Record.value, found, value]
      cases a.run <;> rfl
    have completes : exec .spliceWalkReadComplete s =
        .next (s.endAccess.walkSplice g a { slot := slot, record := r }) := by
      simp only [exec, execSpliceWalkReadComplete, access, State.completeSpliceRead, splice, queue]
      rfl
    rw [completes]
    refine ⟨fun noN more => ?_, fun ends => ?_⟩
    · have goesOn : ¬(found.n.isSome = true ∨ r.last = true) := by simp [noN, more]
      rw [State.walkSplice]
      simp only [classified, if_neg goesOn]
      rfl
    · have done : found.n.isSome = true ∨ r.last = true := by simpa [Option.isSome_iff_ne_none] using ends
      rw [State.walkSplice]
      simp only [classified, if_pos done, State.beginWrites_eq]
      rfl
  case writes =>
    intro a g resumes after tail resume relinked
    have leads : a.p.toList.map (fun r => r.relinked g) = relinked := by
      simp only [relinked]
      cases a.p <;> rfl
    have uses := a.usesReserve_iff g
    refine ⟨fun holds => ?_, fun fails => ?_⟩
    · rw [SpliceAnswer.writes_eq, leads, SpliceAnswer.tailWrite, if_pos (uses.2 holds), if_pos (uses.2 holds),
        SpliceAnswer.resume_eq, Record.linked_eq, Record.linked_eq]
      rfl
    · rw [SpliceAnswer.writes_eq, leads, SpliceAnswer.tailWrite, if_neg (fails ∘ uses.1), if_neg (fails ∘ uses.1),
        Record.linked_eq]
      rfl

end Sys2Proof.Machine
end

section
/-! SUPPORT. The completion of a splice (R109, R118, R138): the returns, the new descriptor, the queue and the cursor. -/

namespace Sys2Proof.Machine
open Sys2Proof.Safety

namespace State

/-! ## A return beside a descriptor -/

theorem returnChain_setList (s : State) (c : ControlId) (d : Descriptor) (kind : ReturnKind) (first last : Slot)
    (length : Nat) : (s.setList c d).returnChain kind first last length =
      (s.returnChain kind first last length).setList c d := by
  rw [returnChain_eq, returnChain_eq]
  rfl

/-- The state after the removed run has returned, if there is one (R118). -/
def returnRun (s : State) (a : SpliceAnswer) : State :=
  match a.run with
  | some x => s.returnChain .splice x.first x.last x.length
  | none => s

/-- The removed run returns first, then a reserve slot that no resume record took (R118). -/
theorem returnSpliced_eq (s : State) (g : Segment) (a : SpliceAnswer) : s.returnSpliced g a =
    if a.usesReserve g then s.returnRun a else (s.returnRun a).returnChain .splice g.reserve g.reserve 1 := rfl

theorem returnRun_setList (s : State) (c : ControlId) (d : Descriptor) (a : SpliceAnswer) :
    (s.setList c d).returnRun a = (s.returnRun a).setList c d := by
  unfold returnRun
  cases a.run with
  | none => rfl
  | some x => exact returnChain_setList ..

theorem returnSpliced_setList (s : State) (c : ControlId) (d : Descriptor) (g : Segment) (a : SpliceAnswer) :
    (s.setList c d).returnSpliced g a = (s.returnSpliced g a).setList c d := by
  rw [returnSpliced_eq, returnSpliced_eq, returnRun_setList]
  split
  · rfl
  · exact returnChain_setList ..

theorem returnRun_totalFree (s : State) (a : SpliceAnswer) : (s.returnRun a).totalFree = s.totalFree + a.removed := by
  unfold returnRun SpliceAnswer.removed
  cases a.run with
  | none => rfl
  | some x => exact returnChain_totalFree ..

theorem returnRun_descriptors (s : State) (a : SpliceAnswer) :
    (s.returnRun a).store.descriptors = s.store.descriptors := by
  unfold returnRun
  cases a.run with
  | none => rfl
  | some x => exact congrArg (fun u => u.store.descriptors) (returnChain_eq ..)

theorem returnSpliced_descriptors (s : State) (g : Segment) (a : SpliceAnswer) :
    (s.returnSpliced g a).store.descriptors = s.store.descriptors := by
  rw [returnSpliced_eq]
  split
  · exact returnRun_descriptors s a
  · rw [returnChain_eq, returnRun_descriptors]

/-! ## The completion -/

/-- What a splice leaves beside the returns: the descriptor, the queue and the relocated cursor (R118, R138). -/
theorem completeSplice_eq (s : State) (g : Segment) (a : SpliceAnswer) (rest : List ClosedSegment) :
    s.completeSplice g a rest =
      let u := s.returnSpliced g a
      let d := a.descriptor g (s.listOf g.control)
      let relocated := (s.cursorOf g.control).relocated (d.count == 0)
      { u with
        cursors := { s.cursors with table := tset s.cursors.table g.control relocated }
        store := { u.store with
          descriptors := tset s.store.descriptors g.control d
          spliceQueue := rest
          splice := if rest = [] then .idle else .waiting } } := by
  have splice : (if rest.isEmpty = true then SpliceState.idle else .waiting) =
      if rest = [] then SpliceState.idle else .waiting := by
    cases rest <;> rfl
  have cursors : (s.returnSpliced g a).cursors = s.cursors := by simp
  simp only [completeSplice, returnSpliced_setList, splice]
  simp only [relocateOne, listEmpty, listOf, cursorOf, setCursor, setList, setSplice, setSpliceQueue, cursors,
    returnSpliced_descriptors, tget_tset_self]

theorem completeSplice_listOf (s : State) (g : Segment) (a : SpliceAnswer) (rest : List ClosedSegment) (d : ControlId) :
    (s.completeSplice g a rest).listOf d =
      if g.control = d then a.descriptor g (s.listOf g.control) else s.listOf d := by
  simp only [completeSplice_eq, listOf, tget_tset]

theorem completeSplice_cursorOf (s : State) (g : Segment) (a : SpliceAnswer) (rest : List ClosedSegment) (d : ControlId) :
    (s.completeSplice g a rest).cursorOf d = if g.control = d then
      (s.cursorOf d).relocated ((a.descriptor g (s.listOf g.control)).count == 0) else s.cursorOf d := by
  simp only [completeSplice_eq, cursorOf, tget_tset]
  split
  · next same => rw [same]
  · rfl

theorem completeSplice_totalFree (s : State) (g : Segment) (a : SpliceAnswer) (rest : List ClosedSegment) :
    (s.completeSplice g a rest).totalFree = (s.returnSpliced g a).totalFree := by
  rw [completeSplice_eq]
  rfl

theorem spliceWriteOutstanding_iff (s : State) : s.spliceWriteOutstanding = true ↔
    ∃ v, MemRequest.spliceWrite v ∈ s.port.access.toList ++ s.port.requests := by
  unfold spliceWriteOutstanding
  exact any_iff_exists_form _ fun r => by cases r <;> simp

theorem spliceWritten_eq {s : State} {a : SpliceAnswer} {e : ClosedSegment} {rest : List ClosedSegment}
    (splice : s.store.splice = .writing a) (queue : s.store.spliceQueue = e :: rest) :
    s.spliceWritten = if s.spliceWriteOutstanding then s else s.completeSplice e.segment a rest := by
  simp only [spliceWritten, splice, queue]

end State

/-! ## The descriptor (R118) -/

theorem SpliceAnswer.descriptor_head (a : SpliceAnswer) (g : Segment) (old : Descriptor) :
    (a.descriptor g old).head = if a.p = none then g.first else old.head := by
  simp [descriptor]

theorem SpliceAnswer.descriptor_tail_of_n {a : SpliceAnswer} (g : Segment) (old : Descriptor) (found : a.n ≠ none) :
    (a.descriptor g old).tail = old.tail :=
  if_pos (Option.isSome_iff_ne_none.2 found)

theorem SpliceAnswer.descriptor_tail_of_end {a : SpliceAnswer} (g : Segment) (old : Descriptor) (ended : a.n = none) :
    (a.descriptor g old).tail = if a.usesReserve g then g.reserve else g.tail.slot := by
  simp [descriptor, ended]

theorem Cursor.relocated_nonempty (x : Cursor) : x.relocated false = { x with state := .relocating, target := none } := rfl

/-- Settles O32: a write that is not the last leaves a splice write outstanding; the last one completes the splice. -/
theorem spliceWriteCompletes : Obligations.SpliceWriteCompletes := by
  intro s w a e rest access splice queue g c written resumes removed returned
  have completes : exec .spliceWriteComplete s =
      .next (if written.spliceWriteOutstanding then written else written.completeSplice g a rest) := by
    rw [← State.spliceWritten_eq (s := written) splice queue]
    simp only [exec, execSpliceWriteComplete, access]
    rfl
  have outstanding : written.spliceWriteOutstanding = true ↔ ∃ v, MemRequest.spliceWrite v ∈ s.port.requests :=
    written.spliceWriteOutstanding_iff
  have uses : a.usesReserve g = true ↔ resumes := a.usesReserve_iff g
  have run : returned = written.returnRun a := by
    cases found : a.run <;> simp [returned, State.returnRun, found]
  have length : removed = a.removed := by
    cases found : a.run <;> simp [removed, SpliceAnswer.removed, found]
  refine ⟨fun more => ?notLast, fun none_ => ?last, fun canonical => State.completeWrite_keepsMemoryBut canonical w⟩
  case notLast => rw [completes, if_pos (outstanding.2 more)]
  case last =>
    have done : ¬written.spliceWriteOutstanding = true := fun more => (outstanding.1 more).elim none_
    have reserveUsed (holds : resumes) : written.returnSpliced g a = returned := by
      rw [State.returnSpliced_eq, if_pos (uses.2 holds), run]
    have reserveUnused (fails : ¬resumes) :
        written.returnSpliced g a = returned.returnChain .splice g.reserve g.reserve 1 := by
      rw [State.returnSpliced_eq, if_neg (fails ∘ uses.1), run]
    have returnedFree : returned.totalFree = s.totalFree + removed := by
      rw [run, length]
      exact written.returnRun_totalFree a
    have list : (written.completeSplice g a rest).listOf c = a.descriptor g (s.listOf c) := by
      rw [State.completeSplice_listOf, if_pos rfl]
      rfl
    refine ⟨written.completeSplice g a rest, written.returnSpliced g a, by rw [completes, if_neg done], reserveUsed,
      reserveUnused, ?head, ?tailKept, ?tailReserve, ?tailHeld, ?used, ?unused, ?nothing, ?others, ?walk, ?cursor, ?frame⟩
    case head => rw [list, SpliceAnswer.descriptor_head]
    case tailKept =>
      intro found
      rw [list, SpliceAnswer.descriptor_tail_of_n g _ found]
    case tailReserve =>
      intro ended holds
      rw [list, SpliceAnswer.descriptor_tail_of_end g _ ended, if_pos (uses.2 holds)]
    case tailHeld =>
      intro ended fails
      rw [list, SpliceAnswer.descriptor_tail_of_end g _ ended, if_neg (fails ∘ uses.1)]
    case used =>
      intro holds
      rw [list, State.completeSplice_totalFree, reserveUsed holds, returnedFree, length]
      simp [SpliceAnswer.descriptor, SpliceAnswer.kept, uses.2 holds]
    case unused =>
      intro fails
      rw [list, State.completeSplice_totalFree, reserveUnused fails, State.returnChain_totalFree, returnedFree, length]
      simp [SpliceAnswer.descriptor, SpliceAnswer.kept, mt uses.1 fails]
    case nothing =>
      intro noRun holds
      have kept : written.returnSpliced g a = written := by
        rw [reserveUsed holds, run, State.returnRun, noRun]
      rw [State.completeSplice_eq, kept]
      exact ⟨rfl, rfl⟩
    case others =>
      intro d other
      rw [State.completeSplice_listOf, State.completeSplice_cursorOf, if_neg (Ne.symm other), if_neg (Ne.symm other)]
      exact ⟨rfl, rfl⟩
    case walk => rw [State.completeSplice_eq]
    case cursor =>
      intro some_
      rw [list] at some_
      have relocates : ((a.descriptor g (written.listOf g.control)).count == 0) = false := beq_false_of_ne some_
      rw [State.completeSplice_cursorOf, if_pos rfl, relocates, Cursor.relocated_nonempty]
      rfl
    case frame => rw [State.completeSplice_eq]

end Sys2Proof.Machine
end

section
/-! SUPPORT. Lists, loads and clears at the store (R107, R109, R121, R122, R124): a list replaced by another and its cursor
relocated, a record linked into a load, and the events that wait. -/

namespace Sys2Proof.Machine
open Sys2Proof.Safety

/-! ## A list that is replaced (R109, R122, R124) -/

namespace State

theorem listReturned_empty {s : State} {c : ControlId} (none_ : (s.listOf c).count = 0) : listReturned s c = s :=
  if_pos none_

theorem listReturned_nonempty {s : State} {c : ControlId} (some_ : (s.listOf c).count ≠ 0) : listReturned s c =
    s.returnChain .list (s.listOf c).head (s.listOf c).tail (s.listOf c).count :=
  if_neg some_

/-- The return of a list reaches the store, the memory port and the count of free values. -/
theorem listReturned_frame (s : State) (c : ControlId) : listReturned s c = { s with
    store := { (listReturned s c).store with descriptors := s.store.descriptors }
    port := (listReturned s c).port
    freeDraws := (listReturned s c).freeDraws } := by
  by_cases none_ : (s.listOf c).count = 0
  · rw [listReturned_empty none_]
  · rw [listReturned_nonempty none_, returnChain_eq]

theorem listReturned_totalFree (s : State) (c : ControlId) :
    (listReturned s c).totalFree = s.totalFree + (s.listOf c).count := by
  by_cases none_ : (s.listOf c).count = 0
  · rw [listReturned_empty none_, none_, Nat.add_zero]
  · rw [listReturned_nonempty none_, returnChain_totalFree]

theorem listReturned_freeHead {s : State} {c : ControlId} (some_ : (s.listOf c).count ≠ 0) :
    (listReturned s c).store.freeHead = (s.listOf c).head := by
  rw [listReturned_nonempty some_, returnChain_eq]

/-- The state with a control's list returned, another in its place, and its cursor relocated (R122, R124). -/
def relisted (s : State) (c : ControlId) (d : Descriptor) : State := ((listReturned s c).setList c d).relocateOne c

theorem relisted_eq (s : State) (c : ControlId) (d : Descriptor) : s.relisted c d = { s with
    store := { (listReturned s c).store with descriptors := tset s.store.descriptors c d }
    port := (listReturned s c).port
    cursors := { s.cursors with table := tset s.cursors.table c ((s.cursorOf c).relocated (d.count == 0)) }
    freeDraws := (listReturned s c).freeDraws } := by
  simp only [relisted, relocateOne, listEmpty, listOf, setList, setCursor, tget_tset_self]
  rw [listReturned_frame]
  rfl

theorem clearStore_eq (s : State) (c : ControlId) : s.clearStore c = s.relisted c Descriptor.empty := rfl

end State

/-- The list that a load leaves when it has ended (R122). -/
def Load.list (l : Load) : Descriptor :=
  { head := l.first.getD 0, tail := (l.tail.map (fun x => x.slot)).getD 0, count := l.received }

namespace State

theorem replaceList_eq (s : State) (l : Load) : s.replaceList l = (s.relisted l.control l.list).setLoad none := by
  have commutes (d : Descriptor) : (s.setList l.control d).returnList (s.listOf l.control) =
      (listReturned s l.control).setList l.control d := by
    unfold returnList listReturned
    split
    · rfl
    · exact returnChain_setList ..
  simp only [replaceList, commutes]
  rfl

end State

/-- In t the list of a control is d, the list it had in s has returned, and its cursor is relocated; the other lists and
cursors and the walk are those of s (R109, R122, R124). -/
structure RelistedTo (s t : State) (c : ControlId) (d : Descriptor) : Prop where
  list : t.listOf c = d
  cursor : t.cursorOf c = (s.cursorOf c).relocated (d.count == 0)
  others : ∀ k, k ≠ c → t.listOf k = s.listOf k ∧ t.cursorOf k = s.cursorOf k
  totalFree : t.totalFree = s.totalFree + (s.listOf c).count
  freeHead : (s.listOf c).count ≠ 0 → t.store.freeHead = (s.listOf c).head
  walk : t.cursors.walk = s.cursors.walk

/-- What holds of a relisted state holds with any load, and with any ports, beside it. -/
theorem RelistedTo.of_blocks {s t : State} {c : ControlId} {d : Descriptor}
    (store : t.store = { (s.relisted c d).store with load := t.store.load })
    (cursors : t.cursors = (s.relisted c d).cursors) : RelistedTo s t c d := by
  rw [State.relisted_eq] at store cursors
  have descriptors : t.store.descriptors = tset s.store.descriptors c d := by rw [store]
  have lists (k : ControlId) : t.listOf k = if c = k then d else s.listOf k := by
    simp only [State.listOf, descriptors, tget_tset]
  have table (k : ControlId) : t.cursorOf k =
      if c = k then (s.cursorOf c).relocated (d.count == 0) else s.cursorOf k := by
    simp only [State.cursorOf, cursors, tget_tset]
  refine ⟨(lists c).trans (if_pos rfl), (table c).trans (if_pos rfl), fun k other =>
    ⟨(lists k).trans (if_neg other.symm), (table k).trans (if_neg other.symm)⟩, ?_, fun some_ => ?_, by rw [cursors]⟩
  · rw [← State.listReturned_totalFree, State.totalFree, store]
    rfl
  · rw [store]
    exact State.listReturned_freeHead some_

/-! ## A record linked into a load (R121) -/

/-- The load with one more record as its held tail, its level clamped, or 0 for GAP (R4, R121; log 27). -/
def Load.extended (l : Load) (slot : Slot) (r : LoadRecord) : Load :=
  { l with
    received := l.received + 1
    first := some (l.first.getD slot)
    tail := some { slot := slot, record :=
      if r.kind = 1#8 then { frame := r.frame, kind := .gap, level := 0, last := false, next := 0 }
      else { frame := r.frame, kind := .level, last := false, next := 0
             level := if 384 < r.level then 384 else if r.level ≤ -4608 then -4608 else r.level } }
    lastFrame := r.frame }

/-- The write of a load's held tail, if it has one, linked to the slot of the next record (R121). -/
def Load.tailWrites (l : Load) (slot : Slot) : List MemRequest :=
  l.tail.toList.map (fun x => .loadWrite { slot := x.slot, record := { x.record with last := false, next := slot } })

namespace State

theorem linkLoadRecord_eq (s : State) (l : Load) (slot : Slot) (r : LoadRecord) : s.linkLoadRecord l slot r = { s with
    store := { s.store with load := some (l.extended slot r) }
    port := { s.port with requests := s.port.requests ++ l.tailWrites slot } } := by
  unfold linkLoadRecord Load.tailWrites
  cases l.tail with
  | none =>
    simp only [Option.toList_none, List.map_nil, List.append_nil]
    rfl
  | some x => rfl

theorem slotsTaken_linked {s taken : State} {rest : List Slot} {n : Nat} (slots : SlotsTaken s taken rest n) (l : Load)
    (slot : Slot) (r : LoadRecord) : SlotsTaken s (taken.linkLoadRecord l slot r) rest n := by
  rw [linkLoadRecord_eq]
  exact slots

/-- Whether a record waits at the editor port says nothing of the slots taken. -/
theorem slotsTaken_served {s t : State} {rest : List Slot} {n : Nat} (slots : SlotsTaken s t rest n) :
    SlotsTaken { s with editor := { s.editor with waitingRecord := none } }
      (t.setEditor { t.editor with waitingRecord := none }) rest n := by
  obtain ⟨free, count, refill, low, editor⟩ := slots
  refine ⟨free, count, refill, low, ?_⟩
  simp only [setEditor, editor]

/-- A load may take a slot when one stands in the queue and no consumer before it waits (R107; log 13). -/
theorem slotsForLoad_eq_zero_iff (s : State) : s.slotsForLoad = 0 ↔
    s.store.freeQueue = [] ∨ s.closingWaiters ≠ 0 ∨ s.pass.run.wait = some .freeSlot := by
  unfold slotsForLoad
  split
  · next waits => simp [waits]
  · next free => simp [slotsForPass_eq_zero_iff, free]

theorem slotsForLoad_pos {s : State} {slot : Slot} {rest : List Slot} (queue : s.store.freeQueue = slot :: rest)
    (waiters : s.closingWaiters = 0) (wait : s.pass.run.wait ≠ some .freeSlot) : 1 ≤ s.slotsForLoad := by
  refine Nat.one_le_iff_ne_zero.2 fun none_ => ?_
  obtain empty | waits | waits := s.slotsForLoad_eq_zero_iff.1 none_
  · simp [queue] at empty
  · exact waits waiters
  · exact wait waits

/-! ## The events that wait (R122, R124, R183) -/

theorem loadWriteOutstanding_iff (s : State) : s.loadWriteOutstanding = true ↔
    ∃ w, MemRequest.loadWrite w ∈ s.port.access.toList ++ s.port.requests := by
  unfold loadWriteOutstanding
  exact any_iff_exists_form _ fun r => by cases r <;> simp

/-- The replacement step waits for LIST END, the load's writes, and a fetch or walk of the control (R122). -/
theorem replacementReady_iff (s : State) (l : Load) : s.replacementReady l = true ↔
    l.endTaken = true ∧ (¬∃ w, MemRequest.loadWrite w ∈ s.port.access.toList ++ s.port.requests) ∧
    ¬((∃ slot, MemRequest.fetch l.control slot ∈ s.port.access.toList ++ s.port.requests) ∨
      ∃ w, s.cursors.walk = some w ∧ w.control = l.control) := by
  rw [← loadWriteOutstanding_iff, ← cursorBusy_iff]
  simp [replacementReady, and_assoc]

theorem loadReplacement_stays {s : State} (none_ : s.replacementDue = none) : exec .loadReplacement s = .next s := by
  simp only [exec, execLoadReplacement, none_]

theorem loadReplacement_goesOn {s : State} {l : Load} (load : s.store.load = some l)
    (ready : s.replacementReady l = true) :
    GoesOnTo (exec .loadReplacement s) ((s.replaceList l).postReserved .load (.done kindListEnd)) := by
  simp only [exec, execLoadReplacement, replacementDue, load, if_pos ready]
  exact goesOn_transmitEditor _

theorem replacement_relists (s : State) (l : Load) :
    RelistedTo s ((s.replaceList l).postReserved .load (.done kindListEnd)) l.control l.list := by
  rw [replaceList_eq]
  exact .of_blocks rfl rfl

/-- The slot of a waiting record: taken from the queue, and the record linked into its load (R121, R183). -/
theorem serveLoadRecord_serves {s taken : State} {l : Load} {r : LoadRecord} {slot : Slot}
    (waits : s.editor.waitingRecord = some r) (load : s.store.load = some l) (took : s.takeSlot = some (slot, taken))
    (slots : 1 ≤ s.slotsForLoad) : s.serveLoadRecord =
      (taken.linkLoadRecord l slot r).setEditor { taken.editor with waitingRecord := none } := by
  simp only [serveLoadRecord, waits, load, took, if_pos slots]
  rw [linkLoadRecord_eq]

theorem serveLoadRecord_stays {s : State} (stays : s.slotsForLoad = 0 ∨ s.editor.waitingRecord = none) :
    s.serveLoadRecord = s := by
  unfold serveLoadRecord
  split
  · next r l slot taken waits _ _ =>
    have none_ : ¬1 ≤ s.slotsForLoad := by
      obtain none_ | idle := stays
      · omega
      · simp [idle] at waits
    rw [if_neg none_]
  · rfl

theorem loadRecordSlot_stays {s : State} (stays : s.serveLoadRecord = s) : GoesOnTo (exec .loadRecordSlot s) s := by
  have kept : s.serveLoadRecord.settlePool s = s := by rw [stays, settlePool_of_store rfl]
  show GoesOnTo (.next (s.serveLoadRecord.settlePool s).transmitAll) s
  rw [kept]
  exact goesOn_transmitAll s

theorem clearListEvent_stays {s : State} (none_ : s.clearDue = none) : exec .clearListEvent s = .next s := by
  simp only [exec, execClearListEvent, none_]

/-- The state after the event of CLEAR LIST: the list cleared, and DONE in the reserved place (R188). -/
def cleared (s : State) (c : ControlId) : State :=
  ((s.clearStore c).setEditor { (s.clearStore c).editor with clear := none }).postReserved .clear (.done kindClearList)

theorem clearListEvent_goesOn {s : State} {c : ControlId} (clears : s.editor.clear = some c)
    (free : ¬s.cursorBusy c = true) : GoesOnTo (exec .clearListEvent s) (s.cleared c) := by
  simp only [exec, execClearListEvent, clearDue, clears, if_neg free]
  exact goesOn_transmitEditor _

theorem cleared_relists (s : State) (c : ControlId) : RelistedTo s (s.cleared c) c Descriptor.empty := .of_blocks rfl rfl

theorem cleared_eq (s : State) (c : ControlId) : s.cleared c = { s.relisted c Descriptor.empty with
    editor := { s.editor with
      clear := none
      replies := s.editor.replies.erase (.reserved .clear) ++ [.held (.done kindClearList)] } } := by
  rw [cleared, clearStore_eq, relisted_eq]
  rfl

end State
end Sys2Proof.Machine
end

section
/-! SUPPORT. The replacement step, a waiting LIST RECORD, and the event of CLEAR LIST (R107, R121, R122, R124, R183, R184,
R188). -/

namespace Sys2Proof.Machine
open Sys2Proof.Safety

/-- Settles O34: both events relist a control, and a waiting record is served as LIST RECORD itself is. -/
theorem loadAndClearEvents : Obligations.LoadAndClearEvents := by
  refine ⟨⟨?replaces, ?noLoad, ?loadWaits, ?served, ?recordWaits, ?noRecord⟩, ?clears, ?clearWaits, ?noClear⟩
  case replaces =>
    intro s l load ended requests walk
    have ready : s.replacementReady l = true := by
      refine (s.replacementReady_iff l).2 ⟨ended, ?_, ?_⟩
      · rintro ⟨w, stands⟩
        exact (requests _ stands w 0).1 rfl
      · rintro (⟨slot, stands⟩ | ⟨w, walks, same⟩)
        exacts [(requests _ stands ⟨0, formatRecord 0⟩ slot).2 rfl, walk w walks same]
    have goesOn := State.loadReplacement_goesOn load ready
    have relists := s.replacement_relists l
    refine ⟨_, goesOn, relists.list, relists.others, relists.totalFree, relists.freeHead, ?returned, ?relocates,
      relists.walk, ?posted, ?frame⟩
    case relocates =>
      intro some_
      have relocates : (l.list.count == 0) = false := beq_false_of_ne some_
      rw [relists.cursor, relocates, Cursor.relocated_nonempty]
    case returned =>
      rw [State.replaceList_eq, State.relisted_eq]
      exact ⟨rfl, rfl, rfl⟩
    all_goals
      rw [State.replaceList_eq, State.relisted_eq]
      rfl
  case noLoad =>
    intro s none_
    exact State.loadReplacement_stays (by simp only [State.replacementDue, none_])
  case loadWaits =>
    intro s l load waits
    refine State.loadReplacement_stays ?_
    have unready : ¬s.replacementReady l = true := by
      rw [State.replacementReady_iff]
      rintro ⟨ended, noWrite, free⟩
      obtain unended | writes | engaged := waits
      exacts [absurd ended (by simp [unended]), noWrite writes, free engaged]
    simp only [State.replacementDue, load, if_neg unready]
  case served =>
    intro s l r slot rest waits load queue waiters wait
    obtain ⟨taken, took, slots, frame⟩ := State.takeSlot_of_queue queue
    have serves := State.serveLoadRecord_serves waits load took (State.slotsForLoad_pos queue waiters wait)
    refine ⟨s.serveLoadRecord, goesOn_transmitAll _, ?_, ?_, ?_, ?_⟩
    all_goals rw [serves]
    · rw [State.linkLoadRecord_eq]
      exact State.slotsTaken_served slots
    all_goals rw [State.linkLoadRecord_eq, frame]
    · rfl
    · cases tail : l.tail <;> simp [State.setEditor, Load.tailWrites, tail]
    · rfl
  case recordWaits =>
    intro s none_
    exact State.loadRecordSlot_stays (State.serveLoadRecord_stays (.inl (s.slotsForLoad_eq_zero_iff.2 none_)))
  case noRecord =>
    intro s idle
    exact State.loadRecordSlot_stays (State.serveLoadRecord_stays (.inr idle))
  case clears =>
    intro s c clears some_ requests walk
    have free : ¬s.cursorBusy c = true := by
      rw [State.cursorBusy_iff]
      rintro (⟨slot, stands⟩ | ⟨w, walks, same⟩)
      exacts [requests _ stands slot rfl, walk w walks same]
    have relists := s.cleared_relists c
    refine ⟨s.cleared c, State.clearListEvent_goesOn clears free, relists.list, relists.cursor, relists.others,
      relists.totalFree, relists.freeHead some_, ?storeReturned, relists.walk, ?donePosted, ?otherBlocks⟩
    all_goals rw [State.cleared_eq, State.relisted_eq]
    case storeReturned => exact ⟨rfl, rfl, rfl⟩
  case clearWaits =>
    intro s c clears engaged
    have busy : s.cursorBusy c = true := (s.cursorBusy_iff c).2 engaged
    exact State.clearListEvent_stays (by simp only [State.clearDue, clears, if_pos busy])
  case noClear =>
    intro s none_
    exact State.clearListEvent_stays (by simp only [State.clearDue, none_])

end Sys2Proof.Machine
end

section
/-! SUPPORT. The list-read stream (R114, R125, R187): when it requests its next record, and what it makes of one. -/

namespace Sys2Proof.Machine
open Sys2Proof.Safety

namespace State

theorem listReadOutstanding_iff (s : State) : s.listReadOutstanding = true ↔
    ∃ slot live, MemRequest.listRead slot live ∈ s.port.access.toList ++ s.port.requests := by
  unfold listReadOutstanding
  exact (any_iff_exists_form (form := fun i : Slot × Bool => .listRead i.1 i.2) _ fun r => by cases r <;> simp).trans
    Prod.exists

/-- One read at a time, with a place for its record, and none while a splice of the control runs (R114, R187). -/
theorem readDue_eq {s : State} {r : ListRead} (reads : s.editor.read = some r) (away : r.atPort = false)
    (room : s.editor.replies.length < 16)
    (none_ : ¬∃ slot live, MemRequest.listRead slot live ∈ s.port.access.toList ++ s.port.requests)
    (still : ¬s.spliceRunning r.control = true) : s.readDue = some r := by
  rw [← listReadOutstanding_iff, Bool.not_eq_true] at none_
  have due : r.atPort = false ∧ s.listReadOutstanding = false ∧ 1 ≤ s.editor.room ∧
      s.spliceRunning r.control = false :=
    ⟨away, none_, Nat.sub_pos_of_lt room, by simpa using still⟩
  simp only [readDue, reads, if_pos due]

theorem listReadRequest_goesOn {s : State} {r : ListRead} (due : s.readDue = some r) :
    GoesOnTo (exec .listReadRequest s) (s.requestListRead r) := by
  simp only [exec, execListReadRequest, due]
  exact goesOn_transmitEditor _

/-- The end of a stream: the read is no more, and END stands in its place (R187). -/
theorem endRead_eq (s : State) (r : ListRead) : s.endRead r = { s with editor := { s.editor with
    read := none
    replies := s.editor.replies.erase (.reserved .read) ++ [.held (.endOfRead r.count)] } } := rfl

/-- The request of a record at a slot: its place, the read at the port, and the posted read (R187). -/
def recordRequested (s : State) (r : ListRead) (slot : Slot) : State := { s with
  editor := { s.editor with
    replies := s.editor.replies ++ [.reserved .record], read := some { r with atPort := true } }
  port := { s.port with requests := s.port.requests ++ [.listRead slot true] } }

theorem requestListRead_next {s : State} {r : ListRead} {slot : Slot} (next : r.next = some slot) :
    s.requestListRead r = s.recordRequested r slot := by
  simp only [requestListRead, recordRequested, next]
  rfl

theorem requestListRead_first {s : State} {r : ListRead} (first : r.next = none)
    (some_ : (s.listOf r.control).count ≠ 0) : s.requestListRead r = s.recordRequested r (s.listOf r.control).head := by
  have notEmpty : ¬s.listEmpty r.control = true := by simpa [listEmpty] using some_
  simp only [requestListRead, recordRequested, first, if_neg notEmpty]
  rfl

theorem requestListRead_empty {s : State} {r : ListRead} (first : r.next = none)
    (none_ : (s.listOf r.control).count = 0) : s.requestListRead r = s.endRead r := by
  have empty : s.listEmpty r.control = true := by simpa [listEmpty] using none_
  simp only [requestListRead, first, if_pos empty]

/-! ## A record of the stream (R125) -/

theorem streamRecord_above {s : State} {r : ListRead} {x : SlotRecord} (above : r.toFrame < x.record.frame) :
    s.streamRecord r x = (s.releasePlace .record).endRead r := by
  simp only [streamRecord, if_pos above]

/-- A record up to the range's end: posted if in the range, else its place released; and LAST ends the stream (log 22). -/
theorem streamRecord_upTo {s : State} {r : ListRead} {x : SlotRecord} (upTo : x.record.frame ≤ r.toFrame) :
    s.streamRecord r x =
      let n := if r.fromFrame ≤ x.record.frame then r.count + 1 else r.count
      let u := if r.fromFrame ≤ x.record.frame then
          s.postReserved .record (.record x.record.frame x.record.kind x.record.level)
        else s.releasePlace .record
      if x.record.last then u.endRead { r with count := n }
      else u.setRead (some { r with next := some x.record.next, count := n, atPort := false }) := by
  simp only [streamRecord, if_neg (not_lt.2 upTo)]

theorem listReadComplete_goesOn {s : State} {r : ListRead} {slot : Slot}
    (access : s.port.access = some (.listRead slot true)) (reads : s.editor.read = some r) :
    GoesOnTo (exec .listReadComplete s) (s.endAccess.streamRecord r (s.readRecord slot)) := by
  simp only [exec, execListReadComplete, access, completeListRead, reads]
  exact goesOn_transmitEditor _

end State

/-- Settles O35: a stream requests by its next slot, and takes a record by where its frame lies and by its LAST. -/
theorem listReadStreams : Obligations.ListReadStreams := by
  refine ⟨?requests, ?idle, ?completes, ?dropped⟩
  case requests =>
    intro s r reads away room none_ still requested
    have running : ¬s.spliceRunning r.control = true := by
      rw [State.spliceRunning_iff]
      rintro ⟨e, rest, a, queue, same, splice⟩
      obtain stopped | other := still
      · exact splice.elim (stopped a).1 (stopped a).2
      · exact other e rest queue same
    have nothing : ¬∃ slot live, MemRequest.listRead slot live ∈ s.port.access.toList ++ s.port.requests :=
      fun ⟨slot, live, stands⟩ => none_ _ stands slot live rfl
    have goesOn := State.listReadRequest_goesOn (State.readDue_eq reads away room nothing running)
    refine ⟨fun slot next => ?_, fun first some_ => ?_, fun first empty => ?_⟩
    · rwa [State.requestListRead_next next] at goesOn
    · rwa [State.requestListRead_first first some_] at goesOn
    · rwa [State.requestListRead_empty first empty] at goesOn
  case idle =>
    intro s none_
    simp only [exec, execListReadRequest, State.readDue, none_]
  case completes =>
    intro s r slot access reads x freed goesOn posted ended
    have streams := State.listReadComplete_goesOn access reads
    have frame : (s.readRecord slot).record = x := rfl
    refine ⟨fun above => ?_, fun inside upTo more => ?_, fun inside upTo last => ?_, fun below upTo more => ?_,
      fun below upTo last => ?_⟩
    · rwa [State.streamRecord_above above] at streams
    · rw [State.streamRecord_upTo upTo, frame] at streams
      simp only [if_pos inside, more, Bool.false_eq_true, if_false] at streams
      exact streams
    · rw [State.streamRecord_upTo upTo, frame] at streams
      simp only [if_pos inside, last, if_true] at streams
      exact streams
    · rw [State.streamRecord_upTo upTo, frame] at streams
      simp only [if_neg (not_le.2 below), more, Bool.false_eq_true, if_false] at streams
      exact streams
    · rw [State.streamRecord_upTo upTo, frame] at streams
      simp only [if_neg (not_le.2 below), last, if_true] at streams
      exact streams
  case dropped =>
    intro s slot access
    simp only [exec, execListReadComplete, access, State.completeListRead]
    exact goesOn_transmitEditor _

end Sys2Proof.Machine
end

section
/-! SUPPORT. LIST BEGIN, LIST RECORD and LIST END at their takes (R107, R120 to R123, R178, R182 to R184). -/

namespace Sys2Proof.Machine
open Sys2Proof.Safety

namespace State

/-! ## The checks of a list command (R182, R188) -/

theorem listRefusal_notReady {s : State} {c : ControlId} (formatting : s.store.storeState ≠ .ready) :
    s.listRefusal c = some .notReady := by
  have unready : s.storeReady = false := by simpa [storeReady] using formatting
  rw [listRefusal, if_pos unready]

theorem listRefusal_ready {s : State} (c : ControlId) (ready : s.store.storeState = .ready) : s.listRefusal c =
    if s.tracker.transport ≠ .stopped then some .rolling
    else if s.store.load.isSome then some .busy
    else if s.spliceQueued c then some .busy
    else if s.readOf c then some .busy
    else none := by
  have ready' : ¬s.storeReady = false := by simp [storeReady, ready]
  rw [listRefusal, if_neg ready']

theorem listRefusal_rolling {s : State} {c : ControlId} (ready : s.store.storeState = .ready)
    (rolls : s.tracker.transport ≠ .stopped) : s.listRefusal c = some .rolling := by
  rw [listRefusal_ready c ready, if_pos rolls]

theorem listRefusal_busy {s : State} {c : ControlId} (ready : s.store.storeState = .ready)
    (stopped : s.tracker.transport = .stopped)
    (busy : s.store.load ≠ none ∨ s.spliceQueued c = true ∨ ∃ r, s.editor.read = some r ∧ r.control = c) :
    s.listRefusal c = some .busy := by
  rw [listRefusal_ready c ready, if_neg (not_not_intro stopped)]
  rw [← readOf_iff, ← Option.isSome_iff_ne_none] at busy
  split
  · rfl
  · split
    · rfl
    · exact if_pos ((busy.resolve_left ‹_›).resolve_left ‹_›)

theorem listRefusal_none {s : State} {c : ControlId} (ready : s.store.storeState = .ready)
    (stopped : s.tracker.transport = .stopped)
    (free : ¬(s.store.load ≠ none ∨ s.spliceQueued c = true ∨ ∃ r, s.editor.read = some r ∧ r.control = c)) :
    s.listRefusal c = none := by
  rw [← readOf_iff, ← Option.isSome_iff_ne_none, not_or, not_or] at free
  obtain ⟨load, splice, read⟩ := free
  rw [listRefusal_ready c ready, if_neg (not_not_intro stopped), if_neg load, if_neg splice, if_neg read]

/-! ## LIST BEGIN (R182) -/

theorem listBegin_goesOn {s : State} {control : Byte} {count : Nat} (handed : HandedToPart s (.listBegin control count)) :
    GoesOnTo (exec .listBegin s) (s.popEditor.takeListBegin control count) := by
  simp only [exec, execListBegin, headCommand_of_handed handed]
  exact goesOn_transmitEditor _

theorem takeListBegin_noControl {s : State} {control : Byte} {count : Nat} (unnamed : 207 < control.toNat) :
    s.takeListBegin control count = s.refuseEditor .noControl kindListBegin (some control) := by
  simp only [takeListBegin, controlNumber_eq_none unnamed]

theorem takeListBegin_badValue {s : State} {control : Byte} {c : ControlId} (named : control.toNat = c.val) :
    s.takeListBegin control 0 = s.refuseEditor .badValue kindListBegin (some control) := by
  simp only [takeListBegin, named, controlNumber_val, if_true]

theorem takeListBegin_refused {s : State} {control : Byte} {c : ControlId} {count : Nat} {reason : RefusalReason}
    (named : control.toNat = c.val) (some_ : count ≠ 0) (refusal : s.listRefusal c = some reason) :
    s.takeListBegin control count = s.refuseEditor reason kindListBegin (some control) := by
  simp only [takeListBegin, named, controlNumber_val, if_neg some_, refusal]

theorem takeListBegin_begins {s : State} {control : Byte} {c : ControlId} {count : Nat} (named : control.toNat = c.val)
    (some_ : count ≠ 0) (admitted : s.listRefusal c = none) :
    s.takeListBegin control count = (s.setLoad (some (beginLoad c count))).reservePlace .load := by
  simp only [takeListBegin, named, controlNumber_val, if_neg some_, admitted]

/-! ## LIST RECORD (R121, R183) -/

theorem listRecord_goesOn {s : State} {r : LoadRecord} (handed : HandedToPart s (.listRecord r)) :
    GoesOnTo (exec .listRecord s) (s.popEditor.takeListRecord r) := by
  simp only [exec, execListRecord, headCommand_of_handed handed]
  exact goesOn_transmitAll _

theorem takeListRecord_noLoad {s : State} (r : LoadRecord) (closed : ∀ l, s.store.load = some l → l.endTaken = true) :
    s.takeListRecord r = s.refuseEditor .noLoad kindListRecord none := by
  unfold takeListRecord
  split
  · rfl
  · next l load => rw [if_pos (closed l load)]

theorem takeListRecord_badValue {s : State} {r : LoadRecord} {l : Load} (load : s.store.load = some l)
    (opened : l.endTaken = false) (illegal : ¬(r.kind.toNat ≤ 1 ∧ r.frame ≤ 16777215)) :
    s.takeListRecord r = s.refuseEditor .badValue kindListRecord none := by
  have bad : 1 < r.kind.toNat ∨ Config.maxFrame < r.frame := by simpa only [not_and_or, not_le] using illegal
  simp only [takeListRecord, load, opened, Bool.false_eq_true, if_false, if_pos bad]

/-- A record whose fields are legal: counted, then its order and the pool are looked at (R183). -/
theorem takeListRecord_legal {s : State} {r : LoadRecord} {l : Load} (load : s.store.load = some l)
    (opened : l.endTaken = false) (legal : r.kind.toNat ≤ 1 ∧ r.frame ≤ 16777215) : s.takeListRecord r =
      if l.received = l.expected then s.refuseEditor .count kindListRecord none
      else if 0 < l.received ∧ r.frame ≤ l.lastFrame then s.abortLoad (some .order)
      else if s.totalFree = 0 then s.abortLoad (some .pool)
      else (s.giveLoadRecord l r).settlePool s := by
  have good : ¬(1 < r.kind.toNat ∨ Config.maxFrame < r.frame) := by simpa only [not_or, not_lt] using legal
  simp only [takeListRecord, load, opened, Bool.false_eq_true, if_false, if_neg good]

/-- A record that follows those before it, while the load has records to come (R183). -/
theorem takeListRecord_inOrder {s : State} {r : LoadRecord} {l : Load} (load : s.store.load = some l)
    (opened : l.endTaken = false) (legal : r.kind.toNat ≤ 1 ∧ r.frame ≤ 16777215) (more : l.received ≠ l.expected)
    (inOrder : l.received = 0 ∨ l.lastFrame < r.frame) : s.takeListRecord r =
      if s.totalFree = 0 then s.abortLoad (some .pool) else (s.giveLoadRecord l r).settlePool s := by
  have follows : ¬(0 < l.received ∧ r.frame ≤ l.lastFrame) := by
    rintro ⟨some_, before⟩
    exact inOrder.elim some_.ne' (not_lt.2 before)
  rw [takeListRecord_legal load opened legal, if_neg more, if_neg follows]

theorem giveLoadRecord_gives {s taken : State} {l : Load} {r : LoadRecord} {slot : Slot} (slots : 1 ≤ s.slotsForLoad)
    (took : s.takeSlot = some (slot, taken)) : s.giveLoadRecord l r = taken.linkLoadRecord l slot r := by
  simp only [giveLoadRecord, if_pos slots, took]

/-- The editor port takes no slot. -/
theorem setEditor_settlePool (s : State) (x : EditorPort) : (s.setEditor x).settlePool s = s.setEditor x :=
  settlePool_of_store rfl

theorem giveLoadRecord_waits {s : State} {l : Load} {r : LoadRecord} (none_ : s.slotsForLoad = 0) :
    s.giveLoadRecord l r = s.setEditor { s.editor with waitingRecord := some r } := by
  rw [giveLoadRecord, if_neg (by omega)]

/-- A load aborted at a command's take: its chain returned, and ABORTED in its place (R123, R183 to R185). -/
theorem abortLoad_taken {s : State} {l : Load} (reason : AbortReason) (load : s.store.load = some l)
    (idle : s.editor.waitingRecord = none) :
    let t := s.popEditor.abortLoad (some reason)
    LoadAborted s s.port l t ∧ t = { s with
      store := t.store, port := t.port
      editor := { tookCommand s.editor [] with
        replies := s.editor.replies.erase (.reserved .load) ++ [.held (.aborted kindListBegin reason)] } } := by
  obtain ⟨aborted, frame⟩ := abortLoad_spec s.popEditor l (some reason) load
  refine ⟨aborted, frame.trans ?_⟩
  simp only [popEditor_eq, tookCommand, List.append_nil, idle]

/-! ## LIST END (R122, R184) -/

theorem listEnd_goesOn {s : State} (handed : HandedToPart s .listEnd) :
    GoesOnTo (exec .listEnd s) s.popEditor.takeListEnd := by
  simp only [exec, execListEnd, headCommand_of_handed handed]
  exact goesOn_transmitEditor _

theorem takeListEnd_noLoad {s : State} (closed : ∀ l, s.store.load = some l → l.endTaken = true) :
    s.takeListEnd = s.refuseEditor .noLoad kindListEnd none := by
  unfold takeListEnd
  split
  · rfl
  · next l load => rw [if_pos (closed l load)]

theorem takeListEnd_short {s : State} {l : Load} (load : s.store.load = some l) (opened : l.endTaken = false)
    (short : l.received ≠ l.expected) : s.takeListEnd = s.abortLoad (some .count) := by
  simp only [takeListEnd, load, opened, Bool.false_eq_true, if_false, if_pos short]

theorem takeListEnd_ends {s : State} {l : Load} {h : SlotRecord} (load : s.store.load = some l) (opened : l.endTaken = false)
    (full : l.received = l.expected) (tail : l.tail = some h) : s.takeListEnd =
      (s.postRequest (.loadWrite { slot := h.slot, record := { h.record with last := true, next := 0 } })).setLoad
        (some { l with endTaken := true }) := by
  simp only [takeListEnd, load, opened, Bool.false_eq_true, if_false, if_neg (not_not_intro full), postLoadTail, tail]

end State

/-- Settles O45: each take is the branch of its table that the load, the pool and the message choose. -/
theorem listLoadCommandsTaken : Obligations.ListLoadCommandsTaken := by
  refine ⟨?begins, ?record, ?ends⟩
  case begins =>
    intro s control count handed refused
    have goesOn := State.listBegin_goesOn handed
    have refuses {reason : RefusalReason}
        (taken : s.popEditor.takeListBegin control count = s.popEditor.refuseEditor reason kindListBegin (some control)) :
        refused reason := by
      rwa [taken, State.popEditor_refuseEditor] at goesOn
    refine ⟨fun unnamed => refuses (State.takeListBegin_noControl unnamed), ?_⟩
    intro c named busy
    refine ⟨fun none_ => ?_, fun some_ formatting => ?_, fun some_ ready rolls => ?_, fun some_ ready stopped held => ?_,
      fun some_ ready stopped free => ?_⟩
    · subst none_
      exact refuses (State.takeListBegin_badValue named)
    · exact refuses (State.takeListBegin_refused named some_ (State.listRefusal_notReady formatting))
    · exact refuses (State.takeListBegin_refused named some_ (State.listRefusal_rolling ready rolls))
    · exact refuses (State.takeListBegin_refused named some_ (State.listRefusal_busy ready stopped held))
    · rw [State.takeListBegin_begins (s := s.popEditor) named some_ (State.listRefusal_none ready stopped free)] at goesOn
      exact goesOn
  case record =>
    intro s r handed taken refused aborted
    have goesOn := State.listRecord_goesOn handed
    have ⟨_, idle, _⟩ := handed
    have refuses {reason : RefusalReason}
        (taken : s.popEditor.takeListRecord r = s.popEditor.refuseEditor reason kindListRecord none) : refused reason := by
      rwa [taken, State.popEditor_refuseEditor] at goesOn
    have aborts {l : Load} {reason : AbortReason} (load : s.store.load = some l)
        (taken : s.popEditor.takeListRecord r = s.popEditor.abortLoad (some reason)) : aborted l reason := by
      rw [taken] at goesOn
      exact ⟨_, goesOn, State.abortLoad_taken reason load idle⟩
    refine ⟨fun none_ => refuses (State.takeListRecord_noLoad r fun l load => ?_), fun l load =>
      ⟨fun ended => refuses (State.takeListRecord_noLoad r fun l' load' => ?_), ?_⟩⟩
    · cases none_.symm.trans load
    · cases load.symm.trans load'
      exact ended
    intro opened legal
    have legally (ok : r.kind.toNat ≤ 1 ∧ r.frame ≤ 16777215) :=
      State.takeListRecord_legal (s := s.popEditor) load opened ok
    have inOrder (ok : r.kind.toNat ≤ 1 ∧ r.frame ≤ 16777215) (more : l.received ≠ l.expected)
        (follows : l.received = 0 ∨ l.lastFrame < r.frame) :=
      State.takeListRecord_inOrder (s := s.popEditor) load opened ok more follows
    refine ⟨fun illegal => refuses (State.takeListRecord_badValue load opened illegal),
      fun ok full => refuses ((legally ok).trans (if_pos full)), ?outOfOrder,
      fun ok more follows empty => aborts load ((inOrder ok more follows).trans (if_pos empty)), ?given, ?waits⟩
    case outOfOrder =>
      intro ok more some_ before
      exact aborts load ((legally ok).trans ((if_neg more).trans (if_pos ⟨some_, before⟩)))
    case given =>
      intro slot rest ok more follows queue waiters wait
      have left : s.popEditor.totalFree ≠ 0 := fun empty =>
        List.cons_ne_nil _ _ (queue.symm.trans ((State.totalFree_eq_zero_iff s).1 empty).1)
      have pos := State.slotsForLoad_pos (s := s.popEditor) queue waiters wait
      obtain ⟨given, took, slots, frame⟩ := State.takeSlot_of_queue (s := s.popEditor) queue
      rw [inOrder ok more follows, if_neg left, State.giveLoadRecord_gives pos took, State.popEditor_eq] at goesOn
      rw [State.popEditor_eq] at slots frame
      refine ⟨_, goesOn, State.slotsTaken_linked slots l slot r, ?_, ?_, ?_⟩
      all_goals rw [State.linkLoadRecord_eq, frame]
      · rfl
      · cases tail : l.tail <;> simp [Load.tailWrites, tail]
    case waits =>
      intro ok more follows left waits
      have none_ : s.popEditor.slotsForLoad = 0 := (State.slotsForLoad_eq_zero_iff _).2 waits
      rw [inOrder ok more follows, if_neg (show ¬s.popEditor.totalFree = 0 from left), State.giveLoadRecord_waits none_,
        State.setEditor_settlePool, State.popEditor_eq] at goesOn
      exact goesOn
  case ends =>
    intro s handed refused
    have goesOn := State.listEnd_goesOn handed
    have ⟨_, idle, _⟩ := handed
    have refuses (closed : ∀ l, s.store.load = some l → l.endTaken = true) : refused := by
      rwa [State.takeListEnd_noLoad (s := s.popEditor) closed, State.popEditor_refuseEditor] at goesOn
    refine ⟨fun none_ => refuses fun l load => ?_, fun l load => ⟨fun ended => refuses fun l' load' => ?_,
      fun opened short => ?_, fun h opened full tail => ?_⟩⟩
    · cases none_.symm.trans load
    · cases load.symm.trans load'
      exact ended
    · rw [State.takeListEnd_short (s := s.popEditor) load opened short] at goesOn
      exact ⟨_, goesOn, State.abortLoad_taken .count load idle⟩
    · rw [State.takeListEnd_ends (s := s.popEditor) load opened full tail, State.popEditor_eq] at goesOn
      exact goesOn

end Sys2Proof.Machine
end

section
/-! SUPPORT. READ LIST and CLEAR LIST at their takes (R109, R124, R178, R186 to R188). -/

namespace Sys2Proof.Machine
open Sys2Proof.Safety

/-- A list read that begins: no record requested, none counted (R186). -/
def ListRead.started (c : ControlId) (lo hi : Frame) : ListRead :=
  { control := c, fromFrame := lo, toFrame := hi, next := none, count := 0, atPort := false }

namespace State

/-! ## READ LIST (R186, R187) -/

theorem readList_goesOn {s : State} {control : Byte} {lo hi : Frame} (handed : HandedToPart s (.readList control lo hi)) :
    GoesOnTo (exec .readList s) (s.popEditor.takeReadList control lo hi) := by
  simp only [exec, execReadList, headCommand_of_handed handed]
  exact goesOn_transmitEditor _

theorem readRefusal_badValue {s : State} {c : ControlId} {lo hi : Frame}
    (illegal : ¬(lo ≤ 16777215 ∧ hi ≤ 16777215 ∧ lo ≤ hi)) : s.readRefusal c lo hi = some .badValue := by
  have bad : Config.maxFrame < lo ∨ Config.maxFrame < hi ∨ hi < lo := by simpa only [not_and_or, not_le] using illegal
  rw [readRefusal, if_pos bad]

theorem readRefusal_legal {s : State} (c : ControlId) {lo hi : Frame}
    (legal : lo ≤ 16777215 ∧ hi ≤ 16777215 ∧ lo ≤ hi) : s.readRefusal c lo hi =
      if s.tracker.transport ≠ .stopped then some .rolling
      else if s.editor.read ≠ none ∨ s.store.load.any (fun l => l.control == c) then some .busy
      else none := by
  have good : ¬(Config.maxFrame < lo ∨ Config.maxFrame < hi ∨ hi < lo) := by simpa only [not_or, not_lt] using legal
  rw [readRefusal, if_neg good]
  cases s.editor.read <;> cases s.store.load <;> simp

theorem loadOf_iff (s : State) (c : ControlId) :
    s.store.load.any (fun l => l.control == c) = true ↔ ∃ l, s.store.load = some l ∧ l.control = c := by
  cases s.store.load <;> simp

theorem readRefusal_rolling {s : State} {c : ControlId} {lo hi : Frame}
    (legal : lo ≤ 16777215 ∧ hi ≤ 16777215 ∧ lo ≤ hi) (rolls : s.tracker.transport ≠ .stopped) :
    s.readRefusal c lo hi = some .rolling := by
  rw [readRefusal_legal c legal, if_pos rolls]

theorem readRefusal_busy {s : State} {c : ControlId} {lo hi : Frame}
    (legal : lo ≤ 16777215 ∧ hi ≤ 16777215 ∧ lo ≤ hi) (stopped : s.tracker.transport = .stopped)
    (busy : s.editor.read ≠ none ∨ ∃ l, s.store.load = some l ∧ l.control = c) :
    s.readRefusal c lo hi = some .busy := by
  rw [← loadOf_iff] at busy
  rw [readRefusal_legal c legal, if_neg (not_not_intro stopped), if_pos busy]

theorem readRefusal_none {s : State} {c : ControlId} {lo hi : Frame}
    (legal : lo ≤ 16777215 ∧ hi ≤ 16777215 ∧ lo ≤ hi) (stopped : s.tracker.transport = .stopped)
    (free : ¬(s.editor.read ≠ none ∨ ∃ l, s.store.load = some l ∧ l.control = c)) :
    s.readRefusal c lo hi = none := by
  rw [← loadOf_iff] at free
  rw [readRefusal_legal c legal, if_neg (not_not_intro stopped), if_neg free]

theorem takeReadList_noControl {s : State} {control : Byte} {lo hi : Frame} (unnamed : 207 < control.toNat) :
    s.takeReadList control lo hi = s.refuseEditor .noControl kindReadList (some control) := by
  simp only [takeReadList, controlNumber_eq_none unnamed]

theorem takeReadList_refused {s : State} {control : Byte} {c : ControlId} {lo hi : Frame} {reason : RefusalReason}
    (named : control.toNat = c.val) (refusal : s.readRefusal c lo hi = some reason) :
    s.takeReadList control lo hi = s.refuseEditor reason kindReadList (some control) := by
  simp only [takeReadList, named, controlNumber_val, refusal]

theorem takeReadList_begins {s : State} {control : Byte} {c : ControlId} {lo hi : Frame} (named : control.toNat = c.val)
    (admitted : s.readRefusal c lo hi = none) : s.takeReadList control lo hi = s.beginRead (.started c lo hi) := by
  simp only [takeReadList, named, controlNumber_val, admitted]
  rfl

theorem beginRead_streams {s : State} {r : ListRead} (some_ : (s.listOf r.control).count ≠ 0) :
    s.beginRead r = (s.reservePlace .read).setRead (some r) := by
  have goesOn : ¬(s.listEmpty r.control && !s.spliceRunning r.control) = true := by simp [listEmpty, some_]
  simp only [beginRead, if_neg goesOn]

/-- The read of an empty list that no splice fills ends at once, in the place it took (R114, R187). -/
theorem beginRead_ends {s : State} {r : ListRead} (none_ : (s.listOf r.control).count = 0)
    (still : s.spliceRunning r.control = false) (unread : s.editor.read = none)
    (unreserved : ReplyPlace.reserved .read ∉ s.editor.replies) :
    s.beginRead r = s.postEditor (.endOfRead r.count) := by
  have ends : (s.listEmpty r.control && !s.spliceRunning r.control) = true := by simp [listEmpty, none_, still]
  have place : (s.editor.replies ++ [ReplyPlace.reserved .read]).erase (.reserved .read) = s.editor.replies := by
    rw [List.erase_append_right _ unreserved]
    simp
  simp only [beginRead, if_pos ends, endRead_eq]
  simp [setRead, reservePlace, setEditor, postEditor, place, unread]

/-! ## CLEAR LIST (R124, R188) -/

theorem clearList_goesOn {s : State} {control : Byte} (handed : HandedToPart s (.clearList control)) :
    GoesOnTo (exec .clearList s) (s.popEditor.takeClearList control) := by
  simp only [exec, execClearList, headCommand_of_handed handed]
  exact goesOn_transmitEditor _

theorem takeClearList_noControl {s : State} {control : Byte} (unnamed : 207 < control.toNat) :
    s.takeClearList control = s.refuseEditor .noControl kindClearList (some control) := by
  simp only [takeClearList, controlNumber_eq_none unnamed]

theorem takeClearList_refused {s : State} {control : Byte} {c : ControlId} {reason : RefusalReason}
    (named : control.toNat = c.val) (refusal : s.listRefusal c = some reason) :
    s.takeClearList control = s.refuseEditor reason kindClearList (some control) := by
  simp only [takeClearList, named, controlNumber_val, refusal]

theorem takeClearList_begins {s : State} {control : Byte} {c : ControlId} (named : control.toNat = c.val)
    (admitted : s.listRefusal c = none) : s.takeClearList control = s.beginClear c := by
  simp only [takeClearList, named, controlNumber_val, admitted]

theorem beginClear_empty {s : State} {c : ControlId} (none_ : (s.listOf c).count = 0) :
    s.beginClear c = (s.setCursor c Cursor.reset).postDone kindClearList := by
  have empty : s.listEmpty c = true := by simpa [listEmpty] using none_
  rw [beginClear, if_pos empty, relocateOne, empty]
  rfl

theorem beginClear_waits {s : State} {c : ControlId} (some_ : (s.listOf c).count ≠ 0) (busy : s.cursorBusy c = true) :
    s.beginClear c = (s.setEditor { s.editor with clear := some c }).reservePlace .clear := by
  have notEmpty : ¬s.listEmpty c = true := by simpa [listEmpty] using some_
  rw [beginClear, if_neg notEmpty, if_pos busy]

theorem beginClear_clears {s : State} {c : ControlId} (some_ : (s.listOf c).count ≠ 0) (free : ¬s.cursorBusy c = true) :
    s.beginClear c = (s.relisted c Descriptor.empty).postDone kindClearList := by
  have notEmpty : ¬s.listEmpty c = true := by simpa [listEmpty] using some_
  rw [beginClear, if_neg notEmpty, if_neg free, clearStore_eq]

/-- The return of a list does not reach the editor port. -/
theorem relisted_setEditor (s : State) (x : EditorPort) (c : ControlId) (d : Descriptor) :
    (s.setEditor x).relisted c d = (s.relisted c d).setEditor x := by
  have returned : listReturned (s.setEditor x) c = (listReturned s c).setEditor x := by
    by_cases none_ : (s.listOf c).count = 0
    · rw [listReturned_empty none_, listReturned_empty (s := s.setEditor x) none_]
    · rw [listReturned_nonempty none_, listReturned_nonempty (s := s.setEditor x) none_, returnChain_eq, returnChain_eq]
      rfl
  rw [relisted, returned]
  rfl

end State

/-- Settles O46: each take is the branch of its table that the list, the transport and what is in flight choose. -/
theorem readAndClearListTaken : Obligations.ReadAndClearListTaken := by
  refine ⟨?reads, ?clears⟩
  case reads =>
    intro s control lo hi handed refused
    have goesOn := State.readList_goesOn handed
    have refuses {reason : RefusalReason}
        (taken : s.popEditor.takeReadList control lo hi = s.popEditor.refuseEditor reason kindReadList (some control)) :
        refused reason := by
      rwa [taken, State.popEditor_refuseEditor] at goesOn
    refine ⟨fun unnamed => refuses (State.takeReadList_noControl unnamed), ?_⟩
    intro c named legal busy
    have begins (ok : legal) (stopped : s.tracker.transport = .stopped) (free : ¬busy) :
        s.popEditor.takeReadList control lo hi = s.popEditor.beginRead (.started c lo hi) :=
      State.takeReadList_begins named (State.readRefusal_none (s := s.popEditor) ok stopped free)
    refine ⟨fun illegal => refuses (State.takeReadList_refused named (State.readRefusal_badValue illegal)),
      fun ok rolls => refuses (State.takeReadList_refused named (State.readRefusal_rolling ok rolls)),
      fun ok stopped held => refuses (State.takeReadList_refused named (State.readRefusal_busy ok stopped held)),
      ?streams, ?ends⟩
    case streams =>
      intro ok stopped free some_
      rw [begins ok stopped free, State.beginRead_streams (s := s.popEditor) (r := .started c lo hi) some_] at goesOn
      exact goesOn
    case ends =>
      intro ok stopped free none_ still unreserved
      have unread : s.editor.read = none := not_not.1 (not_or.1 free).1
      have ends := State.beginRead_ends (s := s.popEditor) (r := .started c lo hi) none_ still unread unreserved
      rw [begins ok stopped free, ends] at goesOn
      exact goesOn
  case clears =>
    intro s control handed refused
    have goesOn := State.clearList_goesOn handed
    have refuses {reason : RefusalReason}
        (taken : s.popEditor.takeClearList control = s.popEditor.refuseEditor reason kindClearList (some control)) :
        refused reason := by
      rwa [taken, State.popEditor_refuseEditor] at goesOn
    refine ⟨fun unnamed => refuses (State.takeClearList_noControl unnamed), ?_⟩
    intro c named busy admitted engaged
    have begins (ok : admitted) : s.popEditor.takeClearList control = s.popEditor.beginClear c := by
      obtain ⟨ready, stopped, free⟩ := ok
      exact State.takeClearList_begins named (State.listRefusal_none (s := s.popEditor) ready stopped free)
    have cursorBusy : s.popEditor.cursorBusy c = true ↔ engaged := by
      rw [State.cursorBusy, Bool.or_eq_true, State.walkInFlight_iff]
      rfl
    refine ⟨fun formatting => refuses (State.takeClearList_refused named (State.listRefusal_notReady formatting)),
      fun ready rolls => refuses (State.takeClearList_refused named (State.listRefusal_rolling ready rolls)),
      fun ready stopped held => refuses (State.takeClearList_refused named (State.listRefusal_busy ready stopped held)),
      ?empty, ?waits, ?cleared⟩
    case empty =>
      intro ok none_
      rw [begins ok, State.beginClear_empty (s := s.popEditor) none_] at goesOn
      exact goesOn
    case waits =>
      intro ok some_ held
      rw [begins ok, State.beginClear_waits (s := s.popEditor) some_ (cursorBusy.2 held)] at goesOn
      exact goesOn
    case cleared =>
      intro ok some_ free
      rw [begins ok, State.beginClear_clears (s := s.popEditor) some_ (mt cursorBusy.1 free), State.popEditor,
        State.relisted_setEditor] at goesOn
      have relists : RelistedTo s (((s.relisted c Descriptor.empty).setEditor s.editor.taken).postDone kindClearList) c
        Descriptor.empty := .of_blocks rfl rfl
      refine ⟨_, goesOn, relists.list, relists.cursor, relists.others, relists.totalFree, relists.freeHead some_,
        ?returned, relists.walk, ?frame⟩
      all_goals rw [State.relisted_eq]
      case returned => exact ⟨rfl, rfl, rfl⟩
      case frame => rfl

end Sys2Proof.Machine
end

section
/-! SUPPORT. The reads of the Cursor Unit (R131, R134 to R137): the completion of a fetch, the walk that is due and its start,
and what a walk makes of a record. -/

namespace Sys2Proof.Machine
open Sys2Proof.Safety

namespace State

/-! ## The fetch (R131) -/

theorem fetchComplete_eq {s : State} {c : ControlId} {slot : Slot} (access : s.port.access = some (.fetch c slot)) :
    exec .fetchComplete s = .next (s.completeFetch c slot) := by
  simp only [exec, execFetchComplete, access]

/-! ## The walk that is due (R134, R136, R137) -/

theorem walkReadOutstanding_iff (s : State) : s.walkReadOutstanding = true ↔
    ∃ slot live, MemRequest.walkRead slot live ∈ s.port.access.toList ++ s.port.requests := by
  unfold walkReadOutstanding
  rw [← Prod.exists (p := fun x => MemRequest.walkRead x.1 x.2 ∈ s.port.access.toList ++ s.port.requests)]
  exact any_iff_exists_form _ fun r => by cases r <;> simp

/-- The search in rising order of control finds the lowest-numbered control of the relocate set. -/
theorem lowestRelocating_eq_some_iff (s : State) (c : ControlId) : s.lowestRelocating = some c ↔
    (s.cursorOf c).state = .relocating ∧ ∀ d, d < c → (s.cursorOf d).state ≠ .relocating := by
  rw [lowestRelocating, List.find?_eq_some_iff_getElem, beq_iff_eq]
  refine and_congr_right fun _ => ⟨?lowest, fun below => ⟨c.val, by simp, by simp, fun j before => ?first⟩⟩
  case lowest =>
    rintro ⟨i, inRange, rfl, below⟩ d before
    simpa using below d.val (by simpa [Fin.lt_def] using before)
  case first => simpa using below ⟨j, before.trans c.isLt⟩ before

theorem walkDue_free {s : State} {c : ControlId} (walk : s.cursors.walk = none)
    (noRead : s.walkReadOutstanding = false) (lowest : s.lowestRelocating = some c) :
    s.walkDue = if s.fetchInFlight c then none else some c := by
  simp only [walkDue, walk, noRead, lowest]

theorem walkStart_eq (s : State) : exec .walkStart s = .next (s.walkDue.elim s s.startWalk) := by
  simp only [exec, execWalkStart]
  cases s.walkDue <;> rfl

/-- A walk starts at the head slot, toward the current frame (R135). -/
theorem startWalk_nonempty {s : State} {c : ControlId} (some_ : (s.listOf c).count ≠ 0) : s.startWalk c =
    ((s.setCursor c { s.cursorOf c with target := some s.tracker.currentFrame }).setWalk
      (some { control := c, candidate := none })).postRequest (.walkRead (s.listOf c).head true) :=
  if_neg (by simpa [listEmpty] using some_)

/-! ## The walk's reads (R135, R136) -/

theorem walkReadComplete_eq {s : State} {slot : Slot} {live : Bool}
    (access : s.port.access = some (.walkRead slot live)) :
    exec .walkReadComplete s = .next (s.completeWalkRead slot live) := by
  simp only [exec, execWalkReadComplete, access]

theorem completeWalkRead_dropped (s : State) (slot : Slot) : s.completeWalkRead slot false = s.endAccess := rfl

theorem completeWalkRead_live {s : State} {w : Walk} (walk : s.cursors.walk = some w) (slot : Slot) :
    s.completeWalkRead slot true = s.endAccess.walkOn w (s.readRecord slot) := by
  simp only [completeWalkRead, walk]

/-- What a walk makes of a record: one above the target ends it, one at most the target is the candidate, and the list's
last ends it with that (R135). -/
theorem walkOn_eq {s : State} {w : Walk} {target : Frame} (toward : (s.cursorOf w.control).target = some target)
    (r : SlotRecord) : s.walkOn w r =
      if target < r.record.frame then s.endWalk w.control w.candidate (.record r)
      else if r.record.last then s.endWalk w.control (some r.current) .endOfList
      else (s.setWalk (some { w with candidate := some r.current })).postRequest (.walkRead r.record.next true) := by
  simp only [walkOn, toward]

end State

/-- Settles O29: the walk due is the search's first RELOCATING cursor, and a record read falls under one branch of the
walk by its frame and LAST. -/
theorem cursorReadsComplete : Obligations.CursorReadsComplete := by
  refine ⟨fun s c slot access => ?fetch, fun s c walk noRead relocating lowest => ?start,
    fun s slot w target access walk toward => ?reads, fun s slot access => ?dropped⟩
  case fetch =>
    intro ended
    rw [State.fetchComplete_eq access]
    exact ⟨fun fetching => congrArg _ (if_pos fetching), fun other => congrArg _ (if_neg other)⟩
  case start =>
    have free : s.walkReadOutstanding = false := by
      rw [Bool.eq_false_iff, ne_eq, State.walkReadOutstanding_iff]
      rintro ⟨slot, live, stands⟩
      exact noRead _ stands slot live rfl
    have due : s.walkDue = if s.fetchInFlight c then none else some c :=
      State.walkDue_free walk free ((s.lowestRelocating_eq_some_iff c).2 ⟨relocating, lowest⟩)
    rw [State.walkStart_eq, due]
    refine ⟨fun noFetch some_ => ?_, fun fetches => ?_⟩
    · have unfetched : ¬s.fetchInFlight c = true := by
        rw [State.fetchInFlight_iff]
        rintro ⟨slot, stands⟩
        exact noFetch _ stands slot rfl
      rw [if_neg unfetched, Option.elim_some, State.startWalk_nonempty some_]
      rfl
    · rw [if_pos ((s.fetchInFlight_iff c).2 fetches), Option.elim_none]
  case reads =>
    intro r here answered
    have goesOn := State.walkOn_eq (s := s.endAccess) toward (s.readRecord slot)
    rw [State.walkReadComplete_eq access, State.completeWalkRead_live walk, goesOn]
    refine ⟨fun above => ?_, fun atMost last => ?_, fun atMost more => ?_⟩
    · exact congrArg _ (if_pos above)
    · exact congrArg _ ((if_neg (not_lt.2 atMost)).trans (if_pos last))
    · exact congrArg _ ((if_neg (not_lt.2 atMost)).trans (if_neg (Bool.eq_false_iff.1 more)))
  case dropped =>
    rw [State.walkReadComplete_eq access, State.completeWalkRead_dropped]
    rfl

end Sys2Proof.Machine
end

section
/-! SUPPORT. The engine port's requests (R148 to R150, R199): the bank READ reads, the entry it finds there, and the fields of
the word it puts on the data output. -/

namespace Sys2Proof.Machine

open Sys2Proof.Safety

/-! ## The word (R199) -/

/-- The stem field of the word: 15 for NONE. -/
def Entry.stemCode (e : Entry) : Nat :=
  match e.stem with
  | some i => i.val
  | none => 15

theorem Entry.stemCode_lt (e : Entry) : e.stemCode < 16 := by
  unfold stemCode
  split <;> omega

/-- The word's number holds the coefficient below the stem, and nothing above it. -/
theorem engineWord_toNat {e : Entry} (fits : e.coefficient < 16777216) :
    (engineWord e).toNat = e.stemCode * 16777216 + e.coefficient := by
  have code := e.stemCode_lt
  have word : engineWord e = BitVec.ofNat 32 (e.stemCode * 16777216 + e.coefficient % 16777216) := rfl
  rw [word, BitVec.toNat_ofNat]
  omega

/-- The fields of a word whose number holds a coefficient below a stem code. -/
theorem word_fields {word : BitVec 32} {stem coefficient : Nat} (code : stem < 16) (fits : coefficient < 16777216)
    (number : word.toNat = stem * 16777216 + coefficient) :
    word.extractLsb' 0 24 = BitVec.ofNat 24 coefficient ∧ word.extractLsb' 24 4 = BitVec.ofNat 4 stem ∧
      word.extractLsb' 28 4 = 0#4 := by
  have low : (stem * 16777216 + coefficient) % 16777216 = coefficient % 16777216 := by omega
  have middle : (stem * 16777216 + coefficient) / 16777216 = stem := by omega
  have high : (stem * 16777216 + coefficient) / 268435456 = 0 := by omega
  refine ⟨BitVec.eq_of_toNat_eq ?_, BitVec.eq_of_toNat_eq ?_, BitVec.eq_of_toNat_eq ?_⟩
  · rw [BitVec.extractLsb'_toNat, BitVec.toNat_ofNat, Nat.shiftRight_zero, number]
    exact low
  · rw [BitVec.extractLsb'_toNat, BitVec.toNat_ofNat, Nat.shiftRight_eq_div_pow, number]
    exact congrArg (· % 2 ^ 4) middle
  · rw [BitVec.extractLsb'_toNat, Nat.shiftRight_eq_div_pow, number]
    exact congrArg (· % 2 ^ 4) high

/-! ## BLOCK START and BLOCK END (R148, R149) -/

namespace EnginePort

theorem blockStart_some {x : EnginePort} {b : BankId} (table : x.published = some b) :
    x.blockStart = { x with published := none, reading := some b } := by
  simp only [blockStart, table]

theorem blockStart_none {x : EnginePort} (table : x.published = none) : x.blockStart = x := by
  simp only [blockStart, table]

theorem blockEnd_closed {x : EnginePort} (latch : x.reading = none) : x.blockEnd = x := by
  simp only [blockEnd, latch]

/-- With no newer table the latched one is published again. -/
theorem blockEnd_newest {x : EnginePort} {b : BankId} (latch : x.reading = some b) (table : x.published = none) :
    x.blockEnd = { x with published := some b, reading := none } := by
  simp only [blockEnd, latch, table]

/-- With a newer table the latched one is free. -/
theorem blockEnd_superseded {x : EnginePort} {b z : BankId} (latch : x.reading = some b) (table : x.published = some z) :
    x.blockEnd = { x with reading := none } := by
  simp only [blockEnd, latch, table]

/-! ## READ (R150) -/

theorem readBank_eq {x : EnginePort} {b : BankId} (bank : x.reading = some b ∨ (x.reading = none ∧ x.published = some b)) :
    x.readBank = some b := by
  rcases bank with latch | ⟨latch, table⟩
  · simp only [readBank, latch]
  · simp only [readBank, latch, table]

theorem entryFor_above {x : EnginePort} {index : BitVec 8} (above : 192 ≤ index.toNat) : x.entryFor index = Entry.reset :=
  dif_neg (Nat.not_lt.2 above)

end EnginePort

theorem State.entryFor_eq {s : State} {b : BankId} {p : Fin 192} {index : BitVec 8} (named : index.toNat = p.val)
    (bank : s.engine.readBank = some b) : s.engine.entryFor index = s.entryOf b p := by
  have inside : index.toNat < 192 := named ▸ p.isLt
  have entry : (⟨index.toNat, inside⟩ : Fin 192) = p := Fin.ext named
  simp only [EnginePort.entryFor, dif_pos inside, bank, entry, State.entryOf]

/-- Settles O36: the roles by the cases of BLOCK START and BLOCK END, the word of READ by its fields. -/
theorem engineRequestsTaken : Obligations.EngineRequestsTaken := by
  refine ⟨fun s b table => ?start, fun s table => ?startNone, fun s latch => ?endClosed, fun s b latch table => ?endNewest,
    fun s b z latch table => ?endSuperseded, fun s index => ⟨engineWord (s.engine.entryFor index), rfl,
      fun p b named bank fits => ?word, fun above => ?above⟩⟩
  case start => rw [exec, execBlockStart, EnginePort.blockStart_some table]
  case startNone => rw [exec, execBlockStart, EnginePort.blockStart_none table]
  case endClosed => rw [exec, execBlockEnd, EnginePort.blockEnd_closed latch]
  case endNewest => rw [exec, execBlockEnd, EnginePort.blockEnd_newest latch table]
  case endSuperseded => rw [exec, execBlockEnd, EnginePort.blockEnd_superseded latch table]
  case word =>
    rw [State.entryFor_eq named (EnginePort.readBank_eq bank)]
    obtain ⟨coefficient, stemField, unused⟩ := word_fields (Entry.stemCode_lt _) fits (engineWord_toNat fits)
    refine ⟨coefficient, stemField.trans ?_, unused⟩
    cases stem : (s.entryOf b p).stem <;> simp only [Entry.stemCode, stem]
  case above =>
    rw [EnginePort.entryFor_above above]
    rfl

end Sys2Proof.Machine
end

section
/-! SUPPORT. The bank roles and the tracker's numbers (R21, R22, R35, R143) read a small part of the state, its view. Most
operations leave the view as it is; the few that change it are the frame events and the ends of passes, the engine's requests,
the marks, the expiries and SET HUB, and each keeps it legal. -/

namespace Sys2Proof.Machine

open Sys2Proof.Safety

/-! ## The view -/

/-- What the bank roles and the tracker's ranges read of a state. -/
structure PassView where
  published : Option BankId
  reading : Option BankId
  building : Option BankId
  inFlight : Bool
  underWay : Bool
  currentFrame : Frame
  runCount : Nat
  freewheelCount : Nat
  rate : Nat
  acquireCount : Nat
  freewheelLimit : Nat
  pends : Bool

/-- The view of a state. -/
def State.passView (s : State) : PassView where
  published := s.engine.published
  reading := s.engine.reading
  building := s.engine.building
  inFlight := s.pass.run.inFlight
  underWay := s.pass.run.underWay.isSome
  currentFrame := s.tracker.currentFrame
  runCount := s.tracker.runCount
  freewheelCount := s.tracker.freewheelCount
  rate := s.tracker.rate
  acquireCount := s.tracker.acquireCount
  freewheelLimit := s.tracker.freewheelLimit
  pends := s.tracker.pendingFrame.isSome

namespace PassView

/-- The roles are legal and the numbers in range. -/
structure Legal (v : PassView) : Prop where
  table : v.published.isSome ∨ v.reading.isSome
  latchApart : ∀ b, v.published = some b → v.reading ≠ some b
  buildApart : ∀ b, v.building = some b → v.published ≠ some b ∧ v.reading ≠ some b
  builds : v.building.isSome ↔ v.inFlight = true
  evaluates : v.underWay = true → v.inFlight = true
  currentFrame_le : v.currentFrame ≤ Config.maxFrame
  runCount_le : v.runCount ≤ 255
  freewheelCount_le : v.freewheelCount ≤ 31
  rate_mem : v.rate = 24 ∨ v.rate = 25 ∨ v.rate = 30
  acquireCount_mem : 1 ≤ v.acquireCount ∧ v.acquireCount ≤ 8
  freewheelLimit_le : v.freewheelLimit ≤ 30
  pending : v.pends = true → v.inFlight = true

end PassView

theorem State.passView_legal_iff (s : State) : s.passView.Legal ↔ RolesLegal s ∧ TrackerLegal s := by
  constructor
  · intro h
    exact ⟨⟨h.table, h.latchApart, h.buildApart, h.builds, h.evaluates⟩, h.currentFrame_le, h.runCount_le,
      h.freewheelCount_le, h.rate_mem, h.acquireCount_mem, h.freewheelLimit_le, h.pending⟩
  · rintro ⟨⟨table, latchApart, buildApart, builds, evaluates⟩, current, run, freewheel, rate, acquire, limit, pending⟩
    exact ⟨table, latchApart, buildApart, builds, evaluates, current, run, freewheel, rate, acquire, limit, pending⟩

/-! ## What leaves the view as it is -/

namespace State

theorem passView_congr {s t : State} (h : t.engine = s.engine ∧ t.tracker = s.tracker ∧ t.pass.run = s.pass.run) :
    t.passView = s.passView := by
  obtain ⟨engine, tracker, run⟩ := h
  rw [passView, passView, engine, tracker, run]

theorem passView_ite {p : Prop} [Decidable p] {a b s : State} (yes : a.passView = s.passView)
    (no : b.passView = s.passView) : (if p then a else b).passView = s.passView := by
  split
  exacts [yes, no]

@[simp] theorem transmitAll_passView (s : State) : s.transmitAll.passView = s.passView := passView_congr (by simp)
@[simp] theorem transmitEditor_passView (s : State) : s.transmitEditor.passView = s.passView := passView_congr (by simp)
@[simp] theorem transmitAt_passView (s : State) (p : SurfaceId) : (s.transmitAt p).passView = s.passView :=
  passView_congr (by simp)
@[simp] theorem postTransport_passView (s : State) : s.postTransport.passView = s.passView := passView_congr (by simp)
@[simp] theorem postTransportWhen_passView (s : State) (b : Bool) : (s.postTransportWhen b).passView = s.passView :=
  passView_congr (by simp)
@[simp] theorem relocateAll_passView (s : State) : s.relocateAll.passView = s.passView := passView_congr (by simp)
@[simp] theorem leaveStopped_passView (s : State) : s.leaveStopped.passView = s.passView := passView_congr (by simp)
@[simp] theorem popEditor_passView (s : State) : s.popEditor.passView = s.passView := passView_congr (by simp)
@[simp] theorem postDone_passView (s : State) (kind : Byte) : (s.postDone kind).passView = s.passView :=
  passView_congr (by simp)
@[simp] theorem refuseEditor_passView (s : State) (reason : RefusalReason) (kind : Byte) (control : Option Byte) :
    (s.refuseEditor reason kind control).passView = s.passView := passView_congr (by simp)

/-! ### Flags (R37, R190) -/

@[simp] theorem raiseLockLost_passView (s : State) : s.raiseLockLost.passView = s.passView := by
  rw [raiseLockLost_eq]
  split <;> rfl

@[simp] theorem raisePassOverrun_passView (s : State) : s.raisePassOverrun.passView = s.passView := by
  rw [raisePassOverrun_eq]
  rfl

@[simp] theorem clearFlagSet_passView (s : State) (set : Byte) : (s.clearFlagSet set).passView = s.passView := rfl

@[simp] theorem atExpiry_passView (s : State) : s.atExpiry.passView = s.passView := rfl

/-! ### Closures and the end of a wait (R78, R87, R92, R96) -/

/-- The evaluation that waited stays under way. -/
@[simp] theorem endWait_passView (s : State) : s.endWait.passView = s.passView := by
  cases run : s.pass.run.underWay with
  | none => simp only [endWait, run]
  | some e => simp [endWait_eq run, passView, released, run]

@[simp] theorem endBarredPunchIn_passView (s : State) : s.endBarredPunchIn.passView = s.passView := by
  unfold endBarredPunchIn
  split
  · exact passView_ite s.endWait_passView rfl
  · rfl

@[simp] theorem barIfInFlight_passView (s : State) : s.barIfInFlight.passView = s.passView := passView_congr (by simp)

@[simp] theorem acquire_passView (s : State) : s.acquire.passView = s.passView := by simp [acquire]

@[simp] theorem closeSegment_passView (s : State) (c : ControlId) (g : Segment) (last : Frame) :
    (s.closeSegment c g last).passView = s.passView := passView_congr (by simp)

@[simp] theorem closeOutside_passView (s : State) (c : ControlId) : (s.closeOutside c).passView = s.passView := by
  unfold closeOutside
  split
  · dsimp only
    split <;> simp
  · rfl

theorem closeEach_passView (s : State) (l : List ControlId) : (s.closeEach l).passView = s.passView := by
  induction l generalizing s with
  | nil => rfl
  | cons c l ih => exact (ih (s.closeOutside c)).trans (s.closeOutside_passView c)

@[simp] theorem closeWhere_passView (s : State) (which : ControlId → Bool) :
    (s.closeWhere which).passView = s.passView := by
  rw [closeWhere_eq, closeEach_passView]

@[simp] theorem closeAll_passView (s : State) : s.closeAll.passView = s.passView := by simp [closeAll]

@[simp] theorem truncate_passView (s : State) (e : Evaluation) (g : Segment) : (s.truncate e g).passView = s.passView := by
  unfold truncate
  dsimp only
  split <;> exact passView_congr (by simp [setLatePunch])

@[simp] theorem truncateWaiting_passView (s : State) : s.truncateWaiting.passView = s.passView := by
  unfold truncateWaiting
  split
  · split <;> simp
  · rfl

@[simp] theorem settlePool_passView (s before : State) : (s.settlePool before).passView = s.passView := by
  unfold settlePool
  split
  · have aborted (u : State) : u.abortWaitingLoad.passView = u.passView := passView_congr (by simp)
    have dropped (u : State) : u.dropFinalRecords.passView = u.passView := passView_congr (by simp)
    simp [aborted, dropped]
  · rfl

/-! ### Configuration, load records and seat messages -/

@[simp] theorem configure_passView (s : State) (c : ControlId) (x : ControlConfig) :
    (s.configure c x).passView = s.passView := by
  have configured : (s.setConfig c x).passView = s.passView := passView_congr (by simp)
  rw [configure_eq]
  split <;> simp [configured]

@[simp] theorem takeSetControl_passView (s : State) (f : SetControlFields) : (s.takeSetControl f).passView = s.passView := by
  unfold takeSetControl
  split <;> simp

@[simp] theorem changeSafe_passView (s : State) (i : StemId) (b : Bool) : (s.changeSafe i b).passView = s.passView := by
  have flagged : (s.setSafe i b).passView = s.passView := passView_congr (by simp)
  unfold changeSafe
  dsimp only
  split <;> simp [flagged]

@[simp] theorem takeSetStem_passView (s : State) (stem safe : Byte) : (s.takeSetStem stem safe).passView = s.passView := by
  unfold takeSetStem
  split
  · split <;> simp
  · simp

@[simp] theorem takeListRecord_passView (s : State) (r : LoadRecord) : (s.takeListRecord r).passView = s.passView := by
  have refused : (s.abortLoad (some .order)).passView = s.passView := passView_congr (by simp)
  have aborted : (s.abortLoad (some .pool)).passView = s.passView := passView_congr (by simp)
  have given (l : Load) : (s.giveLoadRecord l r).passView = s.passView := passView_congr (by simp)
  unfold takeListRecord
  split
  · simp
  · split_ifs <;> simp [refused, aborted, given]

/-- A seat message that names a fader keeps the view if its effect does. -/
theorem takeFader_passView {effect : State → SeatId → ControlId → State}
    (keeps : ∀ s i c, (effect s i c).passView = s.passView) (s : State) (p : SurfaceId) (m : SeatMessage) (f : Nat) :
    (s.takeFader p m f effect).passView = s.passView := by
  have popped : (s.popSurface p).passView = s.passView := passView_congr (by simp)
  have refused (reason : RefusalReason) (control : Option Byte) :
      ((s.popSurface p).refuseTake p m reason control).passView = s.passView := passView_congr (by simp)
  unfold takeFader
  dsimp only
  split
  · exact refused ..
  · split
    · exact refused ..
    · exact refused ..
    · exact (keeps ..).trans popped

theorem modeControl_passView (p : SurfaceId) (m : SeatMessage) (code : Byte) (s : State) (i : SeatId) (c : ControlId) :
    (modeControl p m code s i c).passView = s.passView := by
  unfold modeControl
  split
  · exact passView_congr (by simp)
  · split <;> exact passView_congr (by simp)

end State
end Sys2Proof.Machine
end

section
/-! SUPPORT. What changes the view (R21, R22, R24 to R31, R35, R36, R61, R62, R143 to R149): the engine's requests, the start
and the completion of a pass, the evaluations, the marks, the expiries, SET HUB and MIX RESET; then every command, and every
step. -/

namespace Sys2Proof.Machine

open Sys2Proof.Safety

/-! ## The roles of the banks (R144, R146, R148, R149) -/

/-- Of three banks at most two are published or reading, so one is free to build (R144). -/
theorem EnginePort.exists_bankToBuild (x : EnginePort) :
    ∃ b, x.bankToBuild = some b ∧ x.published ≠ some b ∧ x.reading ≠ some b := by
  have free : ∀ p r : Option BankId, ∃ b : BankId,
      (List.finRange 3).find? (fun b => p != some b && r != some b) = some b ∧ p ≠ some b ∧ r ≠ some b := by decide
  exact free x.published x.reading

namespace PassView

/-- The table being read is latched, and any earlier latch is dropped. -/
theorem Legal.latched {v : PassView} (h : v.Legal) {b : BankId} (table : v.published = some b) :
    { v with published := none, reading := some b }.Legal :=
  { h with
    table := .inr rfl
    latchApart := fun _ none_ => nomatch none_
    buildApart := fun k building =>
      ⟨(nomatch ·), fun same => (h.buildApart k building).1 (table.trans same)⟩ }

/-- The latched table is published again. -/
theorem Legal.unlatched {v : PassView} (h : v.Legal) {b : BankId} (latch : v.reading = some b) :
    { v with published := some b, reading := none }.Legal :=
  { h with
    table := .inl rfl
    latchApart := fun _ _ none_ => nomatch none_
    buildApart := fun k building =>
      ⟨fun same => (h.buildApart k building).2 (latch.trans same), (nomatch ·)⟩ }

/-- The latched table is dropped for a newer one. -/
theorem Legal.dropped {v : PassView} (h : v.Legal) {b : BankId} (table : v.published = some b) :
    { v with reading := none }.Legal :=
  { h with
    table := .inl (by simp [table])
    latchApart := fun _ _ none_ => nomatch none_
    buildApart := fun k building => ⟨(h.buildApart k building).1, (nomatch ·)⟩ }

/-- A pass starts with a bank that is free. -/
theorem Legal.started {v : PassView} (h : v.Legal) {b : BankId} (free : v.published ≠ some b ∧ v.reading ≠ some b) :
    { v with building := some b, inFlight := true, underWay := false }.Legal :=
  { h with
    buildApart := fun _ same => Option.some.inj same ▸ free
    builds := ⟨fun _ => rfl, fun _ => rfl⟩
    evaluates := fun _ => rfl
    pending := fun _ => rfl }

/-- A pass completes and leaves no frame pending: its bank is published. -/
theorem Legal.completed {v : PassView} (h : v.Legal) (flight : v.inFlight = true) :
    { v with published := v.building, building := none, inFlight := false, underWay := false, pends := false }.Legal :=
  { h with
    table := .inl (h.builds.2 flight)
    latchApart := fun b building => (h.buildApart b building).2
    buildApart := fun _ none_ => nomatch none_
    builds := ⟨(nomatch ·), (nomatch ·)⟩
    evaluates := (nomatch ·)
    pending := (nomatch ·) }

/-- A pass is abandoned with its pending frame (R82, R152). -/
theorem Legal.abandoned {v : PassView} (h : v.Legal) :
    { v with building := none, inFlight := false, underWay := false, pends := false }.Legal :=
  { h with
    buildApart := fun _ none_ => nomatch none_
    builds := ⟨(nomatch ·), (nomatch ·)⟩
    evaluates := (nomatch ·)
    pending := (nomatch ·) }

/-- In a pass an evaluation may be under way or not. -/
theorem Legal.underWay_any {v : PassView} (h : v.Legal) (flight : v.inFlight = true) (b : Bool) :
    { v with underWay := b }.Legal := { h with evaluates := fun _ => flight }

/-- In a pass a frame may be pending or not. -/
theorem Legal.pends_any {v : PassView} (h : v.Legal) (flight : v.inFlight = true) (b : Bool) :
    { v with pends := b }.Legal := { h with pending := fun _ => flight }

end PassView

namespace State

/-! ## The start and the completion of a pass (R35, R36, R61, R62) -/

theorem startPass_legal {s : State} (h : s.passView.Legal) (t : Frame) : (s.startPass t).passView.Legal := by
  obtain ⟨b, chosen, free⟩ := s.engine.exists_bankToBuild
  have view : (s.startPass t).passView = { s.passView with building := some b, inFlight := true, underWay := false } := by
    rw [← chosen]
    rfl
  rw [view]
  exact h.started free

theorem frameEvent_legal {s : State} (h : s.passView.Legal) (t : Frame) : (s.frameEvent t).passView.Legal := by
  by_cases flight : s.pass.run.inFlight = true
  · have pending : (s.setPendingFrame (some t)).passView.Legal := h.pends_any flight true
    unfold frameEvent
    rw [if_pos flight]
    split
    · exact pending
    · rwa [raisePassOverrun_passView]
  · rw [frameEvent_idle t (Bool.eq_false_iff.2 flight)]
    exact startPass_legal h t

theorem completePass_legal {s : State} (h : s.passView.Legal) (flight : s.passView.inFlight = true) :
    s.completePass.passView.Legal := by
  have completed := h.completed flight
  unfold completePass
  dsimp only
  split
  · next t _ =>
    refine startPass_legal ?_ t
    exact completed
  · next none_ =>
    have idle : s.tracker.pendingFrame = none := none_
    have view : ({ s.setRun PassRun.idle with engine := s.engine.completed } : State).passView =
        { s.passView with
          published := s.passView.building, building := none, inFlight := false, underWay := false, pends := false } := by
      simp [passView, EnginePort.completed, PassRun.idle, idle]
    rw [view]
    exact completed

/-! ## Evaluations (R62, R64, R76 to R78) -/

theorem endEvaluation_legal {s : State} (h : s.passView.Legal) (flight : s.passView.inFlight = true) (c : ControlId) :
    (s.endEvaluation c).passView.Legal := by
  have ended : (s.setRun { s.pass.run with wait := none, underWay := none }).passView.Legal := h.underWay_any flight false
  unfold endEvaluation
  dsimp only
  split
  exacts [completePass_legal ended flight, ended]

theorem results_passView (s : State) (e : Evaluation) : (s.results e).passView = s.passView := by
  rw [results_eq, results_engine]
  rfl

theorem finishEvaluation_legal {s : State} (h : s.passView.Legal) (flight : s.passView.inFlight = true) (e : Evaluation) :
    (s.finishEvaluation e).passView.Legal := by
  rw [finishEvaluation_eq]
  rw [← s.results_passView e] at h flight
  exact endEvaluation_legal h flight e.control

theorem enterWait_legal {s : State} (h : s.passView.Legal) (flight : s.passView.inFlight = true) (e : Evaluation)
    (cause : WaitCause) (todo : EvalTodo) : (s.enterWait e cause todo).passView.Legal := h.underWay_any flight true

theorem closeAtGlideEnd_passView (s : State) (e : Evaluation) : (s.closeAtGlideEnd e).passView = s.passView :=
  passView_congr (by simp)

/-- After the work of the Segment Writer the evaluation finishes, or it waits. -/
theorem settleWriter_legal {s : State} (h : s.passView.Legal) (flight : s.passView.inFlight = true) (e : Evaluation)
    (todo : EvalTodo) {a : WriterAnswer} (keeps : ∀ s1, a = .done s1 → s1.passView = s.passView) :
    (s.settleWriter e todo a).passView.Legal := by
  cases a with
  | waits cause => exact enterWait_legal h flight e cause todo
  | done s1 =>
    have kept : (if todo = .append then s1.closeAtGlideEnd e else s1).passView = s.passView := by
      split
      exacts [(s1.closeAtGlideEnd_passView e).trans (keeps s1 rfl), keeps s1 rfl]
    rw [← kept] at h flight
    exact finishEvaluation_legal h flight e

theorem latePunch_passView (s : State) (c : ControlId) : (s.latePunch c).passView = s.passView := by
  unfold latePunch
  split
  · rfl
  · exact passView_congr (by simp [setLatePunch])

theorem punchIn_passView {s s1 : State} {c : ControlId} {t : Frame} {l : Level} (h : s.punchIn c t l = .done s1) :
    s1.passView = s.passView := by
  unfold punchIn at h
  split at h
  · split at h
    · split at h
      · next opened =>
        cases h
        exact passView_congr (by simp [openSegment_frame opened])
      · cases h
    · cases h
  · cases h
    exact s.latePunch_passView c

theorem append_passView {s s1 : State} {e : Evaluation} {g : Segment} (h : s.append e g = .done s1) :
    s1.passView = s.passView := by
  unfold append at h
  split at h
  · cases h
    exact s.truncate_passView e g
  · split at h
    · cases h
    · split at h
      · split at h
        · next took =>
          cases h
          exact passView_congr (by simp [takeSlot_frame took])
        · cases h
      · cases h

theorem attemptPunchIn_legal {s : State} (h : s.passView.Legal) (flight : s.passView.inFlight = true) (e : Evaluation) :
    (s.attemptPunchIn e).passView.Legal := settleWriter_legal h flight e .punchIn fun _ => punchIn_passView

theorem continueSegment_legal {s : State} (h : s.passView.Legal) (flight : s.passView.inFlight = true) (e : Evaluation)
    (g : Segment) : (s.continueSegment e g).passView.Legal := by
  refine settleWriter_legal h flight e .append fun s1 answer => ?_
  split at answer
  · cases answer
    rfl
  · exact append_passView answer

theorem withoutSegment_legal {s : State} (h : s.passView.Legal) (flight : s.passView.inFlight = true) (e : Evaluation) :
    (s.withoutSegment e).passView.Legal := by
  unfold withoutSegment
  split
  exacts [attemptPunchIn_legal h flight e, finishEvaluation_legal h flight e]

theorem writerStep_legal {s : State} (h : s.passView.Legal) (flight : s.passView.inFlight = true) (e : Evaluation) :
    (s.writerStep e).passView.Legal := by
  unfold writerStep
  split
  · next g _ =>
    split
    · have closed := s.closeSegment_passView e.control g (s.lastEvaluatedFrame e.control g)
      rw [← closed] at h flight
      exact withoutSegment_legal h flight e
    · exact continueSegment_legal h flight e g
  · exact withoutSegment_legal h flight e

theorem evaluationStep_passView (s : State) (c : ControlId) (t : Frame) : (s.evaluationStep c t).passView = s.passView := by
  simp [passView]

theorem recordChoice_passView (s : State) (x : Inputs) (y : Choice) : (s.recordChoice x y).passView = s.passView := rfl

theorem evaluate_legal {s : State} (h : s.passView.Legal) (flight : s.passView.inFlight = true) (c : ControlId) (t : Frame) :
    (s.evaluate c t).passView.Legal := by
  unfold evaluate
  extract_lets begun x y
  have view : (begun.recordChoice x y).passView = s.passView :=
    (begun.recordChoice_passView x y).trans (s.evaluationStep_passView c t)
  rw [← view] at h flight
  exact writerStep_legal h flight _

theorem resume_legal {s : State} (h : s.passView.Legal) (flight : s.passView.inFlight = true) (e : Evaluation) :
    (s.resume e).passView.Legal := by
  unfold resume
  split
  · exact attemptPunchIn_legal h flight e
  · split
    exacts [continueSegment_legal h flight e _, finishEvaluation_legal h flight e]
  · exact finishEvaluation_legal h flight e

theorem inFlight_of_evaluationDue {s : State} {x : ControlId × Frame} (due : s.evaluationDue = some x) :
    s.passView.inFlight = true := by
  unfold evaluationDue at due
  split at due
  · assumption
  · cases due

theorem underWay_of_resumable {s : State} {e : Evaluation} (goesOn : s.resumable = some e) :
    s.passView.underWay = true := by
  cases run : s.pass.run.underWay with
  | none => cases (resumable_none run).symm.trans goesOn
  | some _ => simp [passView, run]

/-! ## Marks (R24 to R26) -/

/-- A mark's frame is one that 24 bits hold. -/
theorem takeStoppedMark_legal {s : State} (h : s.passView.Legal) {f : Frame} (fits : f ≤ Config.maxFrame) :
    (s.takeStoppedMark f).passView.Legal := by
  have view : (s.takeStoppedMark f).passView =
      { s.passView with runCount := 0, freewheelCount := 0, currentFrame := f } := by
    unfold takeStoppedMark
    extract_lets x parked closed relocated
    have closes : closed.passView = parked.passView := passView_ite parked.closeAll_passView rfl
    have relocates : relocated.passView = closed.passView := passView_ite rfl closed.relocateAll_passView
    rw [postTransportWhen_passView, relocates, closes]
    rfl
  rw [view]
  exact { h with
    runCount_le := Nat.zero_le _
    freewheelCount_le := Nat.zero_le _
    currentFrame_le := fits }

theorem runOn_le (x : Tracker) : x.runOn ≤ 255 := Nat.min_le_left ..

theorem takeMovingMarkParked_legal {s : State} (h : s.passView.Legal) {f : Frame} (fits : f ≤ Config.maxFrame) :
    (s.takeMovingMarkParked f).passView.Legal := by
  unfold takeMovingMarkParked
  extract_lets x run state marked relocated acquired left
  have run_le : run ≤ 255 := by
    unfold run
    split
    exacts [runOn_le x, by decide]
  have marks : marked.passView.Legal := { h with runCount_le := run_le, currentFrame_le := fits }
  have relocates : relocated.passView = marked.passView := passView_ite rfl marked.relocateAll_passView
  have acquires : acquired.passView = relocated.passView := passView_ite relocated.acquire_passView rfl
  have leaves : left.passView = acquired.passView := passView_ite acquired.leaveStopped_passView rfl
  rw [postTransportWhen_passView]
  rw [← relocates, ← acquires, ← leaves] at marks
  exact frameEvent_legal marks f

theorem takeMovingMarkRolling_legal {s : State} (h : s.passView.Legal) {f : Frame} (fits : f ≤ Config.maxFrame) :
    (s.takeMovingMarkRolling f).passView.Legal := by
  unfold takeMovingMarkRolling
  extract_lets x goesOn jumped
  split
  · have marks : goesOn.passView.Legal :=
      { h with runCount_le := runOn_le x, freewheelCount_le := Nat.zero_le _, currentFrame_le := fits }
    rw [postTransportWhen_passView]
    exact frameEvent_legal marks f
  · have marks : jumped.passView.Legal :=
      { h with runCount_le := (by decide : 1 ≤ 255), freewheelCount_le := Nat.zero_le _, currentFrame_le := fits }
    rw [← closeAll_passView, ← relocateAll_passView] at marks
    rw [postTransport_passView]
    exact frameEvent_legal marks f

theorem takeMark_legal {s : State} (h : s.passView.Legal) {f : Frame} (fits : f ≤ Config.maxFrame) (m : Motion) :
    (s.takeMark f m).passView.Legal := by
  unfold takeMark
  split
  · exact takeStoppedMark_legal h fits
  · split
    exacts [takeMovingMarkRolling_legal h fits, takeMovingMarkParked_legal h fits]

/-! ## Expiries (R28 to R31) -/

theorem stopByTimer_legal {s : State} (h : s.passView.Legal) (lockLost : Bool) : (s.stopByTimer lockLost).passView.Legal := by
  unfold stopByTimer
  extract_lets x stopped told
  have stops : stopped.passView.Legal := { h with runCount_le := Nat.zero_le _, freewheelCount_le := Nat.zero_le _ }
  have tells : told.passView = stopped.passView := passView_ite stopped.raiseLockLost_passView rfl
  rw [← tells, ← closeAll_passView] at stops
  rw [postTransport_passView]
  exact frameEvent_legal stops _

/-- The timer advances below the last frame, and up to the freewheel limit. -/
theorem freewheelTo_legal {s : State} (h : s.passView.Legal) {count : Nat} (inside : s.tracker.currentFrame < Config.maxFrame)
    (within : count ≤ 31) : (s.freewheelTo count).passView.Legal := by
  unfold freewheelTo
  extract_lets x advanced
  have advances : advanced.passView.Legal := { h with freewheelCount_le := within, currentFrame_le := inside }
  rw [postTransportWhen_passView]
  exact frameEvent_legal advances _

theorem takeExpiry_legal {s : State} (h : s.passView.Legal) : s.takeExpiry.passView.Legal := by
  cases transport : s.tracker.transport with
  | stopped =>
    rw [takeExpiry_stopped transport]
    exact frameEvent_legal h _
  | chase =>
    rw [takeExpiry_chase transport, postTransport_passView]
    have stops : (s.setTracker { s.tracker with
        transport := .stopped, runCount := 0, freewheelCount := 0 }).passView.Legal :=
      { h with runCount_le := Nat.zero_le _, freewheelCount_le := Nat.zero_le _ }
    exact frameEvent_legal stops _
  | play =>
    rw [takeExpiry_play transport]
    split_ifs with last unlimited
    · exact stopByTimer_legal h false
    · exact stopByTimer_legal h true
    · exact freewheelTo_legal h (not_le.1 last) (by decide)
  | freewheel =>
    rw [takeExpiry_freewheel transport]
    split_ifs with ends
    · exact stopByTimer_legal h true
    · obtain ⟨limit, inside⟩ := not_or.1 ends
      exact freewheelTo_legal h (not_le.1 inside) (((not_lt.1 limit).trans h.freewheelLimit_le).trans (by decide))

/-! ## The resets and SET HUB (R1, R22, R192) -/

theorem powerOnReset_legal (s : State) : s.powerOnReset.passView.Legal := by
  have view : s.powerOnReset.passView = State.reset.passView := rfl
  rw [view]
  exact State.reset.passView_legal_iff.2 ⟨rolesLegal_reset, trackerLegal_reset⟩

theorem takeMixReset_legal {s : State} (h : s.passView.Legal) : s.takeMixReset.passView.Legal := by
  have touches : s.removeAllTouches.passView = s.passView := passView_congr (by simp)
  have records (u : State) : u.resetRecords.passView = u.passView :=
    passView_congr (by simp [resetRecords])
  have returned (u : State) : (u.discardAll.abortLoad (some .reset)).passView = u.passView := passView_congr (by simp)
  rw [← touches] at h
  have abandoned : s.removeAllTouches.abandonPass.passView.Legal := h.abandoned
  unfold takeMixReset
  dsimp only
  rwa [postDone_passView, clearFlagSet_passView, relocateAll_passView, returned, records]

/-- SET HUB writes numbers that its checks have passed. -/
theorem takeSetHub_legal {s : State} (h : s.passView.Legal) (rate acquire limit : Byte) (stale : Nat) :
    (s.takeSetHub rate acquire limit stale).passView.Legal := by
  unfold takeSetHub
  split
  · rwa [refuseEditor_passView]
  · next passed =>
    unfold hubRefusal at passed
    split_ifs at passed with rolling badRate badAcquire badLimit badStale
    have rates : rate.toNat = 24 ∨ rate.toNat = 25 ∨ rate.toNat = 30 := by omega
    have acquires : 1 ≤ acquire.toNat ∧ acquire.toNat ≤ 8 := by omega
    rw [postDone_passView]
    exact { h with
      rate_mem := rates
      acquireCount_mem := acquires
      freewheelLimit_le := not_lt.1 badLimit }

/-! ## The engine's requests (R148 to R150) -/

theorem blockStart_legal {s : State} (h : s.passView.Legal) :
    ({ s with engine := s.engine.blockStart } : State).passView.Legal := by
  unfold EnginePort.blockStart
  split
  · next b table => exact h.latched table
  · exact h

theorem blockEnd_legal {s : State} (h : s.passView.Legal) : ({ s with engine := s.engine.blockEnd } : State).passView.Legal := by
  unfold EnginePort.blockEnd
  split
  · next b latch _ => exact h.unlatched latch
  · next b z _ table => exact h.dropped table
  · exact h

theorem engineRead_passView (s : State) (word : BitVec 32) :
    ({ s with engine := { s.engine with dataOut := word } } : State).passView = s.passView := rfl

end State

/-! ## Every step -/

/-- The commands that change the view. -/
def changesView : Instr → Bool
  | .powerOnReset | .frameMark _ _ _ | .frameTimerExpiry | .controlEvaluation | .evaluationResume | .blockStart | .blockEnd
  | .setHub | .mixReset => true
  | _ => false

/-- Each command that changes the view keeps it legal. -/
theorem exec_legal {c : Instr} {s : State} (changes : changesView c = true) (h : s.passView.Legal) :
    ∃ t, exec c s = .next t ∧ t.passView.Legal := by
  cases c with
  | powerOnReset => exact ⟨_, rfl, s.powerOnReset_legal⟩
  | frameMark lineOk f m =>
    have fits : f.toNat ≤ Config.maxFrame := by
      have bound := f.isLt
      simp only [Config.maxFrame]
      omega
    refine ⟨_, rfl, ?_⟩
    split
    · rw [State.transmitAll_passView, State.settlePool_passView]
      exact State.takeMark_legal h fits m
    · exact h
  | frameTimerExpiry =>
    refine ⟨_, rfl, ?_⟩
    rw [State.transmitAll_passView, State.settlePool_passView]
    exact State.takeExpiry_legal (s := s.atExpiry) h
  | controlEvaluation =>
    simp only [exec, execControlEvaluation]
    split
    · next c t due =>
      refine ⟨_, rfl, ?_⟩
      rw [State.transmitAll_passView, State.settlePool_passView]
      exact State.evaluate_legal h (State.inFlight_of_evaluationDue due) c t
    · exact ⟨_, rfl, h⟩
  | evaluationResume =>
    simp only [exec, execEvaluationResume]
    split
    · next e goesOn =>
      refine ⟨_, rfl, ?_⟩
      rw [State.transmitAll_passView, State.settlePool_passView]
      exact State.resume_legal h (h.evaluates (State.underWay_of_resumable goesOn)) e
    · exact ⟨_, rfl, h⟩
  | blockStart => exact ⟨_, rfl, State.blockStart_legal h⟩
  | blockEnd => exact ⟨_, rfl, State.blockEnd_legal h⟩
  | setHub =>
    simp only [exec, execSetHub]
    split
    · refine ⟨_, rfl, ?_⟩
      rw [State.transmitEditor_passView]
      exact State.takeSetHub_legal (by rwa [State.popEditor_passView]) _ _ _ _
    · exact ⟨_, rfl, h⟩
  | mixReset =>
    simp only [exec, execMixReset]
    split
    · refine ⟨_, rfl, ?_⟩
      rw [State.transmitEditor_passView]
      exact State.takeMixReset_legal (by rwa [State.popEditor_passView])
    · exact ⟨_, rfl, h⟩
  | _ => cases changes

/-- Every other command leaves the view as it is. -/
theorem exec_passView {c : Instr} (s : State) (apart : changesView c = false) :
    ∃ t, exec c s = .next t ∧ t.passView = s.passView := by
  cases c with
  | powerOnReset | frameMark | frameTimerExpiry | controlEvaluation | evaluationResume | blockStart | blockEnd | setHub
  | mixReset => cases apart
  | engineRead index => exact ⟨_, rfl, s.engineRead_passView _⟩
  | deferredClosingWork | loadRecordSlot =>
    refine ⟨_, rfl, ?_⟩
    rw [State.transmitAll_passView, State.settlePool_passView]
    exact State.passView_congr (by simp)
  | surfaceFrameReceived | editorFrameReceived => exact ⟨_, rfl, State.passView_congr (by simp)⟩
  | farHoldChange port raised => cases port <;> exact ⟨_, rfl, State.passView_congr (by simp)⟩
  | mode =>
    simp only [exec, execMode]
    split
    · exact ⟨_, rfl, (State.transmitAt_passView ..).trans
        (State.takeFader_passView (fun _ _ _ => State.modeControl_passView ..) ..)⟩
    · exact ⟨_, rfl, rfl⟩
  | touch | move | release | query =>
    simp only [exec, execTouch, execMove, execRelease, execQuery]
    split
    · refine ⟨_, rfl, ?_⟩
      simp only [State.transmitAll_passView, State.transmitAt_passView]
      exact State.takeFader_passView (fun _ _ _ => State.passView_congr (by simp)) ..
    · exact ⟨_, rfl, rfl⟩
  | setControl | setStem | listRecord | clearFlags =>
    simp only [exec, execSetControl, execSetStem, execListRecord, execClearFlags]
    split <;> exact ⟨_, rfl, by simp⟩
  | memoryGrant | appendWriteComplete | closingWriteComplete | chainReturnWriteComplete | refillReadComplete | fetchComplete
  | walkStart | walkReadComplete | spliceStart | spliceWalkReadComplete | spliceWriteComplete | formatWriteComplete
  | loadWriteComplete | loadReplacement | clearListEvent | listReadRequest | listReadComplete | silenceExpiry
  | surfaceFrameSent | bank | hello | editorSilenceExpiry | editorFrameSent | setSeat | listBegin | listEnd | readList
  | clearList | status | linkReset =>
    simp only [exec, execMemoryGrant, execAppendWriteComplete, execClosingWriteComplete, execChainReturnWriteComplete,
      execRefillReadComplete, execFetchComplete, execWalkStart, execWalkReadComplete, execSpliceStart,
      execSpliceWalkReadComplete, execSpliceWriteComplete, execFormatWriteComplete, execLoadWriteComplete,
      execLoadReplacement, execClearListEvent, execListReadRequest, execListReadComplete, execSilenceExpiry,
      execSurfaceFrameSent, execBank, execHello, execEditorSilenceExpiry, execEditorFrameSent, execSetSeat, execListBegin,
      execListEnd, execReadList, execClearList, execStatus, execLinkReset]
    split <;> exact ⟨_, rfl, State.passView_congr (by simp)⟩

/-- A step goes on to a legal view from a legal view; a tick changes no view. -/
theorem step_legal {s : State} (h : s.passView.Legal) : ∃ t, step s = .next t ∧ t.passView.Legal := by
  unfold step
  split
  · exact ⟨_, rfl, h⟩
  · next c rest _ =>
    cases changes : changesView c with
    | true => exact exec_legal (s := { s with pending := rest }) changes h
    | false =>
      obtain ⟨t, next, kept⟩ := exec_passView { s with pending := rest } changes
      have legal : t.passView.Legal := by
        rw [kept]
        exact h
      exact ⟨t, next, legal⟩

/-- Settles O54: the two invariants together say that the view is legal, and every step keeps it so. -/
theorem stepKeepsRolesAndTracker : Obligations.StepKeepsRolesAndTracker := by
  intro s t roles tracker stepped
  obtain ⟨u, next, legal⟩ := step_legal (s.passView_legal_iff.2 ⟨roles, tracker⟩)
  rw [stepped] at next
  cases next
  exact t.passView_legal_iff.1 legal

end Sys2Proof.Machine
end

section
/-! SUPPORT. The choices of the transmit arbiters (R169 to R171, R179): what each begins by what waits at its port, and what
the end of a frame takes from its collection. -/

namespace Sys2Proof.Machine

open Sys2Proof.Safety

/-- The search in rising order finds the lowest number that passes. -/
theorem find?_finRange_eq_some_iff {n : Nat} {test : Fin n → Bool} {c : Fin n} :
    (List.finRange n).find? test = some c ↔ test c = true ∧ ∀ d, d < c → test d = false := by
  rw [List.find?_eq_some_iff_getElem]
  refine and_congr_right fun _ => ⟨?lowest, fun below => ⟨c.val, by simp, by simp, fun j before => ?first⟩⟩
  case lowest =>
    rintro ⟨i, inRange, rfl, below⟩ d before
    simpa using below d.val (by simpa [Fin.lt_def] using before)
  case first => simpa using below ⟨j, before.trans c.isLt⟩ before

theorem find?_finRange_eq_none_iff {n : Nat} {test : Fin n → Bool} :
    (List.finRange n).find? test = none ↔ ∀ d, test d = false := by
  simp

namespace SurfacePort

variable {x : SurfacePort}

/-! ## What waits at a surface port (R169, R171) -/

theorem nextNotice_eq_some_iff {c : ControlId} :
    x.nextNotice = some c ↔ tget x.notices c ≠ none ∧ ∀ d, d < c → tget x.notices d = none := by
  simp only [nextNotice, find?_finRange_eq_some_iff, Option.isSome_eq_false_iff, Option.isNone_iff_eq_none,
    Option.isSome_iff_ne_none]

theorem nextNotice_eq_none_iff : x.nextNotice = none ↔ ∀ d, tget x.notices d = none := by
  simp only [nextNotice, find?_finRange_eq_none_iff, Option.isSome_eq_false_iff, Option.isNone_iff_eq_none]

/-- The lowest-numbered follow entry (R171). -/
theorem lowestFollow_eq_some_iff {c : ControlId} :
    (List.finRange 208).find? (fun d => (tget x.follow d).isSome) = some c ↔
      tget x.follow c ≠ none ∧ ∀ d, d < c → tget x.follow d = none := by
  simp only [find?_finRange_eq_some_iff, Option.isSome_eq_false_iff, Option.isNone_iff_eq_none,
    Option.isSome_iff_ne_none]

/-- The lowest-numbered follow entry above a control (R171). -/
theorem followAbove_eq_some_iff {q c : ControlId} :
    (List.finRange 208).find? (fun d => decide (q < d) && (tget x.follow d).isSome) = some c ↔
      (q < c ∧ tget x.follow c ≠ none) ∧ ∀ d, d < c → q < d → tget x.follow d = none := by
  simp only [find?_finRange_eq_some_iff, Bool.and_eq_true, decide_eq_true_eq, Option.isSome_iff_ne_none,
    Bool.and_eq_false_imp, Option.isSome_eq_false_iff, Option.isNone_iff_eq_none]

theorem followAbove_eq_none_iff {q : ControlId} :
    (List.finRange 208).find? (fun d => decide (q < d) && (tget x.follow d).isSome) = none ↔
      ∀ d, q < d → tget x.follow d = none := by
  simp only [find?_finRange_eq_none_iff, Bool.and_eq_false_imp, decide_eq_true_eq, Option.isSome_eq_false_iff,
    Option.isNone_iff_eq_none]

/-- The follow position goes round: an entry above it first, else the lowest (R171). -/
theorem nextFollow_eq_some {c : ControlId} (waits : tget x.follow c ≠ none)
    (next : (∃ q, x.followPosition = some q ∧ q < c ∧ ∀ d, q < d → d < c → tget x.follow d = none) ∨
      ((∀ q d, x.followPosition = some q → q < d → tget x.follow d = none) ∧ ∀ d, d < c → tget x.follow d = none)) :
    x.nextFollow = some c := by
  obtain ⟨q, position, above, between⟩ | ⟨noneAbove, lowest⟩ := next
  · have found := followAbove_eq_some_iff.2 ⟨⟨above, waits⟩, fun d below after => between d after below⟩
    simp only [nextFollow, position, found]
  · have found := lowestFollow_eq_some_iff.2 ⟨waits, lowest⟩
    cases position : x.followPosition with
    | none => simpa only [nextFollow, position] using found
    | some q =>
      have passed := followAbove_eq_none_iff.2 fun d after => noneAbove q d position after
      simpa only [nextFollow, position, passed] using found

theorem nextFollow_eq_none_iff : x.nextFollow = none ↔ ∀ d, tget x.follow d = none := by
  have lowest : (List.finRange 208).find? (fun d => (tget x.follow d).isSome) = none ↔ ∀ d, tget x.follow d = none := by
    simp only [find?_finRange_eq_none_iff, Option.isSome_eq_false_iff, Option.isNone_iff_eq_none]
  unfold nextFollow
  split
  · exact lowest
  · split
    · next c found =>
      refine iff_of_false (by simp) fun empty => ?_
      exact (followAbove_eq_some_iff.1 found).1.2 (empty c)
    · exact lowest

/-- What the follow position comes to next is an entry of the set. -/
theorem follow_of_nextFollow {c : ControlId} (next : x.nextFollow = some c) : ∃ e, tget x.follow c = some e := by
  have entry : (List.finRange 208).find? (fun d => (tget x.follow d).isSome) = some c → ∃ e, tget x.follow c = some e :=
    fun found => Option.ne_none_iff_exists'.1 (lowestFollow_eq_some_iff.1 found).1
  unfold nextFollow at next
  split at next
  · exact entry next
  · split at next
    · next found =>
      cases next
      exact Option.ne_none_iff_exists'.1 (followAbove_eq_some_iff.1 found).1.2
    · exact entry next

/-! ## What a surface port's arbiter begins (R169) -/

theorem choose_reply {r : SeatReply} {rest : List SeatReply} (replies : x.replies = r :: rest) :
    x.choose = x.begin .reply r.message r.seat := by
  simp only [choose, replies]

theorem choose_notice {c : ControlId} {e : NoticeEntry} (replies : x.replies = []) (entry : tget x.notices c = some e)
    (lowest : ∀ d, d < c → tget x.notices d = none) : x.choose =
      SurfacePort.begin { x with notices := tset x.notices c (some { e with onLink := true }) }
        (.notice c) (e.notice.message c) (e.seat.val + 1) := by
  have next : x.nextNotice = some c := nextNotice_eq_some_iff.2 ⟨by simp [entry], lowest⟩
  simp only [choose, replies, next, entry]
  rfl

theorem choose_transport {n : TransportNotice} (replies : x.replies = []) (notices : ∀ d, tget x.notices d = none)
    (owed : x.transportNotice = some n) : x.choose =
      SurfacePort.begin { x with transportNotice := some { n with onLink := true } }
        .transport (.transport n.state n.frame) 0 := by
  simp only [choose, replies, nextNotice_eq_none_iff.2 notices, owed]

theorem choose_follow {c : ControlId} {e : FollowEntry} (replies : x.replies = [])
    (notices : ∀ d, tget x.notices d = none) (transport : x.transportNotice = none) (next : x.nextFollow = some c)
    (entry : tget x.follow c = some e) : x.choose =
      SurfacePort.begin { x with follow := tset x.follow c (some { e with onLink := true }) }
        (.follow c e.level) (.follow c e.level) 0 := by
  simp only [choose, replies, nextNotice_eq_none_iff.2 notices, transport, next, entry]

theorem choose_nothing (replies : x.replies = []) (notices : ∀ d, tget x.notices d = none)
    (transport : x.transportNotice = none) (follow : ∀ d, tget x.follow d = none) : x.choose = x := by
  simp only [choose, replies, nextNotice_eq_none_iff.2 notices, transport, nextFollow_eq_none_iff.2 follow]

/-- Nothing waits to be sent at a surface port (R169). -/
structure NothingWaits (x : SurfacePort) : Prop where
  replies : x.replies = []
  notices : ∀ c, tget x.notices c = none
  transport : x.transportNotice = none
  follow : ∀ c, tget x.follow c = none

/-- The arbiter begins a frame unless nothing waits. -/
theorem choose_begins (x : SurfacePort) : x.choose.sending ≠ none ∨ (x.choose = x ∧ x.NothingWaits) := by
  cases replies : x.replies with
  | cons r rest => exact .inl (by simp [choose_reply replies, SurfacePort.begin])
  | nil =>
    cases notice : x.nextNotice with
    | some c =>
      obtain ⟨waits, lowest⟩ := nextNotice_eq_some_iff.1 notice
      obtain ⟨e, entry⟩ := Option.ne_none_iff_exists'.1 waits
      exact .inl (by simp [choose_notice replies entry lowest, SurfacePort.begin])
    | none =>
      have notices := nextNotice_eq_none_iff.1 notice
      cases transport : x.transportNotice with
      | some n => exact .inl (by simp [choose_transport replies notices transport, SurfacePort.begin])
      | none =>
        cases next : x.nextFollow with
        | some c =>
          obtain ⟨e, entry⟩ := follow_of_nextFollow next
          exact .inl (by simp [choose_follow replies notices transport next entry, SurfacePort.begin])
        | none =>
          have follow := nextFollow_eq_none_iff.1 next
          exact .inr ⟨choose_nothing replies notices transport follow, replies, notices, transport, follow⟩

theorem transmit_free (free : x.link = .up ∧ x.sending = none ∧ x.farHold = false) : x.transmit = x.choose := if_pos free

theorem transmit_notFree (notFree : ¬(x.link = .up ∧ x.sending = none ∧ x.farHold = false)) : x.transmit = x :=
  if_neg notFree

end SurfacePort

namespace EditorPort

variable {x : EditorPort}

/-! ## What the editor port's arbiter begins (R179) -/

/-- Only reserved places, which hold no reply yet. -/
def NoneHeld (l : List ReplyPlace) : Prop := ∀ r ∈ l, ∃ o, r = .reserved o

theorem firstHeld_eq_some {front back : List ReplyPlace} {m : OutMessage} (replies : x.replies = front ++ .held m :: back)
    (reserved : NoneHeld front) : x.firstHeld = some m := by
  rw [firstHeld, replies, List.findSome?_append, List.findSome?_eq_none_iff.2 fun r among => ?passed]
  · rfl
  case passed =>
    obtain ⟨o, rfl⟩ := reserved r among
    rfl

theorem firstHeld_eq_none_iff : x.firstHeld = none ↔ NoneHeld x.replies := by
  rw [firstHeld, List.findSome?_eq_none_iff]
  refine forall₂_congr fun r _ => ?_
  cases r <;> simp

theorem choose_held {m : OutMessage} (flags : Byte) (held : x.firstHeld = some m) : x.choose flags = x.begin .reply m := by
  simp only [choose, held]

theorem choose_flags (flags : Byte) (reserved : NoneHeld x.replies) (pending : x.flagNotice ≠ none) :
    x.choose flags = EditorPort.begin { x with flagNotice := some true } .flags (.flags flags) := by
  obtain ⟨b, notice⟩ := Option.ne_none_iff_exists'.1 pending
  simp only [choose, firstHeld_eq_none_iff.2 reserved, notice]

theorem choose_transport {n : TransportNotice} (flags : Byte) (reserved : NoneHeld x.replies)
    (noFlags : x.flagNotice = none) (owed : x.transportNotice = some n) : x.choose flags =
      EditorPort.begin { x with transportNotice := some { n with onLink := true } }
        .transport (.transport n.state n.frame) := by
  simp only [choose, firstHeld_eq_none_iff.2 reserved, noFlags, owed]

theorem choose_nothing (flags : Byte) (reserved : NoneHeld x.replies) (noFlags : x.flagNotice = none)
    (transport : x.transportNotice = none) : x.choose flags = x := by
  simp only [choose, firstHeld_eq_none_iff.2 reserved, noFlags, transport]

/-- Nothing waits to be sent at the editor port (R179). -/
structure NothingWaits (x : EditorPort) : Prop where
  replies : NoneHeld x.replies
  flags : x.flagNotice = none
  transport : x.transportNotice = none

/-- The arbiter begins a frame unless nothing waits. -/
theorem choose_begins (x : EditorPort) (flags : Byte) :
    (x.choose flags).sending ≠ none ∨ (x.choose flags = x ∧ x.NothingWaits) := by
  cases held : x.firstHeld with
  | some m => exact .inl (by simp [choose_held flags held, EditorPort.begin])
  | none =>
    have reserved := firstHeld_eq_none_iff.1 held
    cases pending : x.flagNotice with
    | some b => exact .inl (by simp [choose_flags flags reserved (by simp [pending]), EditorPort.begin])
    | none =>
      cases transport : x.transportNotice with
      | some n => exact .inl (by simp [choose_transport flags reserved pending transport, EditorPort.begin])
      | none => exact .inr ⟨choose_nothing flags reserved pending transport, reserved, pending, transport⟩

end EditorPort

theorem State.transmitEditor_free {s : State}
    (free : s.editor.link = .up ∧ s.editor.sending = none ∧ s.editor.farHold = false) :
    s.transmitEditor = s.setEditor (s.editor.choose s.flagSet) := if_pos free

theorem State.transmitEditor_notFree {s : State}
    (notFree : ¬(s.editor.link = .up ∧ s.editor.sending = none ∧ s.editor.farHold = false)) :
    s.transmitEditor = s := if_neg notFree

theorem setSurface_transmitAt (s : State) (p : SurfaceId) (x : SurfacePort) :
    (s.setSurface p x).transmitAt p = s.setSurface p x.transmit := by
  rw [State.transmitAt, State.surfaceOf_setSurface_self, State.setSurface_setSurface]

/-- Settles O40: the choice by what waits, at a surface port and at the editor port. -/
theorem arbiterChooses : Obligations.ArbiterChooses := by
  refine ⟨fun s p raised => congrArg _ (setSurface_transmitAt s p _), fun s raised => rfl,
    fun x => ⟨SurfacePort.transmit_notFree, fun free => ?surface⟩, fun s => ⟨State.transmitEditor_notFree, fun free => ?editor⟩⟩
  case surface =>
    simp only [SurfacePort.transmit_free free]
    refine ⟨fun r rest replies => SurfacePort.choose_reply replies,
      fun c e replies entry lowest => SurfacePort.choose_notice replies entry lowest,
      fun n replies notices owed => SurfacePort.choose_transport replies notices owed,
      fun c e replies notices transport entry next => ?_, SurfacePort.choose_nothing⟩
    exact SurfacePort.choose_follow replies notices transport
      (SurfacePort.nextFollow_eq_some (by simp [entry]) next) entry
  case editor =>
    rw [State.transmitEditor_free free]
    refine ⟨fun front back m replies reserved => ?reply, fun reserved pending => ?flags,
      fun n reserved noFlags owed => ?transport, fun reserved noFlags transport => ?nothing⟩
    case reply => rw [EditorPort.choose_held _ (EditorPort.firstHeld_eq_some replies reserved)]; rfl
    case flags => rw [EditorPort.choose_flags _ reserved pending]; rfl
    case transport => rw [EditorPort.choose_transport _ reserved noFlags owed]; rfl
    case nothing => rw [EditorPort.choose_nothing _ reserved noFlags transport]; rfl

/-! ## The end of a frame (R164, R169, R171, R179) -/

theorem exec_surfaceFrameSent {s : State} {p : SurfaceId} {t : Transmission} (sends : (s.surfaceOf p).sending = some t) :
    exec (.surfaceFrameSent p) s = .next (s.setSurface p ((s.surfaceOf p).sent t).transmit) := by
  simp only [exec, execSurfaceFrameSent, sends, setSurface_transmitAt]

theorem exec_surfaceFrameSent_idle {s : State} {p : SurfaceId} (idle : (s.surfaceOf p).sending = none) :
    exec (.surfaceFrameSent p) s = .next s := by
  simp only [exec, execSurfaceFrameSent, idle]

theorem exec_editorFrameSent {s : State} {t : Transmission} (sends : s.editor.sending = some t) :
    exec .editorFrameSent s = .next (State.transmitEditor { s with editor := s.editor.sent t }) := by
  simp only [exec, execEditorFrameSent, sends]
  rfl

theorem exec_editorFrameSent_idle {s : State} (idle : s.editor.sending = none) : exec .editorFrameSent s = .next s := by
  simp only [exec, execEditorFrameSent, idle]

/-- A FOLLOW that has been sent is written down whether or not its entry was replaced meanwhile (R171). -/
theorem SurfacePort.sent_follow (x : SurfacePort) (c : ControlId) (l : Level) (bytes : List Byte) :
    x.sent { source := .follow c l, bytes := bytes } = { x with
      sending := none, followPosition := some c, lastSent := tset x.lastSent c (some l)
      follow := match tget x.follow c with
        | some e => if e.onLink then tset x.follow c none else x.follow
        | none => x.follow } := by
  cases entry : tget x.follow c with
  | none => simp [sent, entry]
  | some e => cases mark : e.onLink <;> simp [sent, entry, mark]

/-- The first held reply leaves, and the reserved places before it stay (R179). -/
theorem dropFirstHeld_eq {front back : List ReplyPlace} (m : OutMessage) (reserved : EditorPort.NoneHeld front) :
    dropFirstHeld (front ++ .held m :: back) = front ++ back := by
  induction front with
  | nil => rfl
  | cons r front ih =>
    obtain ⟨o, rfl⟩ := reserved r List.mem_cons_self
    exact congrArg (ReplyPlace.reserved o :: ·) (ih fun q among => reserved q (List.mem_cons_of_mem _ among))

/-- Settles O41: the end of a frame by the place its entry stood in. -/
theorem framesSent : Obligations.FramesSent := by
  refine ⟨fun s p bytes => ⟨fun sends => ?reply, fun c e entry sends => ?notice, fun n owed sends => ?transport,
      fun c l sends => ?follow, fun sends => ?gone⟩, fun s p => exec_surfaceFrameSent_idle,
    fun s bytes => ⟨fun front back m replies reserved sends => ?editorReply, fun sends => ?flags,
      fun n owed sends => ?editorTransport, fun sends => ?editorGone⟩, fun s => exec_editorFrameSent_idle⟩
  case reply | gone => exact exec_surfaceFrameSent sends
  case notice =>
    rw [exec_surfaceFrameSent sends]
    simp only [SurfacePort.sent, entry]
  case transport =>
    rw [exec_surfaceFrameSent sends]
    simp only [SurfacePort.sent, owed]
  case follow =>
    exact (exec_surfaceFrameSent sends).trans
      (congrArg (fun y => Host.Outcome.next (s.setSurface p (SurfacePort.transmit y))) (SurfacePort.sent_follow _ c l bytes))
  case editorReply =>
    rw [exec_editorFrameSent sends]
    simp only [EditorPort.sent, replies, dropFirstHeld_eq m reserved]
  case flags | editorGone => exact exec_editorFrameSent sends
  case editorTransport =>
    rw [exec_editorFrameSent sends]
    simp only [EditorPort.sent, owed]

end Sys2Proof.Machine
end

section
/-! SUPPORT. Reception at a surface port (R154 to R157, R162, R195): what a run of symbols leaves, and what becomes of a valid
frame, each as the one port it changes. -/

namespace Sys2Proof.Machine

open Sys2Proof.Safety

/-! ## The fields of a frame that passes the link checks (R154, R195) -/

/-- A frame that passes carries its own fields, with a payload of its kind's length. -/
theorem parseFrame_eq_some {lengthOf : Byte → Option Nat} {bs : List Byte} {f : LinkFrame}
    (valid : parseFrame lengthOf bs = some f) : ∃ first len : Byte,
      f.seat = first.toNat % 16 ∧ len.toNat = f.payload.length ∧
      (lengthOf f.kind = none ∨ lengthOf f.kind = some f.payload.length) ∧
      bs = (first :: f.kind :: len :: f.payload) ++ bytes2 (crc16 (first :: f.kind :: len :: f.payload)).toNat := by
  unfold parseFrame at valid
  split at valid
  · next first kind len rest =>
    dsimp only at valid
    split at valid
    · next checks =>
      obtain ⟨enough, crc, field, known⟩ := checks
      cases valid
      have length : (rest.take (rest.length - 2)).length = rest.length - 2 := by simp
      refine ⟨first, len, rfl, field.trans length.symm, length.symm ▸ known, ?_⟩
      dsimp only
      rw [← crc, List.cons_append, List.cons_append, List.cons_append, List.take_append_drop]
    · cases valid
  · cases valid

/-- The kinds that carry a seat message (R172, R196). -/
def seatKinds : List Byte := [kindHello, kindTouch, kindMove, kindRelease, kindBank, kindMode, kindQuery]

/-- A payload of the length of its kind carries a message of that kind (R172, R196). -/
theorem seatBody_of_length {kind : Byte} {payload : List Byte} (takes : kind ∈ seatKinds)
    (known : surfaceLength kind = none ∨ surfaceLength kind = some payload.length) :
    ∃ b, seatBody kind payload = some b ∧ b.kind = kind := by
  simp only [seatKinds, List.mem_cons, List.not_mem_nil, or_false] at takes
  rcases takes with rfl | rfl | rfl | rfl | rfl | rfl | rfl
  all_goals
    obtain unknown | length := known
    · cases unknown
    have length := Option.some.inj length.symm
  · rw [List.length_eq_zero_iff.1 length]
    exact ⟨_, rfl, rfl⟩
  · obtain ⟨a, rfl⟩ := List.length_eq_one_iff.1 length
    exact ⟨_, rfl, rfl⟩
  · obtain ⟨a, b, c, rfl⟩ := List.length_eq_three.1 length
    exact ⟨_, rfl, rfl⟩
  · obtain ⟨a, rfl⟩ := List.length_eq_one_iff.1 length
    exact ⟨_, rfl, rfl⟩
  · obtain ⟨a, b, rfl⟩ := List.length_eq_two.1 length
    exact ⟨_, rfl, rfl⟩
  · obtain ⟨a, b, rfl⟩ := List.length_eq_two.1 length
    exact ⟨_, rfl, rfl⟩
  · obtain ⟨a, rfl⟩ := List.length_eq_one_iff.1 length
    exact ⟨_, rfl, rfl⟩

/-- Whatever carries a message is of one of the seven kinds. -/
theorem seatBody_eq_none {kind : Byte} (payload : List Byte) (other : kind ∉ seatKinds) : seatBody kind payload = none := by
  simp only [seatKinds, List.mem_cons, List.not_mem_nil, or_false, not_or] at other
  unfold seatBody
  split <;> simp [other]

theorem kindIdle_notMem_seatKinds : kindIdle ∉ seatKinds := by decide

namespace State

@[simp] theorem visible_setSurface (s : State) (p q : SurfaceId) (x : SurfacePort) (c : ControlId) :
    (s.setSurface p x).visible q c = s.visible q c := rfl

@[simp] theorem setSurface_surfaceOf (s : State) (p : SurfaceId) : s.setSurface p (s.surfaceOf p) = s := by
  simp [setSurface, surfaceOf, tset_tget]

/-! ## A far end that speaks (R155, R157) -/

/-- A port that a valid frame has made UP (R157). -/
def raisedPort (s : State) (p : SurfaceId) : SurfacePort :=
  { s.surfaceOf p with
    link := .up
    silenceTimer := some (s.now + Config.silenceUnits)
    followPosition := none
    transportNotice := some s.transportNotice
    follow := s.filledFollow p }

/-- A port whose far end a valid frame has spoken for (R155, R157). -/
def presentPort (s : State) (p : SurfaceId) : SurfacePort :=
  if (s.surfaceOf p).link = .up then { s.surfaceOf p with silenceTimer := some (s.now + Config.silenceUnits) }
  else s.raisedPort p

theorem surfaceUp_eq (s : State) (p : SurfaceId) : s.surfaceUp p = s.setSurface p (s.raisedPort p) := by
  simp [surfaceUp, postTransportTo, whenUp, fillFollow, filledFollow, raisedPort, transportNotice]

theorem surfacePresent_eq (s : State) (p : SurfaceId) : s.surfacePresent p = s.setSurface p (s.presentPort p) := by
  unfold surfacePresent presentPort
  split
  · rfl
  · exact s.surfaceUp_eq p

/-- The port is UP, and of what it held nothing but follow entries and a transport notice has changed. -/
theorem presentPort_frame (s : State) (p : SurfaceId) :
    (s.presentPort p).link = .up ∧ (s.presentPort p).inbound = (s.surfaceOf p).inbound ∧
    (s.presentPort p).holdOut = (s.surfaceOf p).holdOut ∧ (s.presentPort p).replies = (s.surfaceOf p).replies ∧
    (s.presentPort p).sending = (s.surfaceOf p).sending := by
  unfold presentPort
  split
  · next up => exact ⟨up, rfl, rfl, rfl, rfl⟩
  · exact ⟨rfl, rfl, rfl, rfl, rfl⟩

/-! ## The examination of a valid frame (R156) -/

/-- A port that refuses a frame at reception, if its reply queue has a place (R156). -/
def refusingPort (x : SurfacePort) (f : LinkFrame) (reason : RefusalReason) : SurfacePort :=
  { x with replies := x.replies ++
    (if x.replies.length < 16 then [{ seat := f.seat, message := .refused reason f.kind none }] else []) }

variable {s : State} {p : SurfaceId} {f : LinkFrame}

theorem refuseReception_eq (up : (s.surfaceOf p).link = .up) (reason : RefusalReason) :
    s.refuseReception p f reason = s.setSurface p (refusingPort (s.surfaceOf p) f reason) := by
  by_cases room : (s.surfaceOf p).replies.length < 16
  · simp [refuseReception, refusingPort, postReply, whenUp, up, room]
  · have stays : refusingPort (s.surfaceOf p) f reason = s.surfaceOf p := by simp [refusingPort, room]
    rw [stays, setSurface_surfaceOf]
    exact if_neg room

theorem examineSurface_idle (idle : f.kind = kindIdle) : s.examineSurface p f = s := if_pos idle

/-- What the examination of any other frame from a mapped seat comes to (R156). -/
theorem examineSurface_mapped {i : SeatId} (notIdle : f.kind ≠ kindIdle) (named : f.seat = i.val + 1)
    (mapped : (s.seatOf i).link = some p) : s.examineSurface p f = match seatBody f.kind f.payload with
      | none => s.refuseReception p f .badValue
      | some body =>
        if (s.surfaceOf p).inbound.length < 32 then
          s.setSurface p ((s.surfaceOf p).accept { seat := f.seat, body := body })
        else s.refuseReception p f .full := by
  rw [examineSurface, if_neg notIdle, mappedSeat_of_mapped named mapped]
  rfl

theorem examineSurface_notMapped (up : (s.surfaceOf p).link = .up) (notIdle : f.kind ≠ kindIdle)
    (unmapped : NotMappedAt s p f.seat) :
    s.examineSurface p f = s.setSurface p (refusingPort (s.surfaceOf p) f .notMapped) := by
  rw [examineSurface, if_neg notIdle, mappedSeat_of_notMappedAt unmapped, ← refuseReception_eq up]
  rfl

/-- The examination of a frame at an UP port changes that port alone, which stays UP with its frame under way. -/
theorem examineSurface_port (f : LinkFrame) (up : (s.surfaceOf p).link = .up) : ∃ y : SurfacePort,
    s.examineSurface p f = s.setSurface p y ∧ y.link = .up ∧ y.sending = (s.surfaceOf p).sending := by
  have refuses (reason : RefusalReason) : ∃ y : SurfacePort,
      s.refuseReception p f reason = s.setSurface p y ∧ y.link = .up ∧ y.sending = (s.surfaceOf p).sending :=
    ⟨_, refuseReception_eq up reason, up, rfl⟩
  unfold examineSurface
  split
  · exact ⟨_, (s.setSurface_surfaceOf p).symm, up, rfl⟩
  · split
    · exact refuses _
    · split
      · exact refuses _
      · split
        · exact ⟨_, rfl, up, rfl⟩
        · exact refuses _

/-- A refusing port, by the length its reply queue has had. -/
theorem refusingPort_eq {x : SurfacePort} (f : LinkFrame) (reason : RefusalReason) {n : Nat}
    (length : x.replies.length = n) : refusingPort x f reason = { x with replies := x.replies ++
      (if n < 16 then [{ seat := f.seat, message := .refused reason f.kind none }] else []) } :=
  length ▸ rfl

/-- An admitting port, by its inbound queue's length and its hold before (R156, R162). -/
theorem accept_eq {x : SurfacePort} (m : SeatMessage) {n : Nat} {b : Bool} (length : x.inbound.length = n)
    (hold : x.holdOut = b) : x.accept m = { x with
      inbound := x.inbound ++ [m], holdOut := if 24 ≤ n + 1 then true else b } := by
  subst length hold
  by_cases raised : 24 ≤ x.inbound.length + 1 <;> simp [SurfacePort.accept, raised]

/-! ## Symbols (R195) -/

theorem setReceiving_eq (s : State) (p : SurfaceId) (x : Option (List Byte)) :
    s.setReceiving p x = s.setSurface p { s.surfaceOf p with receiving := x } := rfl

theorem setReceiving_setSurface (s : State) (p : SurfaceId) (x : Option (List Byte)) (y : SurfacePort) :
    (s.setReceiving p x).setSurface p y = s.setSurface p y := setSurface_setSurface ..

@[simp] theorem setReceiving_setReceiving (s : State) (p : SurfaceId) (x y : Option (List Byte)) :
    (s.setReceiving p x).setReceiving p y = s.setReceiving p y := by
  simp [setReceiving]

theorem receiving_setReceiving (s : State) (p : SurfaceId) (x : Option (List Byte)) :
    ((s.setReceiving p x).surfaceOf p).receiving = x := by
  simp [setReceiving]

@[simp] theorem surfaceOf_setReceiving (s : State) (p : SurfaceId) (x : Option (List Byte)) :
    (s.setReceiving p x).surfaceOf p = { s.surfaceOf p with receiving := x } := surfaceOf_setSurface_self ..

theorem presentPort_received_up (up : (s.surfaceOf p).link = .up) : (s.setReceiving p none).presentPort p =
    { s.surfaceOf p with receiving := none, silenceTimer := some (s.now + 120) } := by
  simp [presentPort, up]

/-- A DOWN port that a valid frame makes UP, entry by entry of its follow set (R157). -/
theorem presentPort_received_down (down : (s.surfaceOf p).link = .down) :
    let y := (s.setReceiving p none).presentPort p
    y = { s.surfaceOf p with
      receiving := none, link := .up, silenceTimer := some (s.now + 120), followPosition := none
      follow := y.follow
      transportNotice :=
        some { state := s.tracker.transport, frame := s.tracker.currentFrame, onLink := false } } ∧
    ∀ c, tget y.follow c =
      if s.visible p c then some { level := (s.recordOf c).presented, onLink := false }
      else tget (s.surfaceOf p).follow c := by
  have raised : (s.setReceiving p none).presentPort p = (s.setReceiving p none).raisedPort p :=
    if_neg (by simp [down])
  intro y
  refine ⟨?_, fun c => ?_⟩
  · simp [y, raised, raisedPort, transportNotice]
  · simp only [y, raised, raisedPort, filledFollow, tget_tbuild, surfaceOf_setReceiving]
    rfl

theorem setReceiving_self {x : Option (List Byte)} (receives : (s.surfaceOf p).receiving = x) :
    s.setReceiving p x = s := by
  subst receives
  exact s.setSurface_surfaceOf p

theorem surfaceSymbol_startOfFrame (s : State) (p : SurfaceId) :
    s.surfaceSymbol p .startOfFrame = s.setReceiving p (some []) := by
  simp [surfaceSymbol]

/-- Bytes go on from those received before. -/
theorem surfaceSymbols_data {held : List Byte} (bytes : List Byte) (receives : (s.surfaceOf p).receiving = some held) :
    (bytes.map LineSymbol.data).foldl (surfaceSymbol p) s = s.setReceiving p (some (held ++ bytes)) := by
  induction bytes generalizing s held with
  | nil => simp [setReceiving_self receives]
  | cons b bytes ih =>
    have first : s.surfaceSymbol p (.data b) = s.setReceiving p (some (held ++ [b])) := by
      simp [surfaceSymbol, receives]
    rw [List.map_cons, List.foldl_cons, first, ih (receiving_setReceiving ..)]
    simp

/-- With no frame in progress, all symbols before a start of frame are discarded. -/
theorem surfaceSymbols_idle {symbols : List LineSymbol} (idle : (s.surfaceOf p).receiving = none)
    (noStart : ∀ y ∈ symbols, y ≠ .startOfFrame) : symbols.foldl (surfaceSymbol p) s = s := by
  induction symbols with
  | nil => rfl
  | cons y symbols ih =>
    have first : s.surfaceSymbol p y = s := by
      cases y with
      | startOfFrame => exact absurd rfl (noStart _ List.mem_cons_self)
      | data b => simp [surfaceSymbol, idle]
      | endOfFrame => simp [surfaceSymbol, idle]
    rw [List.foldl_cons, first]
    exact ih fun z later => noStart z (List.mem_cons_of_mem y later)

/-- Symbols with no end of frame among them change nothing but the frame being received. -/
theorem surfaceSymbols_partial {symbols : List LineSymbol} (noEnd : ∀ y ∈ symbols, y ≠ .endOfFrame) :
    ∃ x, symbols.foldl (surfaceSymbol p) s = s.setReceiving p x := by
  induction symbols generalizing s with
  | nil => exact ⟨_, (setReceiving_self rfl).symm⟩
  | cons y symbols ih =>
    have first : ∃ x, s.surfaceSymbol p y = s.setReceiving p x := by
      cases y with
      | startOfFrame => exact ⟨_, s.surfaceSymbol_startOfFrame p⟩
      | data b =>
        cases receives : (s.surfaceOf p).receiving with
        | none => exact ⟨none, by simp [surfaceSymbol, receives, setReceiving_self receives]⟩
        | some held => exact ⟨some (held ++ [b]), by simp [surfaceSymbol, receives]⟩
      | endOfFrame => exact absurd rfl (noEnd _ List.mem_cons_self)
    obtain ⟨x, first⟩ := first
    obtain ⟨y, rest⟩ := ih (s := s.setReceiving p x) fun z later => noEnd z (List.mem_cons_of_mem _ later)
    exact ⟨y, by rw [List.foldl_cons, first, rest, setReceiving_setReceiving]⟩

/-- The end of a frame whose bytes go on from those received before. -/
theorem surfaceSymbols_ends {held : List Byte} (bytes : List Byte) (receives : (s.surfaceOf p).receiving = some held) :
    (bytes.map LineSymbol.data ++ [LineSymbol.endOfFrame]).foldl (surfaceSymbol p) s =
      (s.setReceiving p none).surfaceFrame p (held ++ bytes) := by
  rw [List.foldl_append, surfaceSymbols_data bytes receives]
  simp [surfaceSymbol]

/-- A whole frame, from its start to its end. -/
theorem surfaceSymbols_frame_whole (s : State) (p : SurfaceId) (bytes : List Byte) :
    (LineSymbol.startOfFrame :: (bytes.map LineSymbol.data ++ [LineSymbol.endOfFrame])).foldl (surfaceSymbol p) s =
      (s.setReceiving p none).surfaceFrame p bytes := by
  rw [List.foldl_cons, surfaceSymbol_startOfFrame, surfaceSymbols_ends bytes (receiving_setReceiving ..),
    setReceiving_setReceiving, List.nil_append]

end State

theorem exec_surfaceFrameReceived (s : State) (p : SurfaceId) (symbols : List LineSymbol) :
    exec (.surfaceFrameReceived p symbols) s = .next ((symbols.foldl (State.surfaceSymbol p) s).transmitAt p) := rfl

/-- What the symbols leave, the arbiter may send from. -/
theorem goesOn_surfaceSymbols {s u : State} {p : SurfaceId} {symbols : List LineSymbol}
    (left : symbols.foldl (State.surfaceSymbol p) s = u) : GoesOnTo (exec (.surfaceFrameReceived p symbols) s) u := by
  rw [exec_surfaceFrameReceived, left]
  exact goesOn_transmitAt u p

/-- A valid frame is examined at the port that it has spoken for (R155 to R157). -/
theorem surfaceFrame_valid {s : State} {p : SurfaceId} {bytes : List Byte} {f : LinkFrame}
    (valid : parseFrame surfaceLength bytes = some f) : s.surfaceFrame p bytes =
      (s.setSurface p (s.presentPort p)).examineSurface p f := by
  simp only [State.surfaceFrame, valid, State.surfacePresent_eq]

theorem surfaceFrame_invalid {s : State} {p : SurfaceId} {bytes : List Byte}
    (invalid : parseFrame surfaceLength bytes = none) : s.surfaceFrame p bytes = s := by
  simp only [State.surfaceFrame, invalid]

/-! ## The statement -/

/-- A frame from a seat mapped to the port names a seat number and the port (R156). -/
theorem notMappedAt_of_not_exists {s : State} {p : SurfaceId} {n : Nat}
    (unmapped : ¬∃ i : SeatId, n = i.val + 1 ∧ (s.seatOf i).link = some p) : NotMappedAt s p n :=
  fun i named mapped => unmapped ⟨i, named, mapped⟩

/-- What becomes of a valid frame, by the order of R156, at the port y that it has spoken for. -/
theorem examineSurface_outcomes {s : State} {p : SurfaceId} {f : LinkFrame} {y : SurfacePort} (up : y.link = .up)
    (known : surfaceLength f.kind = none ∨ surfaceLength f.kind = some f.payload.length) :
    let examined := (s.setSurface p y).examineSurface p f
    let mapped := ∃ i : SeatId, f.seat = i.val + 1 ∧ (s.seatOf i).link = some p
    (f.kind = kindIdle → examined = s.setSurface p y) ∧
    (f.kind ≠ kindIdle → ¬mapped → examined = s.setSurface p (State.refusingPort y f .notMapped)) ∧
    (f.kind ≠ kindIdle → mapped → f.kind ∉ seatKinds → examined = s.setSurface p (State.refusingPort y f .badValue)) ∧
    (mapped → f.kind ∈ seatKinds → 32 ≤ y.inbound.length → examined = s.setSurface p (State.refusingPort y f .full)) ∧
    (mapped → f.kind ∈ seatKinds → y.inbound.length < 32 →
      ∃ b, seatBody f.kind f.payload = some b ∧ b.kind = f.kind ∧
        examined = s.setSurface p (y.accept { seat := f.seat, body := b })) := by
  intro examined mapped
  have here : (s.setSurface p y).surfaceOf p = y := State.surfaceOf_setSurface_self s p y
  have upHere : ((s.setSurface p y).surfaceOf p).link = .up := by rwa [here]
  have refuses (reason : RefusalReason) : (s.setSurface p y).refuseReception p f reason =
      s.setSurface p (State.refusingPort y f reason) := by
    rw [State.refuseReception_eq upHere, here, State.setSurface_setSurface]
  have notIdle (takes : f.kind ∈ seatKinds) : f.kind ≠ kindIdle := fun idle =>
    kindIdle_notMem_seatKinds (idle ▸ takes)
  refine ⟨State.examineSurface_idle, fun other unmapped => ?notMapped, fun other ⟨i, named, link⟩ kind => ?badValue,
    fun ⟨i, named, link⟩ takes full => ?full, fun ⟨i, named, link⟩ takes room => ?admitted⟩
  case notMapped =>
    refine (State.examineSurface_notMapped upHere other (notMappedAt_of_not_exists unmapped)).trans ?_
    rw [here, State.setSurface_setSurface]
  case badValue =>
    refine (State.examineSurface_mapped (s := s.setSurface p y) other named link).trans ?_
    rw [seatBody_eq_none f.payload kind]
    exact refuses _
  case full =>
    obtain ⟨b, carries, -⟩ := seatBody_of_length takes known
    refine (State.examineSurface_mapped (s := s.setSurface p y) (notIdle takes) named link).trans ?_
    rw [carries, here]
    exact (if_neg (not_lt.2 full)).trans (refuses _)
  case admitted =>
    obtain ⟨b, carries, kind⟩ := seatBody_of_length takes known
    refine ⟨b, carries, kind, (State.examineSurface_mapped (s := s.setSurface p y) (notIdle takes) named link).trans ?_⟩
    rw [carries, here]
    exact (if_pos room).trans (State.setSurface_setSurface s p y _)

/-- Settles O37: a whole frame by its parse and the order of R156, then the symbols out of a frame. -/
theorem surfaceFrameReceived : Obligations.SurfaceFrameReceived := by
  refine ⟨fun s p bytes => ⟨fun invalid => ?discarded, fun f valid => ?examined⟩,
    fun s p before rest => ⟨fun noEnd => ?restarts, fun idle noStart => ?idle⟩,
    fun s p held bytes => ⟨fun receives => ?goesOn, ?partly⟩⟩
  case discarded =>
    refine goesOn_surfaceSymbols ?_
    rw [State.surfaceSymbols_frame_whole, surfaceFrame_invalid invalid, State.setReceiving_eq]
  case examined =>
    obtain ⟨-, -, -, -, known, -⟩ := parseFrame_eq_some valid
    have whole := State.surfaceSymbols_frame_whole s p bytes
    rw [surfaceFrame_valid valid] at whole
    rw [State.setReceiving_setSurface] at whole
    obtain ⟨up, inbound, hold, replies, -⟩ := (s.setReceiving p none).presentPort_frame p
    rw [State.surfaceOf_setReceiving] at inbound hold replies
    obtain ⟨idle, notMapped, badValue, full, admitted⟩ := examineSurface_outcomes (s := s) (p := p) up known
    have refuses (reason : RefusalReason) := State.refusingPort_eq f reason (congrArg List.length replies)
    refine ⟨(s.setReceiving p none).presentPort p, State.presentPort_received_up, State.presentPort_received_down,
      fun kind => goesOn_surfaceSymbols (whole.trans (idle kind)),
      fun kind unmapped => goesOn_surfaceSymbols (whole.trans ?_),
      fun kind mapped other => goesOn_surfaceSymbols (whole.trans ?_),
      fun mapped takes many => goesOn_surfaceSymbols (whole.trans ?_),
      fun mapped takes room => ?_⟩
    · rw [notMapped kind unmapped, refuses]
    · rw [badValue kind mapped other, refuses]
    · rw [full mapped takes (inbound ▸ many), refuses]
    · obtain ⟨b, carries, same, accepted⟩ := admitted mapped takes (inbound ▸ room)
      refine ⟨b, carries, same, goesOn_surfaceSymbols (whole.trans (accepted.trans ?_))⟩
      rw [State.accept_eq _ (congrArg List.length inbound) hold]
  case restarts =>
    obtain ⟨x, left⟩ := State.surfaceSymbols_partial (s := s) (p := p) noEnd
    rw [exec_surfaceFrameReceived, exec_surfaceFrameReceived, List.foldl_append, left, List.foldl_cons, List.foldl_cons,
      State.surfaceSymbol_startOfFrame, State.surfaceSymbol_startOfFrame, State.setReceiving_setReceiving]
  case idle =>
    rw [exec_surfaceFrameReceived, exec_surfaceFrameReceived, List.foldl_append, State.surfaceSymbols_idle idle noStart]
  case goesOn =>
    rw [exec_surfaceFrameReceived, exec_surfaceFrameReceived, State.surfaceSymbols_ends bytes receives,
      State.surfaceSymbols_frame_whole]
  case partly =>
    refine goesOn_surfaceSymbols ?_
    rw [List.foldl_cons, State.surfaceSymbol_startOfFrame,
      State.surfaceSymbols_data bytes (State.receiving_setReceiving ..), State.setReceiving_setReceiving,
      List.nil_append, State.setReceiving_eq]

end Sys2Proof.Machine
end

section
/-! SUPPORT. The ways into DOWN (R57, R158, R159, R160, R177, R185): what a surface port and the editor port are left as, and the
silence that sends them there. -/

namespace Sys2Proof.Machine

open Sys2Proof.Safety

theorem SurfacePort.wentDown_empty (x : SurfacePort) : downPortEmpty x.wentDown := by
  refine fun _ => ⟨rfl, rfl, rfl, rfl, rfl, rfl,
    fun c => ⟨tget_replicate _ c, tget_replicate _ c, tget_replicate _ c⟩, fun t sends => ?_⟩
  obtain ⟨f, -, rfl⟩ := Option.map_eq_some_iff.1 sends
  rfl

namespace State

/-! ## A surface port (R57, R158 to R160) -/

theorem surfaceDown_surfaceOf (s : State) (p q : SurfaceId) : (s.surfaceDown p).surfaceOf q =
    if p = q then (s.surfaceOf q).wentDown else s.surfaceOf q := by
  refine (surfaceOf_congr (s := s.setSurface p (s.surfaceOf p).wentDown) (by simp [surfaceDown]) q).trans ?_
  by_cases here : p = q
  · subst here
    simp
  · simp [here]

/-- LINK_DOWN rises once, and the editor port's flag notice with it (R160, R191). -/
theorem raiseLinkDown_eq (s : State) (p : SurfaceId) : s.raiseLinkDown p =
    { s.setSurface p { s.surfaceOf p with linkDown := true } with editor := { s.editor with flagNotice :=
      (if (s.surfaceOf p).linkDown = false ∧ s.editor.link = .up then some false else s.editor.flagNotice) } } := by
  unfold raiseLinkDown flagRise
  by_cases set : (s.surfaceOf p).linkDown = true
  · have same : { s.surfaceOf p with linkDown := true } = s.surfaceOf p := by rw [← set]
    rw [same, setSurface_surfaceOf]
    simp [set]
  · by_cases up : s.editor.link = .up <;> simp [set, up, setSurface]

theorem raiseLinkDown_surfaceOf (s : State) (p q : SurfaceId) : (s.raiseLinkDown p).surfaceOf q =
    if p = q then { s.surfaceOf q with linkDown := true } else s.surfaceOf q := by
  rw [raiseLinkDown_eq]
  by_cases here : p = q
  · subst here
    exact (surfaceOf_setSurface_self ..).trans (if_pos rfl).symm
  · exact (surfaceOf_setSurface_ne s here _).trans (if_neg here).symm

theorem surfaceSilent_surfaceOf (s : State) (p q : SurfaceId) (e : Nat) : (s.surfaceSilent p e).surfaceOf q =
    if p = q then { (s.surfaceOf q).wentDown with linkDown := true } else s.surfaceOf q := by
  have later : State.surfaceOf { s with now := max s.now e } q = s.surfaceOf q := rfl
  rw [surfaceSilent, raiseLinkDown_surfaceOf, surfaceDown_surfaceOf, later]
  split <;> rfl

theorem surfaceSilent_editor (s : State) (p : SurfaceId) (e : Nat) : (s.surfaceSilent p e).editor =
    { s.editor with flagNotice :=
      if (s.surfaceOf p).linkDown = false ∧ s.editor.link = .up then some false else s.editor.flagNotice } := by
  have flag : ((State.surfaceDown { s with now := max s.now e } p).surfaceOf p).linkDown = (s.surfaceOf p).linkDown := by
    rw [surfaceDown_surfaceOf, if_pos rfl]
    rfl
  have editor : (State.surfaceDown { s with now := max s.now e } p).editor = s.editor := by simp
  rw [surfaceSilent, raiseLinkDown_eq, flag, editor]

/-- The touches of the port's seats are released and nothing else of the Touch Arbiter changes (R57). -/
theorem surfaceSilent_arbiter (s : State) (p : SurfaceId) (e : Nat) :
    (s.surfaceSilent p e).arbiter = (s.isolatePort p).arbiter := by
  rw [surfaceSilent, raiseLinkDown_eq]
  rfl

theorem isolatePort_touchOf (s : State) (p : SurfaceId) (c : ControlId) : (s.isolatePort p).touchOf c =
    (s.touchOf c).filter (fun r => (s.seatOf r.holder).link ≠ some p) := by
  have test : (fun r : Touch => decide ((s.seatOf r.holder).link ≠ some p)) =
      fun r => !((s.seatOf r.holder).link == some p) := by
    funext r
    rw [decide_not, beq_eq_decide]
  rw [isolatePort, touchOf_isolate, test]

theorem isolatePort_seatOf (s : State) (p : SurfaceId) (i : SeatId) : (s.isolatePort p).seatOf i =
    if (s.seatOf i).link = some p then { s.seatOf i with heldTouches := 0 } else s.seatOf i := by
  simp [isolatePort, seatOf_isolate]

/-! ## The editor port (R177, R185) -/

theorem editorDown_editor (s : State) : s.editorDown.editor = s.editor.wentDown := by
  cases load : s.store.load with
  | none => simp [editorDown, abortLoad_none none load]
  | some l =>
    simp only [editorDown, setEditor_editor, mapRequests_frame]
    rw [(abortLoad_spec s l none load).2]
    rfl

theorem editorDown_port (s : State) : s.editorDown.port = readsDropped (s.abortLoad none).port :=
  mapRequests_dropList_port _

theorem editorDown_store (s : State) : s.editorDown.store = (s.abortLoad none).store := by
  simp [editorDown]

/-- Nothing but the store, the memory port and the editor port changes. -/
theorem editorDown_eq (s : State) : s.editorDown =
    { s with store := s.editorDown.store, port := s.editorDown.port, editor := s.editorDown.editor } := by
  cases load : s.store.load with
  | none => rw [editorDown, abortLoad_none none load]; rfl
  | some l => rw [editorDown, (abortLoad_spec s l none load).2]; rfl

/-- A load in flight is aborted without a reply, and the list reads are dropped (R177, R185). -/
theorem editorDown_aborts {s : State} {l : Load} (load : s.store.load = some l) :
    LoadAborted s (readsDropped s.port) l s.editorDown :=
  loadAborted_readsDropped (abortLoad_spec s l none load).1 s.editorDown_store s.editorDown_port

end State

/-- Settles O39: the silence of a surface link, then that of the editor link, each with its timer running and stopped. -/
theorem silenceExpires : Obligations.SilenceExpires := by
  refine ⟨fun s p e runs => ⟨s.surfaceSilent p e, ?goesOn, ?down⟩, fun s p stopped => ?still,
    fun s e runs => ⟨State.editorDown { s with now := max s.now e }, ?next, ?editor⟩, fun s stopped => ?editorStill⟩
  case goesOn =>
    simp only [exec, execSilenceExpiry, runs]
    exact goesOn_transmitEditor _
  case down =>
    have port : (s.surfaceSilent p e).surfaceOf p = { (s.surfaceOf p).wentDown with linkDown := true } := by
      rw [State.surfaceSilent_surfaceOf, if_pos rfl]
    have arbiter := s.surfaceSilent_arbiter p e
    rw [port]
    refine ⟨(s.surfaceOf p).wentDown_empty, rfl, rfl, rfl, rfl, rfl, fun q other => ?_, fun c => ?_, fun i => ?_,
      fun c => ?_, ?_, s.surfaceSilent_editor p e, ?_⟩
    · rw [State.surfaceSilent_surfaceOf, if_neg other.symm]
    · rw [State.touchOf_congr arbiter, State.isolatePort_touchOf]
    · rw [State.seatOf_congr arbiter, State.isolatePort_seatOf]
    · exact State.liveOf_congr arbiter c
    · rw [arbiter]
      rfl
    · rw [State.surfaceSilent, State.raiseLinkDown_eq]
      rfl
  case still => simp only [exec, execSilenceExpiry, stopped]
  case next => simp only [exec, execEditorSilenceExpiry, runs]
  case editor =>
    have down := State.editorDown_editor { s with now := max s.now e }
    refine ⟨?_, congrArg EditorPort.sending down, fun l load => ?_, fun idle => ?_,
      State.editorDown_eq { s with now := max s.now e }⟩
    · rw [down]
      rfl
    · exact State.editorDown_aborts (s := { s with now := max s.now e }) load
    · have kept := State.abortLoad_none (s := { s with now := max s.now e }) none idle
      rw [State.editorDown_store, State.editorDown_port, kept]
      exact ⟨rfl, rfl⟩
  case editorStill => simp only [exec, execEditorSilenceExpiry, stopped]

end Sys2Proof.Machine
end

section
/-! SUPPORT. Link frames (R154, R195): a frame that is made passes the link checks and reads as what it was made of, and the
CRC takes one byte after another. -/

namespace Sys2Proof.Machine

/-- A link frame is its three bytes of head, its payload and two bytes of CRC. -/
theorem frameBytes_eq (seat : Nat) (kind : Byte) (payload : List Byte) : frameBytes seat kind payload =
    byteOf (seat % 16) :: kind :: byteOf payload.length ::
      (payload ++ bytes2 (crc16 (byteOf (seat % 16) :: kind :: byteOf payload.length :: payload)).toNat) := rfl

/-- Head bytes, a payload and its CRC pass the link checks where the length byte counts the payload and the kind may have
that length (R154). -/
theorem parseFrame_made {lengthOf : Byte → Option Nat} {first kind len : Byte} {payload : List Byte}
    (field : len.toNat = payload.length) (known : lengthOf kind = none ∨ lengthOf kind = some payload.length) :
    parseFrame lengthOf (first :: kind :: len ::
        (payload ++ bytes2 (crc16 (first :: kind :: len :: payload)).toNat)) =
      some { seat := first.toNat % 16, kind := kind, payload := payload } := by
  have length : (payload ++ bytes2 (crc16 (first :: kind :: len :: payload)).toNat).length - 2 = payload.length := by
    simp [bytes2]
  simp only [parseFrame, length, List.take_left', List.drop_left']
  exact if_pos ⟨by simp [bytes2], trivial, field, known⟩

theorem crc16_nil : crc16 [] = 0xFFFF#16 := rfl

/-- One more byte is taken into the CRC after those before it. -/
theorem crc16_concat (bs : List Byte) (b : Byte) : crc16 (bs ++ [b]) = crcByte (crc16 bs) b := by
  simp [crc16]

/-- Settles O50: the round trip both ways, the seat byte, and the CRC byte by byte. -/
theorem linkFrameRoundTrip : Obligations.LinkFrameRoundTrip := by
  refine ⟨fun lengthOf seat kind payload seatFits payloadFits known => ?made, fun lengthOf bs f valid => ?read,
    fun seat kind payload seatFits => ?seatByte, crc16_nil, fun bs b => crc16_concat bs b⟩
  case made =>
    have seatBack : (byteOf (seat % 16)).toNat % 16 = seat := by
      rw [byteOf_toNat]
      omega
    have lengthBack : (byteOf payload.length).toNat = payload.length := by
      rw [byteOf_toNat, Nat.mod_eq_of_lt payloadFits]
    rw [frameBytes_eq, parseFrame_made lengthBack known, seatBack]
  case read =>
    obtain ⟨first, len, seat, length, known, bytes⟩ := parseFrame_eq_some valid
    have lengthByte : byteOf f.payload.length = len := by
      simp [byteOf, ← length]
    refine ⟨seat ▸ Nat.mod_lt _ (by decide), length ▸ len.isLt, known, first, seat.symm, ?_⟩
    rw [lengthByte]
    exact bytes
  case seatByte =>
    rw [frameBytes_eq, Nat.mod_eq_of_lt seatFits]
    rfl

end Sys2Proof.Machine
end

section
/-! SUPPORT. What a command leaves of the frames under way and of a port that is DOWN (R158, R169, R170, R179): posting, at any
port, changes neither; so each shared operation keeps what is called a port's core here. -/

namespace Sys2Proof.Machine

open Sys2Proof.Safety

/-! ## The core of a surface port -/

/-- What no post changes of a surface port: the link and the frame under way of a port that is UP, and everything but the
sticky flag of a port that is DOWN (R160, R169). -/
def portCore (x : SurfacePort) : SurfacePort :=
  if x.link = .up then { SurfacePort.reset with link := .up, sending := x.sending } else { x with linkDown := false }

/-- The cores of the surface ports. -/
def portCores (v : Vector SurfacePort 4) : Vector SurfacePort 4 := v.map portCore

theorem portCore_up {x : SurfacePort} (up : x.link = .up) :
    portCore x = { SurfacePort.reset with link := .up, sending := x.sending } := if_pos up

/-- An UP port that stays UP with its frame under way keeps its core, whatever is posted. -/
theorem portCore_posted {x y : SurfacePort} (up : x.link = .up) (link : y.link = x.link)
    (sending : y.sending = x.sending) : portCore y = portCore x := by
  rw [portCore_up up, portCore_up (link.trans up), sending]

@[simp] theorem portCore_linkDown (x : SurfacePort) (b : Bool) : portCore { x with linkDown := b } = portCore x := by
  unfold portCore
  split <;> rfl

@[simp] theorem portCore_sending (x : SurfacePort) : (portCore x).sending = x.sending := by
  unfold portCore
  split <;> rfl

/-- Whether a DOWN port is empty can be read from its core. -/
theorem downPortEmpty_portCore (x : SurfacePort) : downPortEmpty (portCore x) ↔ downPortEmpty x := by
  unfold portCore
  split
  · next up => simp [downPortEmpty, up]
  · rfl

theorem tget_portCores (s : State) (p : SurfaceId) : tget (portCores s.surface) p = portCore (s.surfaceOf p) :=
  tget_map portCore s.surface p

theorem portCores_congr {s t : State} (h : ∀ p, portCore (t.surfaceOf p) = portCore (s.surfaceOf p)) :
    portCores t.surface = portCores s.surface :=
  table_ext fun p => by rw [tget_portCores, tget_portCores, h]

theorem portCore_of_portCores {s t : State} (h : portCores t.surface = portCores s.surface) (p : SurfaceId) :
    portCore (t.surfaceOf p) = portCore (s.surfaceOf p) := by
  rw [← tget_portCores, h, tget_portCores]

namespace State

/-! ## Posting at the surface ports (R44, R80, R164 to R168) -/

/-- What replaces an UP port and keeps its link and its frame under way keeps every core. -/
theorem whenUp_cores (s : State) (p : SurfaceId) {f : SurfacePort → SurfacePort} (link : ∀ x, (f x).link = x.link)
    (sending : ∀ x, (f x).sending = x.sending) : portCores (s.whenUp p f).surface = portCores s.surface := by
  refine portCores_congr fun q => ?_
  rw [whenUp_surfaceOf]
  split
  · next here => exact portCore_posted here.2 (link _) (sending _)
  · rfl

@[simp] theorem postReply_cores (s : State) (p : SurfaceId) (n : Nat) (m : OutMessage) :
    portCores (s.postReply p n m).surface = portCores s.surface := whenUp_cores s p (fun _ => rfl) fun _ => rfl

@[simp] theorem refuseTake_cores (s : State) (p : SurfaceId) (m : SeatMessage) (r : RefusalReason) (c : Option Byte) :
    portCores (s.refuseTake p m r c).surface = portCores s.surface := postReply_cores ..

@[simp] theorem postNotice_cores (s : State) (i : SeatId) (c : ControlId) (n : SeatNotice) :
    portCores (s.postNotice i c n).surface = portCores s.surface := by
  unfold postNotice
  split
  · exact whenUp_cores s _ (fun _ => rfl) fun _ => rfl
  · rfl

@[simp] theorem noticeHolder_cores (s : State) (c : ControlId) (n : SeatNotice) :
    portCores (s.noticeHolder c n).surface = portCores s.surface := by
  unfold noticeHolder
  split <;> simp

@[simp] theorem postTransportTo_cores (s : State) (p : SurfaceId) :
    portCores (s.postTransportTo p).surface = portCores s.surface := whenUp_cores s p (fun _ => rfl) fun _ => rfl

@[simp] theorem adjustVisibility_cores (s before : State) (p : SurfaceId) :
    portCores (s.adjustVisibility before p).surface = portCores s.surface :=
  whenUp_cores s p (fun _ => rfl) fun _ => rfl

@[simp] theorem feedFollowAt_cores (s : State) (c : ControlId) (l : Level) (first : Bool) (p : SurfaceId) :
    portCores (s.feedFollowAt c l first p).surface = portCores s.surface := by
  unfold feedFollowAt
  split
  · exact whenUp_cores s p (fun x => by split <;> rfl) fun x => by split <;> rfl
  · rfl

@[simp] theorem raiseLinkDown_cores (s : State) (p : SurfaceId) :
    portCores (s.raiseLinkDown p).surface = portCores s.surface := by
  unfold raiseLinkDown
  split
  · rfl
  · refine portCores_congr fun q => ?_
    rw [surfaceOf_congr (s := s.setSurface p { s.surfaceOf p with linkDown := true }) (by simp)]
    by_cases here : p = q
    · subst here
      simp
    · simp [here]

@[simp] theorem clearFlagSet_cores (s : State) (set : Byte) :
    portCores (s.clearFlagSet set).surface = portCores s.surface :=
  portCores_congr fun p => (congrArg portCore (tget_tbuild _ p)).trans (portCore_linkDown _ _)

/-! ## Posting at the editor port (R175 to R179, R191) -/

@[simp] theorem flagRise_sending (s : State) : s.flagRise.editor.sending = s.editor.sending := by
  unfold flagRise
  split <;> rfl

@[simp] theorem raiseLockLost_sending (s : State) : s.raiseLockLost.editor.sending = s.editor.sending := by
  unfold raiseLockLost
  split <;> simp

@[simp] theorem raisePassOverrun_sending (s : State) : s.raisePassOverrun.editor.sending = s.editor.sending := by
  unfold raisePassOverrun
  split <;> simp

@[simp] theorem raiseLinkDown_sending (s : State) (p : SurfaceId) :
    (s.raiseLinkDown p).editor.sending = s.editor.sending := by
  unfold raiseLinkDown
  split <;> simp

@[simp] theorem postTransportToEditor_sending (s : State) :
    s.postTransportToEditor.editor.sending = s.editor.sending := by
  unfold postTransportToEditor
  split <;> rfl

@[simp] theorem postEditor_sending (s : State) (m : OutMessage) :
    (s.postEditor m).editor.sending = s.editor.sending := rfl

@[simp] theorem postDone_sending (s : State) (kind : Byte) : (s.postDone kind).editor.sending = s.editor.sending := rfl

@[simp] theorem refuseEditor_sending (s : State) (reason : RefusalReason) (kind : Byte) (control : Option Byte) :
    (s.refuseEditor reason kind control).editor.sending = s.editor.sending := rfl

@[simp] theorem reservePlace_sending (s : State) (o : PlaceOwner) :
    (s.reservePlace o).editor.sending = s.editor.sending := rfl

@[simp] theorem releasePlace_sending (s : State) (o : PlaceOwner) :
    (s.releasePlace o).editor.sending = s.editor.sending := rfl

@[simp] theorem postReserved_sending (s : State) (o : PlaceOwner) (m : OutMessage) :
    (s.postReserved o m).editor.sending = s.editor.sending := rfl

@[simp] theorem setRead_sending (s : State) (x : Option ListRead) :
    (s.setRead x).editor.sending = s.editor.sending := rfl

@[simp] theorem endRead_sending (s : State) (x : ListRead) : (s.endRead x).editor.sending = s.editor.sending := rfl

@[simp] theorem popEditor_sending (s : State) : s.popEditor.editor.sending = s.editor.sending := rfl

@[simp] theorem setEditorReceiving_sending (s : State) (x : Option (List Byte)) :
    (s.setEditorReceiving x).editor.sending = s.editor.sending := rfl

/-! ## Slots, loads, clears and reads -/

theorem takeSlot_sending {s t : State} {slot : Slot} (took : s.takeSlot = some (slot, t)) :
    t.editor.sending = s.editor.sending := by
  obtain ⟨rest, -, ⟨-, -, -, -, editor⟩, -⟩ := takeSlot_spec took
  rw [editor]

@[simp] theorem abortLoad_sending (s : State) (reason : Option AbortReason) :
    (s.abortLoad reason).editor.sending = s.editor.sending := by
  cases load : s.store.load with
  | none => rw [abortLoad_none reason load]
  | some l => rw [(abortLoad_spec s l reason load).2]

@[simp] theorem abandonClear_sending (s : State) : s.abandonClear.editor.sending = s.editor.sending := by
  rw [abandonClear_eq]

@[simp] theorem abortRead_sending (s : State) : s.abortRead.editor.sending = s.editor.sending := by
  unfold abortRead
  split <;> simp

@[simp] theorem leaveStopped_sending (s : State) : s.leaveStopped.editor.sending = s.editor.sending := by
  unfold leaveStopped abortLoadAndClear
  dsimp only
  split_ifs <;> simp

@[simp] theorem serveLoadRecord_sending (s : State) : s.serveLoadRecord.editor.sending = s.editor.sending := by
  unfold serveLoadRecord
  split
  · next took =>
    split
    · simp [takeSlot_sending took]
    · rfl
  · rfl

@[simp] theorem giveLoadRecord_sending (s : State) (l : Load) (r : LoadRecord) :
    (s.giveLoadRecord l r).editor.sending = s.editor.sending := by
  unfold giveLoadRecord
  split
  · split
    · next took => simp [takeSlot_sending took]
    · rfl
  · rfl

@[simp] theorem streamRecord_sending (s : State) (r : ListRead) (x : SlotRecord) :
    (s.streamRecord r x).editor.sending = s.editor.sending := by
  unfold streamRecord
  dsimp only
  split_ifs <;> simp

@[simp] theorem completeListRead_sending (s : State) (slot : Slot) (live : Bool) :
    (s.completeListRead slot live).editor.sending = s.editor.sending := by
  unfold completeListRead
  split <;> simp

@[simp] theorem requestListRead_sending (s : State) (r : ListRead) :
    (s.requestListRead r).editor.sending = s.editor.sending := by
  unfold requestListRead
  split
  · simp
  · split <;> simp

/-! ## Segments (R84 to R100) -/

@[simp] theorem enqueueClosed_sending (s : State) (g : Segment) (final : Option Frame) :
    (s.enqueueClosed g final).editor.sending = s.editor.sending := by
  unfold enqueueClosed
  split
  · simp
  · split
    · split
      · next took => simp [takeSlot_sending took]
      · simp
    · simp

@[simp] theorem closeSegment_sending (s : State) (c : ControlId) (g : Segment) (f : Frame) :
    (s.closeSegment c g f).editor.sending = s.editor.sending := by
  simp [closeSegment]

@[simp] theorem closeOutside_sending (s : State) (c : ControlId) :
    (s.closeOutside c).editor.sending = s.editor.sending := by
  unfold closeOutside
  split
  · dsimp only
    split <;> simp
  · rfl

@[simp] theorem closeEach_sending (s : State) (l : List ControlId) :
    (s.closeEach l).editor.sending = s.editor.sending := by
  induction l generalizing s with
  | nil => rfl
  | cons c l ih => exact (ih (s.closeOutside c)).trans (s.closeOutside_sending c)

@[simp] theorem closeWhere_sending (s : State) (which : ControlId → Bool) :
    (s.closeWhere which).editor.sending = s.editor.sending := by
  rw [closeWhere_eq, closeEach_sending]

@[simp] theorem closeAll_sending (s : State) : s.closeAll.editor.sending = s.editor.sending := by simp [closeAll]

@[simp] theorem truncate_links (s : State) (e : Evaluation) (g : Segment) :
    portCores (s.truncate e g).surface = portCores s.surface ∧
      (s.truncate e g).editor.sending = s.editor.sending := by
  unfold truncate
  dsimp only
  split <;> simp

@[simp] theorem truncateWaiting_links (s : State) :
    portCores s.truncateWaiting.surface = portCores s.surface ∧
      s.truncateWaiting.editor.sending = s.editor.sending := by
  unfold truncateWaiting
  split
  · split <;> simp
  · simp

@[simp] theorem settlePool_links (s before : State) :
    portCores (s.settlePool before).surface = portCores s.surface ∧
      (s.settlePool before).editor.sending = s.editor.sending := by
  unfold settlePool abortWaitingLoad
  split
  · split <;> simp
  · simp

@[simp] theorem latePunch_cores (s : State) (c : ControlId) :
    portCores (s.latePunch c).surface = portCores s.surface := by
  unfold latePunch
  dsimp only
  split <;> simp

theorem punchIn_links {s t : State} {c : ControlId} {f : Frame} {l : Level} (done : s.punchIn c f l = .done t) :
    portCores t.surface = portCores s.surface ∧ t.editor.sending = s.editor.sending := by
  unfold punchIn at done
  split at done
  · split at done
    · split at done
      · next opens =>
        cases done
        unfold openSegment at opens
        split at opens
        · next took =>
          split at opens
          · next took' =>
            cases opens
            simp [takeSlot_sending took', takeSlot_sending took, takeSlot_frame took', takeSlot_frame took]
          · cases opens
        · cases opens
      · cases done
    · cases done
  · cases done
    simp

theorem append_links {s t : State} {e : Evaluation} {g : Segment} (done : s.append e g = .done t) :
    portCores t.surface = portCores s.surface ∧ t.editor.sending = s.editor.sending := by
  unfold append at done
  split_ifs at done with empty none room
  · cases done
    simp
  · split at done
    · next took =>
      cases done
      simp [takeSlot_sending took, takeSlot_frame took]
    · cases done

/-! ## The pass -/

@[simp] theorem frameEvent_sending (s : State) (t : Frame) : (s.frameEvent t).editor.sending = s.editor.sending := by
  unfold frameEvent
  split
  · split <;> simp
  · simp

@[simp] theorem staleTest_cores (s : State) (c : ControlId) (t : Frame) :
    portCores (s.staleTest c t).surface = portCores s.surface := by
  unfold staleTest
  split
  · rfl
  · split
    · split_ifs <;> simp
    · rfl

@[simp] theorem finishEvaluation_cores (s : State) (e : Evaluation) :
    portCores (s.finishEvaluation e).surface = portCores s.surface := by
  simp [finishEvaluation, feedFollow]

@[simp] theorem closeAtGlideEnd_sending (s : State) (e : Evaluation) :
    (s.closeAtGlideEnd e).editor.sending = s.editor.sending := by
  unfold closeAtGlideEnd
  split
  · split <;> simp
  · rfl

@[simp] theorem settleWriter_done_links (s t : State) (e : Evaluation) (todo : EvalTodo) :
    portCores (s.settleWriter e todo (.done t)).surface = portCores t.surface ∧
      (s.settleWriter e todo (.done t)).editor.sending = t.editor.sending := by
  unfold settleWriter
  dsimp only
  split <;> simp

@[simp] theorem attemptPunchIn_links (s : State) (e : Evaluation) :
    portCores (s.attemptPunchIn e).surface = portCores s.surface ∧
      (s.attemptPunchIn e).editor.sending = s.editor.sending := by
  unfold attemptPunchIn
  cases answer : s.punchIn e.control e.frame e.presented with
  | done t => simp [punchIn_links answer]
  | waits cause => simp

@[simp] theorem continueSegment_links (s : State) (e : Evaluation) (g : Segment) :
    portCores (s.continueSegment e g).surface = portCores s.surface ∧
      (s.continueSegment e g).editor.sending = s.editor.sending := by
  unfold continueSegment
  split
  · simp
  · cases answer : s.append e g with
    | done t => simp [append_links answer]
    | waits cause => simp

@[simp] theorem withoutSegment_links (s : State) (e : Evaluation) :
    portCores (s.withoutSegment e).surface = portCores s.surface ∧
      (s.withoutSegment e).editor.sending = s.editor.sending := by
  unfold withoutSegment
  split <;> simp

@[simp] theorem writerStep_links (s : State) (e : Evaluation) :
    portCores (s.writerStep e).surface = portCores s.surface ∧
      (s.writerStep e).editor.sending = s.editor.sending := by
  unfold writerStep
  split
  · split <;> simp
  · simp

@[simp] theorem evaluate_links (s : State) (c : ControlId) (t : Frame) :
    portCores (s.evaluate c t).surface = portCores s.surface ∧
      (s.evaluate c t).editor.sending = s.editor.sending := by
  simp [evaluate, evaluationStep]

@[simp] theorem resume_links (s : State) (e : Evaluation) :
    portCores (s.resume e).surface = portCores s.surface ∧ (s.resume e).editor.sending = s.editor.sending := by
  unfold resume
  split
  · simp
  · split <;> simp
  · simp

@[simp] theorem serveOldestClosing_sending (s : State) :
    s.serveOldestClosing.editor.sending = s.editor.sending := by
  unfold serveOldestClosing
  split
  · next took =>
    split
    · simp [takeSlot_sending took]
    · rfl
  · rfl

/-! ## Marks and expiries (R23 to R31, R38) -/

@[simp] theorem postTransport_links (s : State) :
    portCores s.postTransport.surface = portCores s.surface ∧ s.postTransport.editor.sending = s.editor.sending := by
  simp [postTransport]

@[simp] theorem postTransportWhen_links (s : State) (b : Bool) :
    portCores (s.postTransportWhen b).surface = portCores s.surface ∧
      (s.postTransportWhen b).editor.sending = s.editor.sending := by
  unfold postTransportWhen
  split <;> simp

@[simp] theorem takeMark_links (s : State) (f : Frame) (m : Motion) :
    portCores (s.takeMark f m).surface = portCores s.surface ∧
      (s.takeMark f m).editor.sending = s.editor.sending := by
  cases m with
  | stopped =>
    simp only [takeMark, takeStoppedMark, postTransportWhen_links]
    split_ifs <;> simp
  | moving =>
    unfold takeMark takeMovingMarkRolling takeMovingMarkParked
    dsimp only
    split_ifs <;> simp

@[simp] theorem takeExpiry_links (s : State) :
    portCores s.takeExpiry.surface = portCores s.surface ∧ s.takeExpiry.editor.sending = s.editor.sending := by
  have stops (lost : Bool) : portCores (s.stopByTimer lost).surface = portCores s.surface ∧
      (s.stopByTimer lost).editor.sending = s.editor.sending := by
    unfold stopByTimer
    dsimp only
    split <;> simp
  have advances (n : Nat) : portCores (s.freewheelTo n).surface = portCores s.surface ∧
      (s.freewheelTo n).editor.sending = s.editor.sending := by
    simp [freewheelTo]
  unfold takeExpiry
  dsimp only
  split
  · simp
  · simp
  · split_ifs <;> simp [stops, advances]
  · split_ifs <;> simp [stops, advances]

end State

end Sys2Proof.Machine
end

section
/-! SUPPORT. What a whole command leaves of the frames under way and of the ports that are DOWN (R158, R169, R170, R178, R179):
the takes, receptions and arbiters go on with every frame and keep a DOWN port empty. -/

namespace Sys2Proof.Machine

open Sys2Proof.Safety

namespace State

/-! ## The takes of editor commands (R178) -/

@[simp] theorem configure_sending (s : State) (c : ControlId) (x : ControlConfig) :
    (s.configure c x).editor.sending = s.editor.sending := by
  rw [configure_eq]
  split <;> simp

@[simp] theorem takeSetControl_links (s : State) (f : SetControlFields) :
    portCores (s.takeSetControl f).surface = portCores s.surface ∧
      (s.takeSetControl f).editor.sending = s.editor.sending := by
  unfold takeSetControl
  split <;> simp

@[simp] theorem changeSafe_sending (s : State) (i : StemId) (b : Bool) :
    (s.changeSafe i b).editor.sending = s.editor.sending := by
  unfold changeSafe
  dsimp only
  split <;> simp

@[simp] theorem takeSetStem_links (s : State) (stem safe : Byte) :
    portCores (s.takeSetStem stem safe).surface = portCores s.surface ∧
      (s.takeSetStem stem safe).editor.sending = s.editor.sending := by
  unfold takeSetStem
  split
  · split <;> simp
  · simp

@[simp] theorem remapSeat_cores (s : State) (i : SeatId) (l : Option SurfaceId) (rank : Nat) :
    portCores (s.remapSeat i l rank).surface = portCores s.surface := by
  unfold remapSeat adjustAll
  dsimp only
  split <;> simp

@[simp] theorem takeSetSeat_links (s : State) (seat link rank : Byte) :
    portCores (s.takeSetSeat seat link rank).surface = portCores s.surface ∧
      (s.takeSetSeat seat link rank).editor.sending = s.editor.sending := by
  unfold takeSetSeat
  split
  · split_ifs <;> simp
  · simp

@[simp] theorem takeSetHub_sending (s : State) (rate acquire limit : Byte) (stale : Nat) :
    (s.takeSetHub rate acquire limit stale).editor.sending = s.editor.sending := by
  unfold takeSetHub
  split <;> simp

@[simp] theorem takeListBegin_sending (s : State) (control : Byte) (n : Nat) :
    (s.takeListBegin control n).editor.sending = s.editor.sending := by
  unfold takeListBegin
  split
  · simp
  · split
    · simp
    · split <;> simp

@[simp] theorem takeListRecord_links (s : State) (r : LoadRecord) :
    portCores (s.takeListRecord r).surface = portCores s.surface ∧
      (s.takeListRecord r).editor.sending = s.editor.sending := by
  unfold takeListRecord
  split
  · simp
  · split_ifs <;> simp

@[simp] theorem takeListEnd_sending (s : State) : s.takeListEnd.editor.sending = s.editor.sending := by
  unfold takeListEnd
  split
  · simp
  · split_ifs <;> simp

@[simp] theorem takeReadList_sending (s : State) (control : Byte) (first last : Frame) :
    (s.takeReadList control first last).editor.sending = s.editor.sending := by
  unfold takeReadList beginRead
  split
  · simp
  · split
    · simp
    · dsimp only
      split <;> simp

@[simp] theorem takeClearList_sending (s : State) (control : Byte) :
    (s.takeClearList control).editor.sending = s.editor.sending := by
  unfold takeClearList beginClear
  split
  · simp
  · split
    · simp
    · split_ifs <;> simp

@[simp] theorem takeMixReset_links (s : State) :
    portCores s.takeMixReset.surface = portCores s.surface ∧ s.takeMixReset.editor.sending = s.editor.sending := by
  simp [takeMixReset, postDone]

/-! ## The effects of seat messages (R45 to R53) -/

@[simp] theorem touchControl_cores (p : SurfaceId) (m : SeatMessage) (s : State) (i : SeatId) (c : ControlId) :
    portCores (touchControl p m s i c).surface = portCores s.surface := by
  unfold touchControl
  split
  · simp
  · split_ifs <;> simp [takeOver]

@[simp] theorem moveControl_cores (p : SurfaceId) (m : SeatMessage) (l : Int) (s : State) (i : SeatId) (c : ControlId) :
    portCores (moveControl p m l s i c).surface = portCores s.surface := by
  unfold moveControl
  split
  · split <;> simp
  · simp

@[simp] theorem releaseControl_cores (p : SurfaceId) (m : SeatMessage) (s : State) (i : SeatId) (c : ControlId) :
    portCores (releaseControl p m s i c).surface = portCores s.surface := by
  unfold releaseControl
  split <;> simp

@[simp] theorem modeControl_cores (p : SurfaceId) (m : SeatMessage) (k : Byte) (s : State) (i : SeatId) (c : ControlId) :
    portCores (modeControl p m k s i c).surface = portCores s.surface := by
  unfold modeControl
  split
  · simp
  · split <;> simp

end State

/-! ## Going on -/

/-- A surface port goes on: a frame under way stays so, and a port whose DOWN state is empty keeps it so. -/
structure PortGoesOn (x y : SurfacePort) : Prop where
  sending : ∀ f, x.sending = some f → y.sending = some f
  empty : downPortEmpty x → downPortEmpty y

/-- Every port goes on: no frame under way ends, no port goes DOWN that holds something, and none that is DOWN is given
anything. -/
structure LinksGoOn (s t : State) : Prop where
  port : ∀ p, PortGoesOn (s.surfaceOf p) (t.surfaceOf p)
  editor : ∀ f, s.editor.sending = some f → t.editor.sending = some f

namespace PortGoesOn

theorem refl (x : SurfacePort) : PortGoesOn x x := ⟨fun _ => id, id⟩

theorem trans {x y z : SurfacePort} (h : PortGoesOn x y) (k : PortGoesOn y z) : PortGoesOn x z :=
  ⟨fun f sent => k.sending f (h.sending f sent), fun empty => k.empty (h.empty empty)⟩

theorem of_core {x y : SurfacePort} (core : portCore y = portCore x) : PortGoesOn x y where
  sending f sent := by rw [← portCore_sending y, core, portCore_sending, sent]
  empty h := (downPortEmpty_portCore y).1 (core ▸ (downPortEmpty_portCore x).2 h)

/-- A port that is UP has nothing to empty. -/
theorem of_up {x y : SurfacePort} (sending : y.sending = x.sending) (up : y.link = .up) : PortGoesOn x y where
  sending _ sent := sending.trans sent
  empty _ down := nomatch up.symm.trans down

/-- The arbiter begins a frame only on a free link of a port that is UP (R169). -/
theorem transmit (x : SurfacePort) : PortGoesOn x x.transmit where
  sending f sent := by simp [SurfacePort.transmit, sent]
  empty h down := by
    have wasDown : x.link = .down := by simpa using down
    have waits : x.transmit = x := by simp [SurfacePort.transmit, wasDown]
    rw [waits]
    exact h wasDown

end PortGoesOn

namespace LinksGoOn

variable {s t : State}

theorem refl (s : State) : LinksGoOn s s := ⟨fun _ => .refl _, fun _ => id⟩

theorem trans {u : State} (h : LinksGoOn s t) (k : LinksGoOn t u) : LinksGoOn s u :=
  ⟨fun p => (h.port p).trans (k.port p), fun f sent => k.editor f (h.editor f sent)⟩

/-- Posting ends no frame and gives a DOWN port nothing. -/
theorem of_links (kept : portCores t.surface = portCores s.surface ∧ t.editor.sending = s.editor.sending) :
    LinksGoOn s t :=
  ⟨fun p => .of_core (portCore_of_portCores kept.1 p), fun _ sent => kept.2.trans sent⟩

theorem of_setSurface {p : SurfaceId} {x : SurfacePort} (goesOn : PortGoesOn (s.surfaceOf p) x) :
    LinksGoOn s (s.setSurface p x) where
  port q := by
    by_cases here : p = q
    · subst here
      rwa [State.surfaceOf_setSurface_self]
    · rw [State.surfaceOf_setSurface_ne s here]
      exact .refl _
  editor _ := id

theorem transmitAt (s : State) (p : SurfaceId) : LinksGoOn s (s.transmitAt p) := of_setSurface (.transmit _)

theorem transmitEditor (s : State) : LinksGoOn s s.transmitEditor where
  port p := by
    rw [transmitEditor_surfaceOf]
    exact .refl _
  editor f sent := by simp [State.transmitEditor, sent]

theorem transmitAll (s : State) : LinksGoOn s s.transmitAll where
  port p := by
    rw [surfaceOf_transmitAll]
    exact .transmit _
  editor f sent := by
    rw [transmitAll_editor]
    exact (transmitEditor s).editor f sent

/-! ## The takes of seat messages (R44, R161, R163) -/

/-- A DOWN port that is empty hands nothing over. -/
theorem popSurface (s : State) (p : SurfaceId) : LinksGoOn s (s.popSurface p) := by
  refine of_setSurface ⟨fun _ => id, fun empty down => ?_⟩
  obtain ⟨timer, inbound, hold, rest⟩ := empty down
  exact ⟨timer, by simp [SurfacePort.taken, inbound], by simp [SurfacePort.taken, hold], rest⟩

theorem takeFader {effect : State → SeatId → ControlId → State}
    (posts : ∀ u i c, portCores (effect u i c).surface = portCores u.surface ∧ (effect u i c).editor = u.editor)
    (s : State) (p : SurfaceId) (m : SeatMessage) (f : Nat) : LinksGoOn s (s.takeFader p m f effect) := by
  refine (popSurface s p).trans (of_links ?_)
  unfold State.takeFader
  dsimp only
  split
  · simp
  · split
    · simp
    · simp
    · simp [posts]

theorem takeBank (s : State) (p : SurfaceId) (m : SeatMessage) (base : Nat) : LinksGoOn s (s.takeBank p m base) := by
  refine (popSurface s p).trans (of_links ?_)
  unfold State.takeBank
  dsimp only
  split
  · simp
  · split_ifs <;> simp

/-- A port that hands a HELLO over holds it, so it is not empty; if it is DOWN, this is not the state of R158. -/
theorem takeHello {p : SurfaceId} {m : SeatMessage} (handed : s.headMessage p = some m) :
    LinksGoOn s ((s.popSurface p).fillFollow p) := by
  rw [State.popSurface_fillFollow]
  refine of_setSurface ⟨fun _ => id, fun empty down => ?_⟩
  obtain ⟨-, inbound, -⟩ := empty down
  simp [State.headMessage, inbound] at handed

/-! ## Reception (R154 to R157, R176, R177) -/

theorem setReceiving (s : State) (p : SurfaceId) (x : Option (List Byte)) : LinksGoOn s (s.setReceiving p x) :=
  of_setSurface ⟨fun _ => id, id⟩

/-- A valid frame leaves its port UP, with the frame under way there (R155 to R157). -/
theorem surfaceFrame (s : State) (p : SurfaceId) (bytes : List Byte) : LinksGoOn s (s.surfaceFrame p bytes) := by
  cases parsed : parseFrame surfaceLength bytes with
  | none =>
    rw [surfaceFrame_invalid parsed]
    exact refl s
  | some f =>
    obtain ⟨up, -, -, -, sending⟩ := s.presentPort_frame p
    have here : (s.setSurface p (s.presentPort p)).surfaceOf p = s.presentPort p := State.surfaceOf_setSurface_self ..
    obtain ⟨y, examined, stillUp, kept⟩ := State.examineSurface_port f (here ▸ up)
    rw [surfaceFrame_valid parsed, examined, State.setSurface_setSurface]
    exact of_setSurface (.of_up (kept.trans ((congrArg SurfacePort.sending here).trans sending)) stillUp)

theorem surfaceSymbols (s : State) (p : SurfaceId) (symbols : List LineSymbol) :
    LinksGoOn s (symbols.foldl (State.surfaceSymbol p) s) := by
  induction symbols generalizing s with
  | nil => exact refl s
  | cons y symbols ih =>
    refine trans ?_ (ih (s.surfaceSymbol p y))
    unfold State.surfaceSymbol
    split
    · exact setReceiving s p _
    · exact setReceiving s p _
    · exact refl s
    · exact (setReceiving s p none).trans (surfaceFrame _ p _)
    · exact refl s

end LinksGoOn

namespace State

@[simp] theorem editorUp_sending (s : State) : s.editorUp.editor.sending = s.editor.sending := by
  simp [editorUp]

@[simp] theorem editorFrame_sending (s : State) (bytes : List Byte) :
    (s.editorFrame bytes).editor.sending = s.editor.sending := by
  have present (u : State) : u.editorPresent.editor.sending = u.editor.sending := by
    unfold editorPresent
    split <;> simp
  have refuses (u : State) (kind : Byte) (reason : RefusalReason) :
      (u.refuseEditorReception kind reason).editor.sending = u.editor.sending := by
    unfold refuseEditorReception
    split <;> simp
  have examines (u : State) (f : LinkFrame) : (u.examineEditor f).editor.sending = u.editor.sending := by
    unfold examineEditor
    split
    · rfl
    · split
      · exact refuses ..
      · split
        · exact refuses ..
        · split
          · rfl
          · exact refuses ..
  unfold editorFrame
  split
  · exact (examines ..).trans (present s)
  · rfl

@[simp] theorem editorSymbols_sending (symbols : List LineSymbol) (s : State) :
    (symbols.foldl editorSymbol s).editor.sending = s.editor.sending := by
  induction symbols generalizing s with
  | nil => rfl
  | cons y symbols ih =>
    refine (ih (s.editorSymbol y)).trans ?_
    unfold editorSymbol
    split <;> simp

end State

end Sys2Proof.Machine
end

section
/-! SUPPORT. Every command at the links (R158, R159, R169, R170, R177, R179): it keeps the frames under way, leaves the DOWN
surface ports empty, and lets every arbiter choose that it may have given something to send. -/

namespace Sys2Proof.Machine

open Sys2Proof.Safety

/-! ## No port idle that could send (R169, R179) -/

/-- A surface port that could send has nothing that waits. -/
def SurfacePort.Done (x : SurfacePort) : Prop :=
  x.link = .up → x.sending = none → x.farHold = false → x.NothingWaits

/-- The editor port, if it could send, has nothing that waits. -/
def EditorPort.Done (x : EditorPort) : Prop :=
  x.link = .up → x.sending = none → x.farHold = false → x.NothingWaits

theorem arbitersDone_iff (s : State) : ArbitersDone s ↔ (∀ p, (s.surfaceOf p).Done) ∧ s.editor.Done := by
  constructor
  · rintro ⟨surface, editor⟩
    refine ⟨fun p up free dropped => ?_, fun up free dropped => ?_⟩
    · obtain ⟨replies, notices, transport, follow⟩ := surface p up free dropped
      exact ⟨replies, notices, transport, follow⟩
    · obtain ⟨replies, flags, transport⟩ := editor up free dropped
      exact ⟨replies, flags, transport⟩
  · rintro ⟨surface, editor⟩
    refine ⟨fun p up free dropped => ?_, fun up free dropped => ?_⟩
    · obtain ⟨replies, notices, transport, follow⟩ := surface p up free dropped
      exact ⟨replies, notices, transport, follow⟩
    · obtain ⟨replies, flags, transport⟩ := editor up free dropped
      exact ⟨replies, flags, transport⟩

/-- Once its arbiter has chosen, a port is done. -/
theorem SurfacePort.done_transmit (x : SurfacePort) : x.transmit.Done := by
  by_cases free : x.link = .up ∧ x.sending = none ∧ x.farHold = false
  · rw [transmit_free free]
    intro _ idle _
    obtain begins | ⟨stays, nothing⟩ := x.choose_begins
    · exact absurd idle begins
    · rwa [stays]
  · rw [transmit_notFree free]
    exact fun up idle dropped => absurd ⟨up, idle, dropped⟩ free

theorem State.editor_done_transmitEditor (s : State) : s.transmitEditor.editor.Done := by
  by_cases free : s.editor.link = .up ∧ s.editor.sending = none ∧ s.editor.farHold = false
  · rw [transmitEditor_free free, setEditor_editor]
    intro _ idle _
    obtain begins | ⟨stays, nothing⟩ := s.editor.choose_begins s.flagSet
    · exact absurd idle begins
    · rwa [stays]
  · rw [transmitEditor_notFree free]
    exact fun up idle dropped => absurd ⟨up, idle, dropped⟩ free

/-- A port that is DOWN could not send. -/
theorem SurfacePort.done_of_down {x : SurfacePort} (down : x.link = .down) : x.Done :=
  fun up => nomatch up.symm.trans down

theorem EditorPort.done_of_down {x : EditorPort} (down : x.link = .down) : x.Done :=
  fun up => nomatch up.symm.trans down

theorem arbitersDone_transmitAll (u : State) : ArbitersDone u.transmitAll := by
  refine (arbitersDone_iff _).2 ⟨fun p => ?_, ?_⟩
  · rw [surfaceOf_transmitAll]
    exact SurfacePort.done_transmit _
  · rw [transmitAll_editor]
    exact u.editor_done_transmitEditor

theorem arbitersDone_transmitEditor {s u : State} (surface : ∀ p, (s.surfaceOf p).Done → (u.surfaceOf p).Done)
    (done : ArbitersDone s) : ArbitersDone u.transmitEditor := by
  refine (arbitersDone_iff _).2 ⟨fun p => ?_, u.editor_done_transmitEditor⟩
  rw [transmitEditor_surfaceOf]
  exact surface p (((arbitersDone_iff s).1 done).1 p)

/-- Between two states nothing changes at the links but at one surface port. -/
structure OnlyAt (p : SurfaceId) (s t : State) : Prop where
  surface : ∀ q, p ≠ q → t.surfaceOf q = s.surfaceOf q
  editor : t.editor = s.editor

theorem arbitersDone_transmitAt {s u : State} {p : SurfaceId} (only : OnlyAt p s u) (done : ArbitersDone s) :
    ArbitersDone (u.transmitAt p) := by
  obtain ⟨surface, editor⟩ := (arbitersDone_iff s).1 done
  refine (arbitersDone_iff _).2 ⟨fun q => ?_, ?_⟩
  · rw [surfaceOf_transmitAt]
    split
    · exact SurfacePort.done_transmit _
    · next other =>
      rw [only.surface q other]
      exact surface q
  · have kept : (u.transmitAt p).editor = s.editor := by simp [only.editor]
    rwa [kept]

theorem arbitersDone_congr {s t : State} (surface : t.surface = s.surface) (editor : t.editor = s.editor)
    (done : ArbitersDone s) : ArbitersDone t := by
  obtain ⟨ports, own⟩ := (arbitersDone_iff s).1 done
  refine (arbitersDone_iff t).2 ⟨fun p => ?_, editor ▸ own⟩
  rw [State.surfaceOf_congr surface]
  exact ports p

/-! ## What a seat message and a reception change at one port only -/

namespace OnlyAt

variable {p : SurfaceId} {s t : State}

theorem refl (s : State) : OnlyAt p s s := ⟨fun _ _ => rfl, rfl⟩

theorem trans {u : State} (h : OnlyAt p s t) (k : OnlyAt p t u) : OnlyAt p s u :=
  ⟨fun q other => (k.surface q other).trans (h.surface q other), k.editor.trans h.editor⟩

theorem of_ports (surface : t.surface = s.surface) (editor : t.editor = s.editor) : OnlyAt p s t :=
  ⟨fun q _ => State.surfaceOf_congr surface q, editor⟩

theorem setSurface (s : State) (x : SurfacePort) : OnlyAt p s (s.setSurface p x) :=
  ⟨fun _ other => State.surfaceOf_setSurface_ne s other x, rfl⟩

theorem whenUp (s : State) (f : SurfacePort → SurfacePort) : OnlyAt p s (s.whenUp p f) := by
  unfold State.whenUp
  split
  · exact setSurface s _
  · exact refl s

theorem postReply (s : State) (n : Nat) (m : OutMessage) : OnlyAt p s (s.postReply p n m) := whenUp s _

theorem refuseTake (s : State) (m : SeatMessage) (r : RefusalReason) (c : Option Byte) :
    OnlyAt p s (s.refuseTake p m r c) := postReply s _ _

theorem adjustVisibility (s before : State) : OnlyAt p s (s.adjustVisibility before p) := whenUp s _

theorem takeFader {effect : State → SeatId → ControlId → State} (only : ∀ u i c, OnlyAt p u (effect u i c)) (s : State)
    (m : SeatMessage) (f : Nat) : OnlyAt p s (s.takeFader p m f effect) := by
  have popped : OnlyAt p s (s.popSurface p) := setSurface s _
  refine popped.trans ?_
  unfold State.takeFader
  dsimp only
  split
  · exact refuseTake _ _ _ _
  · split
    · exact refuseTake _ _ _ _
    · exact refuseTake _ _ _ _
    · exact only _ _ _

theorem moveControl (m : SeatMessage) (l : Int) (s : State) (i : SeatId) (c : ControlId) :
    OnlyAt p s (State.moveControl p m l s i c) := by
  unfold State.moveControl
  split
  · split
    · exact of_ports rfl rfl
    · exact refuseTake s _ _ _
  · exact refuseTake s _ _ _

theorem releaseControl (m : SeatMessage) (s : State) (i : SeatId) (c : ControlId) :
    OnlyAt p s (State.releaseControl p m s i c) := by
  unfold State.releaseControl
  split
  · exact (of_ports (t := s.removeTouch c) (by simp) (by simp)).trans (postReply _ _ _)
  · exact refuseTake s _ _ _

theorem modeControl (m : SeatMessage) (code : Byte) (s : State) (i : SeatId) (c : ControlId) :
    OnlyAt p s (State.modeControl p m code s i c) := by
  unfold State.modeControl
  split
  · exact refuseTake s _ _ _
  · next k _ =>
    split
    · exact refuseTake s _ _ _
    · refine trans ?_ (postReply (s.setConfig c _) _ _)
      exact of_ports rfl rfl

theorem takeBank (s : State) (m : SeatMessage) (base : Nat) : OnlyAt p s (s.takeBank p m base) := by
  have popped : OnlyAt p s (s.popSurface p) := setSurface s _
  refine popped.trans ?_
  unfold State.takeBank
  dsimp only
  split
  · exact refuseTake _ _ _ _
  · next i _ =>
    split_ifs
    · exact refuseTake _ _ _ _
    · exact refuseTake _ _ _ _
    · refine trans ?_ (adjustVisibility (State.setSeat _ i _) _)
      exact of_ports rfl rfl

theorem surfaceFrame (s : State) (bytes : List Byte) : OnlyAt p s (s.surfaceFrame p bytes) := by
  cases parsed : parseFrame surfaceLength bytes with
  | none =>
    rw [surfaceFrame_invalid parsed]
    exact refl s
  | some f =>
    have here : (s.setSurface p (s.presentPort p)).surfaceOf p = s.presentPort p := State.surfaceOf_setSurface_self ..
    obtain ⟨y, examined, -⟩ := State.examineSurface_port f (here ▸ (s.presentPort_frame p).1)
    rw [surfaceFrame_valid parsed, examined, State.setSurface_setSurface]
    exact setSurface s y

theorem surfaceSymbols (s : State) (symbols : List LineSymbol) :
    OnlyAt p s (symbols.foldl (State.surfaceSymbol p) s) := by
  induction symbols generalizing s with
  | nil => exact refl s
  | cons y symbols ih =>
    refine trans ?_ (ih (s.surfaceSymbol p y))
    unfold State.surfaceSymbol
    split
    · exact setSurface s _
    · exact setSurface s _
    · exact refl s
    · exact trans (setSurface s _) (surfaceFrame _ _)
    · exact refl s

end OnlyAt

/-! ## What every command keeps at the links -/

/-- A frame is still under way, or its port went DOWN and it is finished without its entry (R158, R170; log 9). -/
def FrameGoesOn (f : Transmission) (link : LinkState) (sending : Option Transmission) : Prop :=
  sending = some f ∨ (link = .down ∧ sending = some { f with source := .gone })

/-- What a command keeps at the links: DOWN ports empty, no port idle that could send, and every frame under way but that
whose end the command is, or that the reset input drops. -/
structure LinksKept (c : Instr) (s t : State) : Prop where
  empty : DownPortsEmpty s → DownPortsEmpty t
  done : ArbitersDone s → ArbitersDone t
  surface : ∀ p f, c ≠ .surfaceFrameSent p → c ≠ .powerOnReset → (s.surfaceOf p).sending = some f →
    FrameGoesOn f (t.surfaceOf p).link (t.surfaceOf p).sending
  editor : ∀ f, c ≠ .editorFrameSent → c ≠ .powerOnReset → s.editor.sending = some f →
    FrameGoesOn f t.editor.link t.editor.sending

/-- The outcome of a command goes on to a state that keeps the links. -/
def KeepsLinks (c : Instr) (s : State) (o : Host.Outcome State Fault Refusal) : Prop := ∃ t, o = .next t ∧ LinksKept c s t

variable {c : Instr} {s t u : State} {p : SurfaceId}

theorem LinksKept.of_goesOn (goesOn : LinksGoOn s t) (done : ArbitersDone s → ArbitersDone t) : LinksKept c s t where
  empty h p := (goesOn.port p).empty (h p)
  done := done
  surface p f _ _ sends := .inl ((goesOn.port p).sending f sends)
  editor f _ _ sends := .inl (goesOn.editor f sends)

/-- A command that reaches no port. -/
theorem keepsLinks_stays (ports : t.surface = s.surface ∧ t.editor = s.editor) : KeepsLinks c s (.next t) :=
  ⟨t, rfl, .of_goesOn (.of_links ⟨by rw [ports.1], by rw [ports.2]⟩) (arbitersDone_congr ports.1 ports.2)⟩

/-- A command that ends with every arbiter's choice. -/
theorem keepsLinks_transmitAll (goesOn : LinksGoOn s u) : KeepsLinks c s (.next u.transmitAll) :=
  ⟨_, rfl, .of_goesOn (goesOn.trans (.transmitAll u)) fun _ => arbitersDone_transmitAll u⟩

/-- A command that reaches one surface port and ends with that port's choice. -/
theorem keepsLinks_transmitAt (goesOn : LinksGoOn s u) (only : OnlyAt p s u) : KeepsLinks c s (.next (u.transmitAt p)) :=
  ⟨_, rfl, .of_goesOn (goesOn.trans (.transmitAt u p)) (arbitersDone_transmitAt only)⟩

/-- A command that reaches the editor port, and of the surface ports nothing that they send, and ends with the editor port's
choice. -/
theorem keepsLinks_transmitEditor (goesOn : LinksGoOn s u)
    (surface : ∀ p, (s.surfaceOf p).Done → (u.surfaceOf p).Done) : KeepsLinks c s (.next u.transmitEditor) :=
  ⟨_, rfl, .of_goesOn (goesOn.trans (.transmitEditor u)) (arbitersDone_transmitEditor surface)⟩

/-- A command that reaches the editor port alone and ends with its choice. -/
theorem keepsLinks_editorAlone (kept : u.surface = s.surface ∧ u.editor.sending = s.editor.sending) :
    KeepsLinks c s (.next u.transmitEditor) := by
  refine keepsLinks_transmitEditor (.of_links ⟨by rw [kept.1], kept.2⟩) fun p done => ?_
  rwa [State.surfaceOf_congr kept.1]

end Sys2Proof.Machine
end

section
/-! SUPPORT. The commands that end a frame under way or take a port DOWN (R1, R158, R159, R171, R177, R179, R193), and so every
command and every step at the links. -/

namespace Sys2Proof.Machine

open Sys2Proof.Safety

variable {c : Instr} {s u : State} {p : SurfaceId}

/-! ## The end of a frame (R171, R179) -/

@[simp] theorem SurfacePort.sent_link (x : SurfacePort) (f : Transmission) : (x.sent f).link = x.link := by
  cases source : f.source with
  | reply | flags | gone => simp only [SurfacePort.sent, source]
  | notice | transport | follow =>
    simp only [SurfacePort.sent, source]
    split
    · split <;> rfl
    · rfl

/-- At a DOWN port that is empty the frame that ends has lost its entry, so nothing else changes. -/
theorem SurfacePort.sent_empty {x : SurfacePort} {f : Transmission} (empty : downPortEmpty x) (sends : x.sending = some f) :
    downPortEmpty (x.sent f) := by
  intro down
  obtain ⟨timer, inbound, hold, replies, transport, position, entries, gone⟩ := empty ((x.sent_link f).symm.trans down)
  have ended : x.sent f = { x with sending := none } := by simp only [SurfacePort.sent, gone f sends]
  rw [ended]
  exact ⟨timer, inbound, hold, replies, transport, position, entries, fun _ sent => nomatch sent⟩

theorem exec_surfaceFrameSent_keepsLinks (s : State) (p : SurfaceId) :
    KeepsLinks (.surfaceFrameSent p) s (exec (.surfaceFrameSent p) s) := by
  cases sends : (s.surfaceOf p).sending with
  | none =>
    rw [exec_surfaceFrameSent_idle sends]
    exact keepsLinks_stays ⟨rfl, rfl⟩
  | some f =>
    rw [exec_surfaceFrameSent sends]
    have only : OnlyAt p s (s.setSurface p ((s.surfaceOf p).sent f).transmit) := .setSurface s _
    refine ⟨_, rfl, fun empty q => ?empty, fun done => ?done, fun q g other _ waits => ?frame, fun g _ _ waits => .inl waits⟩
    case empty =>
      by_cases here : p = q
      · subst here
        rw [State.surfaceOf_setSurface_self]
        exact (PortGoesOn.transmit _).empty (SurfacePort.sent_empty (empty p) sends)
      · rw [only.surface q here]
        exact empty q
    case done =>
      rw [← setSurface_transmitAt]
      exact arbitersDone_transmitAt (.setSurface s _) done
    case frame =>
      have elsewhere : p ≠ q := fun here => other (congrArg Instr.surfaceFrameSent here)
      rw [only.surface q elsewhere]
      exact .inl waits

theorem exec_editorFrameSent_keepsLinks (s : State) : KeepsLinks .editorFrameSent s (exec .editorFrameSent s) := by
  cases sends : s.editor.sending with
  | none =>
    rw [exec_editorFrameSent_idle sends]
    exact keepsLinks_stays ⟨rfl, rfl⟩
  | some f =>
    rw [exec_editorFrameSent sends]
    have surface (p : SurfaceId) : (State.transmitEditor { s with editor := s.editor.sent f }).surfaceOf p = s.surfaceOf p :=
      transmitEditor_surfaceOf _ p
    refine ⟨_, rfl, fun empty p => ?empty, fun done => ?done, fun p g _ _ waits => ?frame,
      fun g ends _ _ => absurd rfl ends⟩
    case empty =>
      rw [surface]
      exact empty p
    case done => exact arbitersDone_transmitEditor (s := s) (fun p => id) done
    case frame =>
      rw [surface]
      exact .inl waits

/-! ## The ways into DOWN (R158, R159, R177, R193) -/

/-- A command that takes ports DOWN and ends with the editor port's choice: each frame under way goes on, or its port went
DOWN and it has lost its entry. -/
theorem keepsLinks_wentDown (surface : ∀ p, u.surfaceOf p = s.surfaceOf p ∨
      ∃ flag, u.surfaceOf p = { (s.surfaceOf p).wentDown with linkDown := flag })
    (editor : u.editor.sending = s.editor.sending ∨ u.editor = s.editor.wentDown) :
    KeepsLinks c s (.next u.transmitEditor) := by
  refine ⟨_, rfl, fun empty p => ?empty, arbitersDone_transmitEditor fun p done => ?done, fun p f _ _ sends => ?surface,
    fun f _ _ sends => ?editor⟩
  case empty =>
    rw [transmitEditor_surfaceOf]
    obtain same | ⟨flag, down⟩ := surface p
    · rw [same]
      exact empty p
    · rw [down]
      exact (s.surfaceOf p).wentDown_empty
  case done =>
    obtain same | ⟨flag, down⟩ := surface p
    · rwa [same]
    · exact SurfacePort.done_of_down (congrArg SurfacePort.link down)
  case surface =>
    rw [transmitEditor_surfaceOf]
    obtain same | ⟨flag, down⟩ := surface p
    · rw [same]
      exact .inl sends
    · rw [down]
      exact .inr ⟨rfl, congrArg forgetEntry sends⟩
  case editor =>
    obtain same | down := editor
    · exact .inl ((LinksGoOn.transmitEditor u).editor f (same.trans sends))
    · have waits : u.transmitEditor = u := State.transmitEditor_notFree fun free => by simp [down, EditorPort.wentDown] at free
      rw [waits, down]
      exact .inr ⟨rfl, congrArg forgetEntry sends⟩

theorem exec_silenceExpiry_keepsLinks (s : State) (p : SurfaceId) :
    KeepsLinks (.silenceExpiry p) s (exec (.silenceExpiry p) s) := by
  simp only [exec, execSilenceExpiry]
  split
  · next e _ =>
    refine keepsLinks_wentDown (fun q => ?_) (.inl (by rw [s.surfaceSilent_editor p e]))
    rw [State.surfaceSilent_surfaceOf]
    split
    · exact .inr ⟨true, rfl⟩
    · exact .inl rfl
  · exact keepsLinks_stays ⟨rfl, rfl⟩

theorem exec_editorSilenceExpiry_keepsLinks (s : State) :
    KeepsLinks .editorSilenceExpiry s (exec .editorSilenceExpiry s) := by
  simp only [exec, execEditorSilenceExpiry]
  split
  · next e _ =>
    have down := State.editorDown_editor { s with now := max s.now e }
    have waits := State.transmitEditor_notFree (s := State.editorDown { s with now := max s.now e })
      fun free => by simp [down, EditorPort.wentDown] at free
    rw [← waits]
    refine keepsLinks_wentDown (fun p => .inl ?_) (.inr down)
    rw [State.editorDown_eq]
    rfl
  · exact keepsLinks_stays ⟨rfl, rfl⟩

theorem exec_linkReset_keepsLinks (s : State) : KeepsLinks .linkReset s (exec .linkReset s) := by
  simp only [exec, execLinkReset]
  split
  · next port _ =>
    unfold State.takeLinkReset
    split_ifs with isSurface isEditor
    · refine keepsLinks_wentDown (fun p => ?_) (.inl (by simp [State.surfaceDown]))
      rw [State.surfaceOf_congr (s := s.popEditor.surfaceDown ⟨port.toNat, isSurface⟩) (by simp [State.postDone]),
        State.surfaceDown_surfaceOf]
      split
      · exact .inr ⟨(s.surfaceOf p).linkDown, rfl⟩
      · exact .inl rfl
    · refine keepsLinks_wentDown (fun p => .inl ?_) (.inr (State.editorDown_editor _))
      rw [State.editorDown_eq]
      rfl
    · exact keepsLinks_editorAlone (by simp)
  · exact keepsLinks_stays ⟨rfl, rfl⟩

/-! ## Power-on reset (R1) -/

theorem powerOnReset_surfaceOf (s : State) (p : SurfaceId) :
    s.powerOnReset.surfaceOf p = { SurfacePort.reset with farHold := (s.surfaceOf p).farHold } := tget_tbuild _ p

theorem exec_powerOnReset_keepsLinks (s : State) : KeepsLinks .powerOnReset s (exec .powerOnReset s) := by
  rw [State.exec_powerOnReset]
  refine ⟨_, rfl, fun _ p => ?empty, fun _ => (arbitersDone_iff _).2 ⟨fun p => ?down, EditorPort.done_of_down rfl⟩,
    fun _ _ _ on => absurd rfl on, fun _ _ on => absurd rfl on⟩
  case empty =>
    rw [powerOnReset_surfaceOf]
    exact SurfacePort.downPortEmpty_reset
  case down => exact SurfacePort.done_of_down (congrArg SurfacePort.link (powerOnReset_surfaceOf s p))

end Sys2Proof.Machine
end

section
/-! SUPPORT. Every command and every step at the links (R158, R159, R169, R170, R177, R179). -/

namespace Sys2Proof.Machine

open Sys2Proof.Safety

variable {c : Instr} {s u : State}

/-- A command that posts, and ends with every arbiter's choice. -/
theorem keepsLinks_posts (kept : portCores u.surface = portCores s.surface ∧ u.editor.sending = s.editor.sending) :
    KeepsLinks c s (.next u.transmitAll) := keepsLinks_transmitAll (.of_links kept)

/-- The sticky flags say nothing of what waits. -/
theorem SurfacePort.done_linkDown {x : SurfacePort} (flag : Bool) (done : x.Done) :
    SurfacePort.Done { x with linkDown := flag } := by
  intro up free dropped
  obtain ⟨replies, notices, transport, follow⟩ := done up free dropped
  exact ⟨replies, notices, transport, follow⟩

theorem State.clearFlagSet_surfaceOf (s : State) (set : Byte) (p : SurfaceId) : (s.clearFlagSet set).surfaceOf p =
    { s.surfaceOf p with linkDown := (s.surfaceOf p).linkDown && !set.getLsbD (3 + p.val) } := tget_tbuild _ p

theorem State.clearFlagSet_surface_congr {s t : State} (set : Byte) (h : t.surface = s.surface) :
    (t.clearFlagSet set).surface = (s.clearFlagSet set).surface :=
  table_ext fun p => by
    change (t.clearFlagSet set).surfaceOf p = (s.clearFlagSet set).surfaceOf p
    rw [clearFlagSet_surfaceOf, clearFlagSet_surfaceOf, surfaceOf_congr h]

/-- Of the surface ports MIX RESET reaches the sticky flags alone (R192). -/
theorem State.takeMixReset_surface (s : State) : s.takeMixReset.surface = (s.clearFlagSet 0x7F#8).surface := by
  simp only [takeMixReset, postDone, postEditor_frame]
  exact clearFlagSet_surface_congr _ (by simp)

/-- A command that clears flags reaches, of the surface ports, their sticky flags alone (R191, R192). -/
theorem keepsLinks_clearFlagSet {set : Byte} (surface : u.surface = (s.clearFlagSet set).surface)
    (editor : u.editor.sending = s.editor.sending) : KeepsLinks c s (.next u.transmitEditor) := by
  refine keepsLinks_transmitEditor (.of_links ⟨surface ▸ s.clearFlagSet_cores set, editor⟩) fun p done => ?_
  rw [State.surfaceOf_congr surface, State.clearFlagSet_surfaceOf]
  exact SurfacePort.done_linkDown _ done

/-- Each command keeps the links: most of them post at most and let the arbiters choose; a reception and the take of a seat
message reach one port. -/
theorem exec_keepsLinks (c : Instr) (s : State) : KeepsLinks c s (exec c s) := by
  have stays {u : State} : KeepsLinks c u (.next u) := keepsLinks_stays ⟨rfl, rfl⟩
  cases c with
  | powerOnReset => exact exec_powerOnReset_keepsLinks s
  | surfaceFrameSent p => exact exec_surfaceFrameSent_keepsLinks s p
  | editorFrameSent => exact exec_editorFrameSent_keepsLinks s
  | silenceExpiry p => exact exec_silenceExpiry_keepsLinks s p
  | editorSilenceExpiry => exact exec_editorSilenceExpiry_keepsLinks s
  | linkReset => exact exec_linkReset_keepsLinks s
  | frameTimerExpiry | deferredClosingWork | loadRecordSlot => exact keepsLinks_posts (by simp)
  | frameMark | controlEvaluation | evaluationResume | setControl | setStem | setSeat | listRecord =>
    simp only [exec, execFrameMark, execControlEvaluation, execEvaluationResume, execSetControl, execSetStem, execSetSeat,
      execListRecord]
    split
    exacts [keepsLinks_posts (by simp), stays]
  | blockStart | blockEnd | engineRead => exact keepsLinks_stays (by simp)
  | memoryGrant | appendWriteComplete | chainReturnWriteComplete | loadWriteComplete | refillReadComplete
    | fetchComplete | walkStart | walkReadComplete | spliceStart | spliceWalkReadComplete | spliceWriteComplete
    | formatWriteComplete =>
    simp only [exec, execMemoryGrant, execAppendWriteComplete, execChainReturnWriteComplete, execLoadWriteComplete,
      execRefillReadComplete, execFetchComplete, execWalkStart, execWalkReadComplete, execSpliceStart,
      execSpliceWalkReadComplete, execSpliceWriteComplete, execFormatWriteComplete]
    split
    exacts [keepsLinks_stays (by simp), stays]
  | closingWriteComplete =>
    simp only [exec, execClosingWriteComplete]
    split
    exacts [keepsLinks_stays (by simp), keepsLinks_stays (by simp), stays]
  | editorFrameReceived => exact keepsLinks_editorAlone (by simp)
  | loadReplacement | clearListEvent | listReadRequest | listReadComplete | setHub | listBegin | listEnd | readList
    | clearList | status =>
    simp only [exec, execLoadReplacement, execClearListEvent, execListReadRequest, execListReadComplete, execSetHub,
      execListBegin, execListEnd, execReadList, execClearList, execStatus]
    split
    exacts [keepsLinks_editorAlone (by simp), stays]
  | clearFlags =>
    simp only [exec, execClearFlags]
    split
    exacts [keepsLinks_clearFlagSet rfl rfl, stays]
  | mixReset =>
    simp only [exec, execMixReset]
    split
    exacts [keepsLinks_clearFlagSet s.popEditor.takeMixReset_surface (by simp), stays]
  | farHoldChange port raised =>
    cases port with
    | surface p => exact keepsLinks_transmitAt (.of_setSurface ⟨fun _ => id, id⟩) (.setSurface s _)
    | editor => exact keepsLinks_editorAlone (by simp)
  | surfaceFrameReceived p symbols => exact keepsLinks_transmitAt (.surfaceSymbols s p symbols) (.surfaceSymbols s symbols)
  | touch =>
    simp only [exec, execTouch]
    split
    exacts [keepsLinks_transmitAll (.takeFader (fun _ _ _ => by simp) _ _ _ _), stays]
  | move =>
    simp only [exec, execMove]
    split
    · exact keepsLinks_transmitAt (.takeFader (fun _ _ _ => by simp) _ _ _ _)
        (.takeFader (fun u i c => .moveControl _ _ u i c) s _ _)
    · exact stays
  | release =>
    simp only [exec, execRelease]
    split
    · exact keepsLinks_transmitAt (.takeFader (fun _ _ _ => by simp) _ _ _ _)
        (.takeFader (fun u i c => .releaseControl _ u i c) s _ _)
    · exact stays
  | mode =>
    simp only [exec, execMode]
    split
    · exact keepsLinks_transmitAt (.takeFader (fun _ _ _ => by simp) _ _ _ _)
        (.takeFader (fun u i c => .modeControl _ _ u i c) s _ _)
    · exact stays
  | query =>
    simp only [exec, execQuery]
    split
    · exact keepsLinks_transmitAt (.takeFader (fun _ _ _ => by simp [State.queryControl]) _ _ _ _)
        (.takeFader (fun u _ _ => .postReply u _ _) s _ _)
    · exact stays
  | bank =>
    simp only [exec, execBank]
    split
    exacts [keepsLinks_transmitAt (.takeBank s _ _ _) (.takeBank s _ _), stays]
  | hello =>
    simp only [exec, execHello]
    split
    · next handed => exact keepsLinks_transmitAt (.takeHello handed) (.trans (.setSurface s _) (.setSurface _ _))
    · exact stays

/-- A step keeps the links as its command does; a tick reaches no port. -/
theorem keepsLinks_of_step {t : State} (stepped : step s = .next t) :
    (DownPortsEmpty s → DownPortsEmpty t) ∧ (ArbitersDone s → ArbitersDone t) := by
  unfold step at stepped
  split at stepped
  · cases stepped
    exact ⟨id, id⟩
  · next c rest _ =>
    obtain ⟨u, next, kept⟩ := exec_keepsLinks c { s with pending := rest }
    rw [stepped] at next
    cases next
    exact ⟨kept.empty, kept.done⟩

/-- Settles O59: a port that is DOWN is given nothing, and one that goes DOWN is emptied. -/
theorem stepKeepsDownPortsEmpty : Obligations.StepKeepsDownPortsEmpty :=
  fun _ _ empty stepped => (keepsLinks_of_step stepped).1 empty

/-- Settles O60: every command that gives a port something to send, or frees its link, ends with the choice of its arbiter. -/
theorem stepKeepsLinksBusy : Obligations.StepKeepsLinksBusy :=
  fun _ _ done stepped => (keepsLinks_of_step stepped).2 done

theorem linksKept_of_exec {t : State} (next : exec c s = .next t) : LinksKept c s t := by
  obtain ⟨u, reached, kept⟩ := exec_keepsLinks c s
  rw [next] at reached
  cases reached
  exact kept

/-- Settles O42: a frame under way at a surface port, then at the editor port, by what every command keeps at the links; then
the reset input. -/
theorem frameUnderWayKept : Obligations.FrameUnderWayKept := by
  refine ⟨fun c s t p f other running sends next => (linksKept_of_exec next).surface p f other running sends,
    fun c s t f other running sends next => (linksKept_of_exec next).editor f other running sends, fun s t p next => ?reset⟩
  case reset =>
    cases next
    exact ⟨congrArg SurfacePort.sending (powerOnReset_surfaceOf s p), rfl⟩

end Sys2Proof.Machine
end

section
/-! SUPPORT. The reply places of the editor port (R175, R178, R187): what the invariant reads of a state, and the moves that keep
it: a reply posted, a place reserved or released, and an outcome posted into its place. -/

namespace Sys2Proof.Machine

open Sys2Proof.Safety

/-! ## The view -/

/-- A list read whose result will not be dropped (R177, R187). -/
def MemRequest.isLiveRead : MemRequest → Bool
  | .listRead _ live => live
  | _ => false

@[simp] theorem MemRequest.isLiveRead_others :
    (∀ o w, (append o w).isLiveRead = false) ∧ (∀ o w, (closing o w).isLiveRead = false) ∧
    (∀ kind w, (chainReturn kind w).isLiveRead = false) ∧ (∀ c slot, (fetch c slot).isLiveRead = false) ∧
    (∀ slot, (spliceRead slot).isLiveRead = false) ∧ (∀ w, (spliceWrite w).isLiveRead = false) ∧
    (∀ slot live, (walkRead slot live).isLiveRead = false) ∧ (∀ w, (loadWrite w).isLiveRead = false) ∧
    (∀ slot, (refill slot).isLiveRead = false) ∧ (∀ slot, (format slot).isLiveRead = false) :=
  ⟨fun _ _ => rfl, fun _ _ => rfl, fun _ _ => rfl, fun _ _ => rfl, fun _ => rfl, fun _ => rfl, fun _ _ => rfl, fun _ => rfl,
    fun _ => rfl, fun _ => rfl⟩

/-- How many live list reads have not completed at a memory port. -/
def MemoryPort.liveReads (x : MemoryPort) : Nat := (x.access.toList ++ x.requests).countP MemRequest.isLiveRead

/-- What the reply places are held for: the places, whether a load and a clear are in flight, the list read in flight as
whether its read is at the memory port, and the live list reads there. -/
structure PlacesView where
  replies : List ReplyPlace
  loads : Bool
  clears : Bool
  reads : Option Bool
  live : Nat

/-- The view of a state. -/
def State.placesView (s : State) : PlacesView where
  replies := s.editor.replies
  loads := s.store.load.isSome
  clears := s.editor.clear.isSome
  reads := s.editor.read.map ListRead.atPort
  live := s.port.liveReads

namespace PlacesView

/-- How many operations that hold a place of a kind are in flight. -/
def inFlight (v : PlacesView) : PlaceOwner → Nat
  | .load => v.loads.toNat
  | .clear => v.clears.toNat
  | .read => v.reads.isSome.toNat
  | .record => (v.reads == some true).toNat

/-- At most n places, with just one reserved for each operation in flight; the read of the record is at the memory port. -/
structure Held (n : Nat) (v : PlacesView) : Prop where
  length_le : v.replies.length ≤ n
  places : ∀ o, v.replies.count (.reserved o) = v.inFlight o
  live : v.live = v.inFlight .record

end PlacesView

theorem State.placesView_held_iff (s : State) : s.placesView.Held 16 ↔ ReplyPlacesHeld s := by
  have one (b : Bool) : b.toNat = if b then 1 else 0 := by cases b <;> rfl
  have away : (s.placesView.reads == some true) = s.editor.read.any (fun r => r.atPort) := by
    cases read : s.editor.read <;> simp [State.placesView, read]
  have owned (o : PlaceOwner) : s.placesView.inFlight o = match o with
      | .load => if s.store.load.isSome then 1 else 0
      | .clear => if s.editor.clear.isSome then 1 else 0
      | .read => if s.editor.read.isSome then 1 else 0
      | .record => if s.editor.read.any (fun r => r.atPort) then 1 else 0 := by
    cases o with
    | load | clear => exact one _
    | read => rw [PlacesView.inFlight, one, State.placesView, Option.isSome_map]
    | record => rw [PlacesView.inFlight, one, away]
  constructor
  · rintro ⟨room, places, live⟩
    refine ⟨room, (places .load).trans (owned .load), (places .clear).trans (owned .clear),
      (places .read).trans (owned .read), (places .record).trans (owned .record), Eq.trans ?_ (live.trans (places .record).symm)⟩
    exact List.countP_congr fun q _ => by cases q <;> rfl
  · rintro ⟨room, load, clear, read, record, live⟩
    refine ⟨room, fun o => ?_, Eq.trans (Eq.trans ?reads live) (record.trans (owned .record).symm)⟩
    case reads => exact List.countP_congr fun q _ => by cases q <;> rfl
    cases o with
    | load => exact load.trans (owned .load).symm
    | clear => exact clear.trans (owned .clear).symm
    | read => exact read.trans (owned .read).symm
    | record => exact record.trans (owned .record).symm

/-! ## The moves -/

namespace PlacesView

theorem count_posted (l : List ReplyPlace) (m : OutMessage) (o : PlaceOwner) :
    (l ++ [ReplyPlace.held m]).count (.reserved o) = l.count (.reserved o) := by
  simp

namespace Held

variable {v w : PlacesView} {n : Nat}

theorem withRoom {k : Nat} (h : v.Held n) (room : v.replies.length ≤ k) : v.Held k := { h with length_le := room }

theorem mono {k : Nat} (h : v.Held n) (le : n ≤ k) : v.Held k := h.withRoom (h.length_le.trans le)

theorem mem_reserved (h : v.Held n) {o : PlaceOwner} (flies : v.inFlight o = 1) : ReplyPlace.reserved o ∈ v.replies :=
  List.count_pos_iff.1 ((h.places o).trans flies ▸ Nat.one_pos)

/-- A reply is posted into a free place (R178). -/
theorem posted (h : v.Held n) (m : OutMessage) :
    PlacesView.Held (n + 1) { v with replies := v.replies ++ [.held m] } where
  length_le := by simpa using h.length_le
  places o := (count_posted ..).trans (h.places o)
  live := h.live

/-- An operation begins and reserves its place (R175, R178). -/
theorem reserved (h : v.Held n) (o : PlaceOwner) (replies : w.replies = v.replies ++ [.reserved o])
    (begins : ∀ p, w.inFlight p = v.inFlight p + if p = o then 1 else 0) (live : w.live = w.inFlight .record) :
    w.Held (n + 1) where
  length_le := by simpa [replies] using h.length_le
  places p := by
    rw [replies, begins, List.count_append, h.places, List.count_singleton]
    simp [eq_comm (a := p)]
  live := live

/-- An operation ends and its place is released (R187). -/
theorem released (h : v.Held n) (o : PlaceOwner) (replies : w.replies = v.replies.erase (.reserved o))
    (ends : ∀ p, w.inFlight p = if p = o then 0 else v.inFlight p) (live : w.live = w.inFlight .record)
    (once : v.inFlight o ≤ 1) : w.Held n where
  length_le := replies ▸ List.erase_sublist.length_le.trans h.length_le
  places p := by
    rw [replies, ends]
    by_cases same : p = o
    · subst same
      rw [List.count_erase_self, h.places, if_pos rfl]
      omega
    · rw [List.count_erase_of_ne (by simpa using same), h.places, if_neg same]
  live := live

/-- An operation ends with an outcome, which is posted at the tail for its place (R179). -/
theorem outcome (h : v.Held n) (o : PlaceOwner) (m : OutMessage) (flies : v.inFlight o = 1)
    (replies : w.replies = v.replies.erase (.reserved o) ++ [.held m])
    (ends : ∀ p, w.inFlight p = if p = o then 0 else v.inFlight p) (live : w.live = w.inFlight .record) : w.Held n where
  length_le := by
    have stands := h.mem_reserved flies
    have pos := List.length_pos_of_mem stands
    have le := h.length_le
    rw [replies, List.length_append, List.length_erase_of_mem stands, List.length_singleton]
    omega
  places p := by
    have freed := (h.released (w := { w with replies := v.replies.erase (.reserved o) }) o rfl ends live flies.le).places p
    exact (congrArg (List.count (.reserved p)) replies).trans ((count_posted ..).trans freed)
  live := live

/-- The record that a list read has requested comes, or will be dropped: its place is released (R187). -/
theorem recordReleased (h : v.Held n) {b : Bool} (reads : v.reads = some b) : PlacesView.Held n
    { v with replies := v.replies.erase (.reserved .record), reads := some false, live := 0 } := by
  refine h.released .record rfl (fun p => ?_) rfl (Bool.toNat_le _)
  cases p with
  | read => simp [inFlight, reads]
  | _ => rfl

/-- The record that a list read has requested comes and is posted in its place (R187). -/
theorem recordPosted (h : v.Held n) (reads : v.reads = some true) (m : OutMessage) : PlacesView.Held n
    { v with replies := v.replies.erase (.reserved .record) ++ [.held m], reads := some false, live := 0 } := by
  refine h.outcome .record m (by simp [inFlight, reads]) rfl (fun p => ?_) rfl
  cases p with
  | read => simp [inFlight, reads]
  | _ => rfl

/-- A list read ends that has no record requested (R187). -/
theorem readEnded (h : v.Held n) (reads : v.reads = some false) (m : OutMessage) : PlacesView.Held n
    { v with replies := v.replies.erase (.reserved .read) ++ [.held m], reads := none } := by
  refine h.outcome .read m (by simp [inFlight, reads]) rfl (fun p => ?_) ?_
  · cases p with
    | record => simp [inFlight, reads]
    | _ => rfl
  · exact h.live.trans (by simp [inFlight, reads])

end Held

/-- No place is held where nothing is in flight: after a reset and while the port is DOWN (R175, R177). -/
def empty : PlacesView := { replies := [], loads := false, clears := false, reads := none, live := 0 }

theorem held_empty (n : Nat) : empty.Held n where
  length_le := Nat.zero_le n
  places o := by cases o <;> rfl
  live := rfl

theorem count_dropFirstHeld (l : List ReplyPlace) (o : PlaceOwner) :
    (dropFirstHeld l).count (.reserved o) = l.count (.reserved o) := by
  induction l with
  | nil => rfl
  | cons place l ih =>
    cases place with
    | held m => simp [dropFirstHeld]
    | reserved p => simp only [dropFirstHeld, List.count_cons, ih]

theorem length_dropFirstHeld_le (l : List ReplyPlace) : (dropFirstHeld l).length ≤ l.length := by
  induction l with
  | nil => exact le_rfl
  | cons place l ih =>
    cases place with
    | held m => simp [dropFirstHeld]
    | reserved p => simpa [dropFirstHeld] using ih

/-- A reply that has been sent frees its place, and reserved places stay (R179). -/
theorem Held.sent {v : PlacesView} {n : Nat} (h : v.Held n) : { v with replies := dropFirstHeld v.replies }.Held n where
  length_le := (length_dropFirstHeld_le v.replies).trans h.length_le
  places o := (count_dropFirstHeld v.replies o).trans (h.places o)
  live := h.live

end PlacesView

end Sys2Proof.Machine
end

section
/-! SUPPORT. What leaves the reply places as they are (R175): every operation but those of loads, clears, list reads and the
editor port's own replies. -/

namespace Sys2Proof.Machine

open Sys2Proof.Safety

namespace State

/-! ## One block at a time -/

theorem placesView_congr {s t : State} (editor : t.editor.replies = s.editor.replies ∧ t.editor.read = s.editor.read ∧
    t.editor.clear = s.editor.clear) (load : t.store.load = s.store.load) (port : t.port.liveReads = s.port.liveReads) :
    t.placesView = s.placesView := by
  obtain ⟨replies, read, clear⟩ := editor
  simp only [placesView, replies, read, clear, load, port]

/-- What reaches none of the three blocks. -/
theorem placesView_others {s t : State} (kept : t.editor = s.editor ∧ t.store = s.store ∧ t.port = s.port) :
    t.placesView = s.placesView := by
  obtain ⟨editor, store, port⟩ := kept
  simp only [placesView, editor, store, port]

theorem placesView_ite {p : Prop} [Decidable p] {a b s : State} (yes : a.placesView = s.placesView)
    (no : b.placesView = s.placesView) : (if p then a else b).placesView = s.placesView := by
  split
  exacts [yes, no]

@[simp] theorem setRun_placesView (s : State) (x : PassRun) : (s.setRun x).placesView = s.placesView := rfl
@[simp] theorem setRecord_placesView (s : State) (c : ControlId) (x : EvalRecord) :
    (s.setRecord c x).placesView = s.placesView := rfl
@[simp] theorem setConfig_placesView (s : State) (c : ControlId) (x : ControlConfig) :
    (s.setConfig c x).placesView = s.placesView := rfl
@[simp] theorem setSafe_placesView (s : State) (i : StemId) (b : Bool) : (s.setSafe i b).placesView = s.placesView := rfl
@[simp] theorem setSegment_placesView (s : State) (c : ControlId) (x : Option Segment) :
    (s.setSegment c x).placesView = s.placesView := rfl
@[simp] theorem setCursor_placesView (s : State) (c : ControlId) (x : Cursor) :
    (s.setCursor c x).placesView = s.placesView := rfl
@[simp] theorem setWalk_placesView (s : State) (x : Option Walk) : (s.setWalk x).placesView = s.placesView := rfl
@[simp] theorem setTracker_placesView (s : State) (x : Tracker) : (s.setTracker x).placesView = s.placesView := rfl
@[simp] theorem setPendingFrame_placesView (s : State) (x : Option Frame) :
    (s.setPendingFrame x).placesView = s.placesView := rfl
@[simp] theorem setList_placesView (s : State) (c : ControlId) (x : Descriptor) :
    (s.setList c x).placesView = s.placesView := rfl
@[simp] theorem setSpliceQueue_placesView (s : State) (q : List ClosedSegment) :
    (s.setSpliceQueue q).placesView = s.placesView := rfl
@[simp] theorem joinSpliceQueue_placesView (s : State) (e : ClosedSegment) :
    (s.joinSpliceQueue e).placesView = s.placesView := rfl
@[simp] theorem setSplice_placesView (s : State) (x : SpliceState) : (s.setSplice x).placesView = s.placesView := rfl
@[simp] theorem setRefill_placesView (s : State) (x : Refill) : (s.setRefill x).placesView = s.placesView := rfl
@[simp] theorem refillFrom_placesView (s : State) (x : SlotRecord) : (s.refillFrom x).placesView = s.placesView := rfl
@[simp] theorem popEditor_placesView (s : State) : s.popEditor.placesView = s.placesView := rfl
@[simp] theorem setEditorReceiving_placesView (s : State) (x : Option (List Byte)) :
    (s.setEditorReceiving x).placesView = s.placesView := rfl
@[simp] theorem clearFlagSet_placesView (s : State) (set : Byte) : (s.clearFlagSet set).placesView = s.placesView := rfl
@[simp] theorem startPass_placesView (s : State) (t : Frame) : (s.startPass t).placesView = s.placesView := rfl

/-! ## The ports (R38, R160, R169, R179, R191) -/

@[simp] theorem flagRise_placesView (s : State) : s.flagRise.placesView = s.placesView := placesView_ite rfl rfl

@[simp] theorem raiseLockLost_placesView (s : State) : s.raiseLockLost.placesView = s.placesView :=
  placesView_ite rfl (flagRise_placesView _)

@[simp] theorem raisePassOverrun_placesView (s : State) : s.raisePassOverrun.placesView = s.placesView :=
  placesView_ite rfl (flagRise_placesView _)

@[simp] theorem raiseLinkDown_placesView (s : State) (p : SurfaceId) : (s.raiseLinkDown p).placesView = s.placesView :=
  placesView_ite rfl (flagRise_placesView _)

@[simp] theorem postTransport_placesView (s : State) : s.postTransport.placesView = s.placesView := by
  refine placesView_congr ?_ (by simp) (by simp)
  rw [postTransport_editor]
  split <;> exact ⟨rfl, rfl, rfl⟩

@[simp] theorem postTransportWhen_placesView (s : State) (b : Bool) : (s.postTransportWhen b).placesView = s.placesView :=
  placesView_ite s.postTransport_placesView rfl

@[simp] theorem transmitAt_placesView (s : State) (p : SurfaceId) : (s.transmitAt p).placesView = s.placesView := rfl

@[simp] theorem transmitEditor_placesView (s : State) : s.transmitEditor.placesView = s.placesView :=
  placesView_congr (by simp) (by simp) (by simp)

@[simp] theorem transmitAll_placesView (s : State) : s.transmitAll.placesView = s.placesView :=
  placesView_congr (by simp) (by simp) (by simp)

@[simp] theorem noticeHolder_placesView (s : State) (c : ControlId) (n : SeatNotice) :
    (s.noticeHolder c n).placesView = s.placesView := placesView_others (by simp)

/-! ## The memory port and the pool (R94, R107 to R109, R126) -/

theorem liveReads_posted (x : MemoryPort) {q : MemRequest} (dead : q.isLiveRead = false) :
    MemoryPort.liveReads { x with requests := x.requests ++ [q] } = x.liveReads := by
  simp [MemoryPort.liveReads, dead]

@[simp] theorem postRequest_placesView (s : State) {q : MemRequest} (dead : q.isLiveRead = false) :
    (s.postRequest q).placesView = s.placesView := placesView_congr ⟨rfl, rfl, rfl⟩ rfl (liveReads_posted s.port dead)

/-- Requests that are marked keep their number of live list reads, if the mark is not on them. -/
theorem mapRequests_placesView {f : MemRequest → MemRequest} (kept : ∀ q, (f q).isLiveRead = q.isLiveRead) (s : State) :
    (s.mapRequests f).placesView = s.placesView := by
  have kinds : MemRequest.isLiveRead ∘ f = MemRequest.isLiveRead := funext kept
  have access : (s.port.access.map f).toList = s.port.access.toList.map f := by cases s.port.access <;> rfl
  refine placesView_congr ⟨rfl, rfl, rfl⟩ rfl ?_
  simp only [MemoryPort.liveReads, mapRequests, access, ← List.map_append, List.countP_map, kinds]

/-- The end of an access that is no live list read. -/
theorem endAccess_placesView {s : State} {q : MemRequest} (access : s.port.access = some q) (dead : q.isLiveRead = false) :
    s.endAccess.placesView = s.placesView :=
  placesView_congr ⟨rfl, rfl, rfl⟩ rfl (by simp [endAccess, MemoryPort.liveReads, access, dead])

/-- A grant takes the request that was posted, or one that the store's own fields imply (R108, R111, R126). -/
theorem beginAccess_placesView {s : State} {q : MemRequest} (idle : s.port.access = none) (presented : q ∈ s.presented) :
    (s.beginAccess q).placesView = s.placesView := by
  have store : (s.beginAccess q).store.load = s.store.load := by cases q <;> rfl
  have port : (s.beginAccess q).port = { requests := s.port.requests.erase q, access := some q } := by cases q <;> rfl
  refine placesView_congr (by simp) store ?_
  simp only [port, MemoryPort.liveReads, idle, Option.toList_some, Option.toList_none, List.nil_append, List.singleton_append]
  by_cases posted : q ∈ s.port.requests
  · exact ((List.perm_cons_erase posted).symm.countP_eq _)
  · rw [List.erase_of_not_mem posted]
    refine List.countP_cons_of_neg ?_
    rcases mem_presented presented with requested | ⟨rfl, -⟩ | ⟨slot, rfl⟩
    · exact absurd requested posted
    · simp
    · simp

theorem completeWrite_placesView {s : State} {q : MemRequest} (w : SlotRecord) (access : s.port.access = some q)
    (dead : q.isLiveRead = false) : (s.completeWrite w).placesView = s.placesView :=
  (endAccess_placesView (s := { s with memory := Memory.writeSlot s.memory w.slot w.record }) access dead).trans rfl

@[simp] theorem requestRefill_placesView (s : State) : s.requestRefill.placesView = s.placesView := by
  rw [requestRefill_spec]
  rfl

theorem takeSlot_placesView {s t : State} {slot : Slot} (took : s.takeSlot = some (slot, t)) :
    t.placesView = s.placesView := by
  obtain ⟨rest, -, ⟨-, -, -, -, editor⟩, frame⟩ := takeSlot_spec took
  refine placesView_congr (by simp [editor]) ?_ (by rw [frame])
  rw [frame]

@[simp] theorem chainReturn_placesView (s : State) (kind : ReturnKind) (first last : Slot) (n : Nat) (x : Record) :
    (s.chainReturn kind first last n x).placesView = s.placesView := by
  rw [chainReturn_spec]
  exact placesView_congr ⟨rfl, rfl, rfl⟩ rfl (liveReads_posted s.port rfl)

@[simp] theorem returnChain_placesView (s : State) (kind : ReturnKind) (first last : Slot) (n : Nat) :
    (s.returnChain kind first last n).placesView = s.placesView := chainReturn_placesView ..

@[simp] theorem returnList_placesView (s : State) (d : Descriptor) : (s.returnList d).placesView = s.placesView :=
  placesView_ite rfl (returnChain_placesView ..)

@[simp] theorem relocateOne_placesView (s : State) (c : ControlId) : (s.relocateOne c).placesView = s.placesView := rfl

@[simp] theorem relocateAll_placesView (s : State) : s.relocateAll.placesView = s.placesView := by
  have dropped := mapRequests_placesView (f := MemRequest.dropWalk) (fun q => by cases q <;> rfl) s
  exact placesView_congr (by simp) (by simp) (congrArg PlacesView.live dropped)

@[simp] theorem clearStore_placesView (s : State) (c : ControlId) : (s.clearStore c).placesView = s.placesView := by
  simp [clearStore]

@[simp] theorem discardSegment_placesView (s : State) (c : ControlId) : (s.discardSegment c).placesView = s.placesView := by
  unfold discardSegment
  split
  · simp [mapRequests_placesView (f := MemRequest.disown c) fun q => by cases q <;> rfl]
  · rfl

@[simp] theorem discardAll_placesView (s : State) : s.discardAll.placesView = s.placesView := by
  have discards (l : List ControlId) (u : State) : (l.foldl discardSegment u).placesView = u.placesView := by
    induction l generalizing u with
    | nil => rfl
    | cons c l ih => exact (ih _).trans (u.discardSegment_placesView c)
  exact discards _ s

/-! ## Segments (R84 to R100) -/

@[simp] theorem enqueueClosed_placesView (s : State) (g : Segment) (final : Option Frame) :
    (s.enqueueClosed g final).placesView = s.placesView := by
  unfold enqueueClosed
  split
  · simp
  · split
    · split
      · next took => simp [postClosingWrite, takeSlot_placesView took]
      · simp [joinWithoutSlot]
    · simp [joinWithoutSlot]

@[simp] theorem closeSegment_placesView (s : State) (c : ControlId) (g : Segment) (f : Frame) :
    (s.closeSegment c g f).placesView = s.placesView := by
  simp [closeSegment]

@[simp] theorem endWait_placesView (s : State) : s.endWait.placesView = s.placesView := placesView_others (by simp)

@[simp] theorem endBarredPunchIn_placesView (s : State) : s.endBarredPunchIn.placesView = s.placesView :=
  placesView_others (by simp)

@[simp] theorem barIfInFlight_placesView (s : State) : s.barIfInFlight.placesView = s.placesView :=
  placesView_others (by simp)

@[simp] theorem closeOutside_placesView (s : State) (c : ControlId) : (s.closeOutside c).placesView = s.placesView := by
  unfold closeOutside
  split
  · dsimp only
    split <;> simp
  · rfl

@[simp] theorem closeEach_placesView (s : State) (l : List ControlId) : (s.closeEach l).placesView = s.placesView := by
  induction l generalizing s with
  | nil => rfl
  | cons c l ih => exact (ih (s.closeOutside c)).trans (s.closeOutside_placesView c)

@[simp] theorem closeWhere_placesView (s : State) (which : ControlId → Bool) :
    (s.closeWhere which).placesView = s.placesView := by
  rw [closeWhere_eq, closeEach_placesView]

@[simp] theorem closeAll_placesView (s : State) : s.closeAll.placesView = s.placesView := by simp [closeAll]

@[simp] theorem acquire_placesView (s : State) : s.acquire.placesView = s.placesView := by simp [acquire]

@[simp] theorem truncate_placesView (s : State) (e : Evaluation) (g : Segment) :
    (s.truncate e g).placesView = s.placesView := by
  unfold truncate
  dsimp only
  split <;> simp [setLatePunch]

@[simp] theorem truncateWaiting_placesView (s : State) : s.truncateWaiting.placesView = s.placesView := by
  unfold truncateWaiting
  split
  · split <;> simp
  · rfl

@[simp] theorem dropFinalRecords_placesView (s : State) : s.dropFinalRecords.placesView = s.placesView := rfl

@[simp] theorem closingDone_placesView (s : State) (c : ControlId) : (s.closingDone c).placesView = s.placesView := rfl

@[simp] theorem latePunch_placesView (s : State) (c : ControlId) : (s.latePunch c).placesView = s.placesView :=
  placesView_others (by simp)

theorem punchIn_placesView {s t : State} {c : ControlId} {f : Frame} {l : Level} (done : s.punchIn c f l = .done t) :
    t.placesView = s.placesView := by
  unfold punchIn at done
  split at done
  · split at done
    · split at done
      · next opens =>
        cases done
        unfold openSegment at opens
        split at opens
        · next took =>
          split at opens
          · next took' =>
            cases opens
            simp [takeSlot_placesView took', takeSlot_placesView took]
          · cases opens
        · cases opens
      · cases done
    · cases done
  · cases done
    simp

theorem append_placesView {s t : State} {e : Evaluation} {g : Segment} (done : s.append e g = .done t) :
    t.placesView = s.placesView := by
  unfold append at done
  split_ifs at done with empty none room
  · cases done
    simp
  · split at done
    · next took =>
      cases done
      simp [takeSlot_placesView took]
    · cases done

theorem serveOldestClosing_placesView (s : State) : s.serveOldestClosing.placesView = s.placesView := by
  unfold serveOldestClosing
  split
  · next took =>
    split
    · simp [postClosingWrite, takeSlot_placesView took]
    · rfl
  · rfl

/-! ## The pass (R64 to R81) -/

@[simp] theorem frameEvent_placesView (s : State) (t : Frame) : (s.frameEvent t).placesView = s.placesView := by
  unfold frameEvent
  split
  · split <;> simp
  · simp

@[simp] theorem finishEvaluation_placesView (s : State) (e : Evaluation) :
    (s.finishEvaluation e).placesView = s.placesView := placesView_others (by simp)

@[simp] theorem closeAtGlideEnd_placesView (s : State) (e : Evaluation) :
    (s.closeAtGlideEnd e).placesView = s.placesView := by
  unfold closeAtGlideEnd
  split
  · split <;> simp
  · rfl

@[simp] theorem settleWriter_done_placesView (s t : State) (e : Evaluation) (todo : EvalTodo) :
    (s.settleWriter e todo (.done t)).placesView = t.placesView := by
  unfold settleWriter
  dsimp only
  split <;> simp

@[simp] theorem enterWait_placesView (s : State) (e : Evaluation) (cause : WaitCause) (todo : EvalTodo) :
    (s.enterWait e cause todo).placesView = s.placesView := rfl

@[simp] theorem attemptPunchIn_placesView (s : State) (e : Evaluation) :
    (s.attemptPunchIn e).placesView = s.placesView := by
  unfold attemptPunchIn
  cases answer : s.punchIn e.control e.frame e.presented with
  | done t => simp [punchIn_placesView answer]
  | waits cause => simp

@[simp] theorem continueSegment_placesView (s : State) (e : Evaluation) (g : Segment) :
    (s.continueSegment e g).placesView = s.placesView := by
  unfold continueSegment
  split
  · simp
  · cases answer : s.append e g with
    | done t => simp [append_placesView answer]
    | waits cause => simp

@[simp] theorem withoutSegment_placesView (s : State) (e : Evaluation) :
    (s.withoutSegment e).placesView = s.placesView := by
  unfold withoutSegment
  split <;> simp

@[simp] theorem writerStep_placesView (s : State) (e : Evaluation) : (s.writerStep e).placesView = s.placesView := by
  unfold writerStep
  split
  · split <;> simp
  · simp

@[simp] theorem advanceCursor_placesView (s : State) (c : ControlId) (t : Frame) :
    (s.advanceCursor c t).placesView = s.placesView := by
  obtain ⟨x, ready, ahead, due, last | more⟩ | stays := s.advanceCursor_cases c t
  · rw [advanceCursor_last ready ahead due last]
    simp
  · rw [advanceCursor_fetches ready ahead due more]
    simp
  · rw [advanceCursor_stays stays]

@[simp] theorem staleTest_placesView (s : State) (c : ControlId) (t : Frame) :
    (s.staleTest c t).placesView = s.placesView := placesView_others (by simp)

@[simp] theorem evaluate_placesView (s : State) (c : ControlId) (t : Frame) :
    (s.evaluate c t).placesView = s.placesView := by
  simp [evaluate, evaluationStep, recordChoice]

@[simp] theorem resume_placesView (s : State) (e : Evaluation) : (s.resume e).placesView = s.placesView := by
  unfold resume
  split
  · simp
  · split <;> simp
  · simp

/-! ## The splice, the walks and the store (R112 to R118, R131, R134 to R138) -/

@[simp] theorem beginWrites_placesView (s : State) (g : Segment) (a : SpliceAnswer) :
    (s.beginWrites g a).placesView = s.placesView := by
  have posts (l : List SlotRecord) (u : State) :
      (l.foldl (fun x w => x.postRequest (.spliceWrite w)) u).placesView = u.placesView := by
    induction l generalizing u with
    | nil => rfl
    | cons w l ih => exact (ih _).trans (u.postRequest_placesView rfl)
  exact posts _ _

@[simp] theorem startSplice_placesView (s : State) (g : Segment) : (s.startSplice g).placesView = s.placesView := by
  unfold startSplice
  dsimp only
  split <;> simp

@[simp] theorem walkSplice_placesView (s : State) (g : Segment) (a : SpliceAnswer) (x : SlotRecord) :
    (s.walkSplice g a x).placesView = s.placesView := by
  unfold walkSplice
  dsimp only
  split <;> simp

@[simp] theorem returnSpliced_placesView (s : State) (g : Segment) (a : SpliceAnswer) :
    (s.returnSpliced g a).placesView = s.placesView := by
  unfold returnSpliced
  dsimp only
  split <;> split <;> simp

@[simp] theorem spliceWritten_placesView (s : State) : s.spliceWritten.placesView = s.placesView := by
  unfold spliceWritten
  split
  · split
    · rfl
    · simp [completeSplice]
  · rfl

@[simp] theorem walkOn_placesView (s : State) (w : Walk) (x : SlotRecord) : (s.walkOn w x).placesView = s.placesView := by
  unfold walkOn
  split
  · split_ifs <;> simp [endWalk]
  · rfl

@[simp] theorem startWalk_placesView (s : State) (c : ControlId) : (s.startWalk c).placesView = s.placesView := by
  unfold startWalk
  split <;> simp

theorem completeRefill_placesView {s : State} {slot : Slot} (access : s.port.access = some (.refill slot)) :
    (s.completeRefill slot).placesView = s.placesView := by
  have ended := endAccess_placesView access rfl
  unfold completeRefill
  split <;> simp [ended]

theorem completeFetch_placesView {s : State} {c : ControlId} {slot : Slot} (access : s.port.access = some (.fetch c slot)) :
    (s.completeFetch c slot).placesView = s.placesView :=
  placesView_ite (endAccess_placesView access rfl) (endAccess_placesView access rfl)

theorem completeWalkRead_placesView {s : State} {slot : Slot} {live : Bool}
    (access : s.port.access = some (.walkRead slot live)) : (s.completeWalkRead slot live).placesView = s.placesView := by
  have ended := endAccess_placesView access rfl
  unfold completeWalkRead
  split <;> simp [ended]

theorem completeSpliceRead_placesView {s : State} {slot : Slot} (access : s.port.access = some (.spliceRead slot)) :
    (s.completeSpliceRead slot).placesView = s.placesView := by
  have ended := endAccess_placesView access rfl
  unfold completeSpliceRead
  split <;> simp [ended]

theorem completeFormat_placesView {s : State} {slot : Slot} (access : s.port.access = some (.format slot)) :
    (s.completeFormat slot).placesView = s.placesView := by
  have written := completeWrite_placesView { slot := slot, record := formatRecord slot } access rfl
  unfold completeFormat formatDone
  dsimp only
  split
  · exact (requestRefill_placesView _).trans written
  · exact written

/-! ## Seats and configuration (R15 to R17, R41, R44 to R53, R181) -/

theorem takeFader_placesView {effect : State → SeatId → ControlId → State}
    (keeps : ∀ u i c, (effect u i c).editor = u.editor ∧ (effect u i c).store = u.store ∧ (effect u i c).port = u.port)
    (s : State) (p : SurfaceId) (m : SeatMessage) (f : Nat) : (s.takeFader p m f effect).placesView = s.placesView := by
  unfold takeFader
  dsimp only
  split
  · exact placesView_others (by simp)
  · split
    · exact placesView_others (by simp)
    · exact placesView_others (by simp)
    · exact placesView_others (by simp [keeps])

@[simp] theorem configure_placesView (s : State) (c : ControlId) (x : ControlConfig) :
    (s.configure c x).placesView = s.placesView := by
  rw [configure_eq]
  split <;> simp

@[simp] theorem changeSafe_placesView (s : State) (i : StemId) (b : Bool) : (s.changeSafe i b).placesView = s.placesView := by
  unfold changeSafe
  dsimp only
  split <;> simp

@[simp] theorem remapSeat_placesView (s : State) (i : SeatId) (l : Option SurfaceId) (rank : Nat) :
    (s.remapSeat i l rank).placesView = s.placesView := placesView_others (by simp)

end State

end Sys2Proof.Machine
end

section
/-! SUPPORT. Loads, clears, list reads and the editor port's replies (R175 to R188): each reserves, posts or releases its places
as the moves of the view allow. -/

namespace Sys2Proof.Machine

open Sys2Proof.Safety

namespace State

variable {s : State} {n : Nat}

/-! ## Replies (R176, R178, R179) -/

theorem postEditor_held (h : s.placesView.Held n) (m : OutMessage) : (s.postEditor m).placesView.Held (n + 1) := h.posted m

/-- The port hands a command over only while a place is free, and while no clear stalls it (R178). -/
theorem popEditor_held {c : EditorCommand} (h : s.placesView.Held 16) (handed : s.headCommand = some c) :
    s.popEditor.placesView.Held 15 ∧ s.editor.clear = none := by
  unfold headCommand at handed
  split at handed
  · next free =>
    obtain ⟨room, stalled⟩ := free
    have less : s.editor.replies.length < 16 := Nat.lt_of_sub_pos room
    obtain ⟨-, clear⟩ := Bool.or_eq_false_iff.1 stalled
    exact ⟨h.withRoom (Nat.le_of_lt_succ less), Option.isNone_iff_eq_none.1 (by simpa using clear)⟩
  · cases handed

theorem editorSent_held (h : s.placesView.Held n) (t : Transmission) :
    (s.setEditor (s.editor.sent t)).placesView.Held n := by
  have kept : (s.editor.sent t).read = s.editor.read ∧ (s.editor.sent t).clear = s.editor.clear ∧
      ((s.editor.sent t).replies = s.editor.replies ∨ (s.editor.sent t).replies = dropFirstHeld s.editor.replies) := by
    unfold EditorPort.sent
    dsimp only
    repeat' split
    all_goals simp
  obtain ⟨read, clear, stays | leaves⟩ := kept
  · have same : (s.setEditor (s.editor.sent t)).placesView = s.placesView := placesView_congr ⟨stays, read, clear⟩ rfl rfl
    rwa [same]
  · have view : (s.setEditor (s.editor.sent t)).placesView =
        { s.placesView with replies := dropFirstHeld s.placesView.replies } := by
      simp [placesView, leaves, read, clear]
    rw [view]
    exact h.sent

theorem examineEditor_held (h : s.placesView.Held 16) (f : LinkFrame) : (s.examineEditor f).placesView.Held 16 := by
  have refuses (reason : RefusalReason) : (s.refuseEditorReception f.kind reason).placesView.Held 16 := by
    unfold refuseEditorReception
    split
    · next room =>
      have less : s.editor.replies.length < 16 := Nat.lt_of_sub_pos room
      exact postEditor_held (h.withRoom (Nat.le_of_lt_succ less)) _
    · exact h
  unfold examineEditor
  split
  · exact h
  · split
    · exact refuses _
    · split
      · exact refuses _
      · split
        exacts [h, refuses _]

theorem editorPresent_placesView (s : State) : s.editorPresent.placesView = s.placesView := by
  unfold editorPresent editorUp
  split
  · rfl
  · refine placesView_congr ?_ (by simp) (by simp)
    rw [postTransportToEditor_editor]
    split <;> exact ⟨rfl, rfl, rfl⟩

theorem editorSymbols_held (h : s.placesView.Held 16) (symbols : List LineSymbol) :
    (symbols.foldl editorSymbol s).placesView.Held 16 := by
  have frame {u : State} (k : u.placesView.Held 16) (bytes : List Byte) : (u.editorFrame bytes).placesView.Held 16 := by
    unfold editorFrame
    split
    · exact examineEditor_held (u.editorPresent_placesView.symm ▸ k) _
    · exact k
  induction symbols generalizing s with
  | nil => exact h
  | cons y symbols ih =>
    refine ih ?_
    unfold editorSymbol
    split
    · exact h
    · exact h
    · exact h
    · exact frame (u := s.setEditorReceiving none) h _
    · exact h

/-! ## Loads (R120 to R123, R182 to R185) -/

theorem liveReads_loadAborted {t : State} {l : Load} (aborted : LoadAborted s s.port l t) :
    t.port.liveReads = s.port.liveReads := by
  obtain ⟨unfilled, filled⟩ := aborted
  cases first : l.first with
  | none => rw [(unfilled (.inl first)).2]
  | some f =>
    cases tail : l.tail with
    | none => rw [(unfilled (.inr tail)).2]
    | some r =>
      rw [(filled f r first tail).2]
      exact liveReads_posted s.port rfl

/-- A load in flight ends with its outcome in its place (R179, R184, R185). -/
theorem loadEnded_held {v : PlacesView} (h : v.Held n) (loads : v.loads = true) (m : OutMessage) : PlacesView.Held n
    { v with replies := v.replies.erase (.reserved .load) ++ [.held m], loads := false } := by
  refine h.outcome .load m (congrArg Bool.toNat loads) rfl (fun p => ?_) h.live
  cases p <;> rfl

theorem placesView_loads {l : Load} (load : s.store.load = some l) : s.placesView.loads = true := by
  simp [placesView, load]

theorem abortLoad_held (h : s.placesView.Held n) (reason : AbortReason) :
    (s.abortLoad (some reason)).placesView.Held n := by
  cases load : s.store.load with
  | none => rwa [abortLoad_none _ load]
  | some l =>
    obtain ⟨aborted, frame⟩ := abortLoad_spec s l (some reason) load
    have view : (s.abortLoad (some reason)).placesView = { s.placesView with
        replies := s.placesView.replies.erase (.reserved .load) ++ [.held (.aborted kindListBegin reason)]
        loads := false } := by
      have live := liveReads_loadAborted aborted
      have idle := loadAborted_idle aborted
      rw [placesView, live, idle, frame]
      rfl
    rw [view]
    exact loadEnded_held h (placesView_loads load) _

theorem settlePool_held (h : s.placesView.Held n) (before : State) : (s.settlePool before).placesView.Held n := by
  unfold settlePool abortWaitingLoad
  split
  · have settled : s.dropFinalRecords.truncateWaiting.placesView.Held n := by simpa using h
    split
    · exact abortLoad_held settled .pool
    · exact settled
  · exact h

/-- A load that goes on goes on holding its place. -/
theorem setLoad_placesView (loads : s.placesView.loads = true) (l : Load) :
    (s.setLoad (some l)).placesView = s.placesView := by
  have view : (s.setLoad (some l)).placesView = { s.placesView with loads := true } := rfl
  rw [view, ← loads]

theorem linkLoadRecord_placesView (loads : s.placesView.loads = true) (l : Load) (slot : Slot) (r : LoadRecord) :
    (s.linkLoadRecord l slot r).placesView = s.placesView := by
  unfold linkLoadRecord
  dsimp only
  split
  · have posted (w : SlotRecord) : (s.postRequest (.loadWrite w)).placesView = s.placesView := by simp
    exact (setLoad_placesView (congrArg PlacesView.loads (posted _) |>.trans loads) _).trans (posted _)
  · exact setLoad_placesView loads _

theorem serveLoadRecord_placesView (s : State) : s.serveLoadRecord.placesView = s.placesView := by
  unfold serveLoadRecord
  split
  · next load took =>
    have taken := takeSlot_placesView took
    have loads := (congrArg PlacesView.loads taken).trans (placesView_loads load)
    exact placesView_ite ((linkLoadRecord_placesView loads ..).trans taken) rfl
  · rfl

theorem giveLoadRecord_placesView {l : Load} (load : s.store.load = some l) (r : LoadRecord) :
    (s.giveLoadRecord l r).placesView = s.placesView := by
  unfold giveLoadRecord
  split
  · split
    · next took =>
      have taken := takeSlot_placesView took
      have loads := (congrArg PlacesView.loads taken).trans (placesView_loads load)
      exact (linkLoadRecord_placesView loads ..).trans taken
    · rfl
  · rfl

theorem takeListBegin_held (h : s.placesView.Held n) (control : Byte) (count : Nat) :
    (s.takeListBegin control count).placesView.Held (n + 1) := by
  unfold takeListBegin
  split
  · exact postEditor_held h _
  · split
    · exact postEditor_held h _
    · split
      · exact postEditor_held h _
      · next admitted =>
        have idle : s.placesView.loads = false := by
          unfold listRefusal at admitted
          split_ifs at admitted with unready rolls loads
          exact Bool.eq_false_iff.2 loads
        refine h.reserved .load rfl (fun p => ?_) h.live
        cases p with
        | load => exact (congrArg (Bool.toNat · + 1) idle).symm
        | _ => rfl

theorem takeListRecord_held (h : s.placesView.Held n) (r : LoadRecord) :
    (s.takeListRecord r).placesView.Held (n + 1) := by
  unfold takeListRecord
  split
  · exact postEditor_held h _
  · next l load =>
    have given : (s.giveLoadRecord l r).placesView.Held n := (giveLoadRecord_placesView load r).symm ▸ h
    split_ifs
    · exact postEditor_held h _
    · exact postEditor_held h _
    · exact postEditor_held h _
    · exact (abortLoad_held h .order).mono n.le_succ
    · exact (abortLoad_held h .pool).mono n.le_succ
    · exact (settlePool_held given s).mono n.le_succ

theorem takeListEnd_held (h : s.placesView.Held n) : s.takeListEnd.placesView.Held (n + 1) := by
  unfold takeListEnd
  split
  · exact postEditor_held h _
  · next l load =>
    have posted : (s.postLoadTail l).placesView = s.placesView := by
      unfold postLoadTail
      split <;> simp
    have loads := (congrArg PlacesView.loads posted).trans (placesView_loads load)
    split_ifs
    · exact postEditor_held h _
    · exact (abortLoad_held h .count).mono n.le_succ
    · rw [setLoad_placesView loads, posted]
      exact h.mono n.le_succ

theorem loadReplaced_held {l : Load} (h : s.placesView.Held n) (load : s.store.load = some l) :
    ((s.replaceList l).postReserved .load (.done kindListEnd)).placesView.Held n := by
  have returned (d old : Descriptor) : ((s.setList l.control d).returnList old).placesView = s.placesView := by simp
  have replaced : (s.replaceList l).placesView = { s.placesView with loads := false } :=
    congrArg (fun v : PlacesView => { v with loads := false }) (returned _ _)
  have view : ((s.replaceList l).postReserved .load (.done kindListEnd)).placesView =
      { (s.replaceList l).placesView with
        replies := (s.replaceList l).placesView.replies.erase (.reserved .load) ++ [.held (.done kindListEnd)] } := rfl
  rw [view, replaced]
  exact loadEnded_held h (placesView_loads load) _

/-! ## Clears (R188) -/

theorem clearEnded_held {v : PlacesView} (h : v.Held n) (clears : v.clears = true) (m : OutMessage) : PlacesView.Held n
    { v with replies := v.replies.erase (.reserved .clear) ++ [.held m], clears := false } := by
  refine h.outcome .clear m (congrArg Bool.toNat clears) rfl (fun p => ?_) h.live
  cases p <;> rfl

theorem placesView_clears {c : ControlId} (clear : s.editor.clear = some c) : s.placesView.clears = true := by
  simp [placesView, clear]

theorem abandonClear_held (h : s.placesView.Held n) : s.abandonClear.placesView.Held n := by
  cases clear : s.editor.clear with
  | none => rwa [abandonClear_none clear]
  | some c =>
    rw [abandonClear_some (by simp [clear])]
    exact clearEnded_held h (placesView_clears clear) _

theorem cleared_held {c : ControlId} (h : s.placesView.Held n) (clear : s.editor.clear = some c) :
    (s.cleared c).placesView.Held n := by
  have view : (s.cleared c).placesView = { (s.clearStore c).placesView with
      replies := (s.clearStore c).placesView.replies.erase (.reserved .clear) ++ [.held (.done kindClearList)]
      clears := false } := rfl
  rw [view, clearStore_placesView]
  exact clearEnded_held h (placesView_clears clear) _

theorem takeClearList_held (h : s.placesView.Held n) (free : s.editor.clear = none) (control : Byte) :
    (s.takeClearList control).placesView.Held (n + 1) := by
  unfold takeClearList beginClear
  split
  · exact postEditor_held h _
  · split
    · exact postEditor_held h _
    · split_ifs
      · exact postEditor_held (s := s.relocateOne _) h _
      · refine h.reserved .clear rfl (fun p => ?_) h.live
        cases p with
        | clear => simp [PlacesView.inFlight, placesView, free, reservePlace]
        | _ => rfl
      · exact postEditor_held ((clearStore_placesView s _).symm ▸ h) _

/-! ## List reads (R177, R186, R187) -/

theorem liveReads_readsDropped (x : MemoryPort) : (readsDropped x).liveReads = 0 := by
  refine List.countP_eq_zero.2 fun q stands => ?_
  have dropped : ∀ r : MemRequest, (match r with
      | .listRead slot _ => MemRequest.listRead slot false
      | other => other).isLiveRead ≠ true := fun r => by cases r <;> simp [MemRequest.isLiveRead]
  rcases List.mem_append.1 stands with access | posted
  · obtain ⟨r, -, rfl⟩ := Option.map_eq_some_iff.1 (Option.mem_toList.1 access)
    exact dropped r
  · obtain ⟨r, -, rfl⟩ := List.mem_map.1 posted
    exact dropped r

theorem abortRead_held (h : s.placesView.Held n) : s.abortRead.placesView.Held n := by
  cases read : s.editor.read with
  | none => rwa [abortRead_none read]
  | some r =>
    have reads : s.placesView.reads = some r.atPort := by simp [placesView, read]
    have view : s.abortRead.placesView = { s.placesView with
        replies := readAborted s.placesView.replies, reads := none, live := 0 } := by
      rw [abortRead_some (by simp [read]), ← liveReads_readsDropped s.port]
      rfl
    rw [view]
    exact (h.recordReleased reads).readEnded rfl _

theorem leaveStopped_held (h : s.placesView.Held n) : s.leaveStopped.placesView.Held n := by
  have drawn : ({ s with freeDraws := s.freeDraws + 1 } : State).placesView.Held n := h
  unfold leaveStopped abortLoadAndClear
  dsimp only
  split_ifs
  · exact abandonClear_held (abortLoad_held (abortRead_held drawn) _)
  · exact abortRead_held (abandonClear_held (abortLoad_held drawn _))
  · exact abortRead_held (abandonClear_held (abortLoad_held h _))

theorem endRead_held (h : s.placesView.Held n) (reads : s.placesView.reads = some false) (r : ListRead) :
    (s.endRead r).placesView.Held n := h.readEnded reads _

theorem takeReadList_held (h : s.placesView.Held n) (control : Byte) (first last : Frame) :
    (s.takeReadList control first last).placesView.Held (n + 1) := by
  unfold takeReadList
  split
  · exact postEditor_held h _
  · split
    · exact postEditor_held h _
    · next admitted =>
      have idle : s.editor.read = none := by
        unfold readRefusal at admitted
        split_ifs at admitted with unordered rolls reads
        simpa using reads
      have begun (r : ListRead) (away : r.atPort = false) :
          ((s.reservePlace .read).setRead (some r)).placesView.Held (n + 1) := by
        refine h.reserved .read rfl (fun p => ?_) (h.live.trans ?_)
        · cases p with
          | read => simp [PlacesView.inFlight, idle, placesView, setRead]
          | record => simp [PlacesView.inFlight, idle, placesView, setRead, away]
          | _ => rfl
        · simp [PlacesView.inFlight, idle, placesView, setRead, away]
      unfold beginRead
      dsimp only
      split
      · exact endRead_held (begun _ rfl) rfl _
      · exact begun _ rfl

theorem recordRequested_held {r : ListRead} (h : s.placesView.Held n) (reads : s.placesView.reads = some false)
    (slot : Slot) : (s.recordRequested r slot).placesView.Held (n + 1) := by
  have live : s.placesView.live = 0 := h.live.trans (by simp [PlacesView.inFlight, reads])
  obtain ⟨x, read, away⟩ := Option.map_eq_some_iff.1 reads
  have posted : (s.recordRequested r slot).placesView.live = s.placesView.live + 1 := by
    simp [recordRequested, placesView, MemoryPort.liveReads, MemRequest.isLiveRead, Nat.add_assoc]
  refine h.reserved .record rfl (fun p => ?_) (posted.trans (by rw [live]; rfl))
  cases p with
  | read => simp [PlacesView.inFlight, recordRequested, placesView, read]
  | record => simp [PlacesView.inFlight, recordRequested, placesView, read, away]
  | _ => rfl

/-- A record is requested only while a place is free (R187). -/
theorem requestListRead_held {r : ListRead} (h : s.placesView.Held 16) (due : s.readDue = some r) :
    (s.requestListRead r).placesView.Held 16 := by
  unfold readDue at due
  split at due
  · next read =>
    split_ifs at due with ready
    cases due
    obtain ⟨away, -, room, -⟩ := ready
    have reads : s.placesView.reads = some false := by simp [placesView, read, away]
    have less : s.editor.replies.length < 16 := Nat.lt_of_sub_pos room
    have requested := recordRequested_held (r := r) (h.withRoom (Nat.le_of_lt_succ less)) reads
    cases next : r.next with
    | some slot =>
      rw [requestListRead_next next]
      exact requested slot
    | none =>
      by_cases empty : (s.listOf r.control).count = 0
      · rw [requestListRead_empty next empty]
        exact endRead_held h reads r
      · rw [requestListRead_first next empty]
        exact requested _
  · cases due

/-- While a live list read is in progress its list read is at the memory port, and no other is live. -/
theorem placesView_of_liveAccess {slot : Slot} (h : s.placesView.Held n)
    (access : s.port.access = some (.listRead slot true)) :
    s.placesView.reads = some true ∧ s.endAccess.placesView = { s.placesView with live := 0 } := by
  have counted : s.placesView.live = s.endAccess.placesView.live + 1 := by
    have listed : s.port.access.toList ++ s.port.requests = .listRead slot true :: s.port.requests := by rw [access]; rfl
    exact (congrArg (List.countP _) listed).trans (List.countP_cons_of_pos rfl)
  have flies := h.live.symm.trans counted
  have reads : s.placesView.reads = some true := by
    by_contra other
    rw [PlacesView.inFlight, beq_eq_false_iff_ne.2 other] at flies
    exact absurd flies (Nat.succ_ne_zero _).symm
  refine ⟨reads, ?_⟩
  have none_ : s.endAccess.placesView.live = 0 := by simpa [PlacesView.inFlight, reads] using flies.symm
  rw [← none_]
  rfl

theorem streamRecord_held {r : ListRead} {v : PlacesView} (h : v.Held n) (reads : v.reads = some true)
    (view : s.placesView = { v with live := 0 }) (x : SlotRecord) : (s.streamRecord r x).placesView.Held n := by
  have released : PlacesView.Held n { s.placesView with
      replies := s.placesView.replies.erase (.reserved .record), reads := some false } := by
    rw [view]
    exact h.recordReleased reads
  have posted (m : OutMessage) : PlacesView.Held n { s.placesView with
      replies := s.placesView.replies.erase (.reserved .record) ++ [.held m], reads := some false } := by
    rw [view]
    exact h.recordPosted reads m
  unfold streamRecord
  dsimp only
  split_ifs
  · exact released.readEnded rfl _
  · exact (posted _).readEnded rfl _
  · exact released.readEnded rfl _
  · exact posted _
  · exact released

theorem completeListRead_held {slot : Slot} {live : Bool} (h : s.placesView.Held n)
    (access : s.port.access = some (.listRead slot live)) : (s.completeListRead slot live).placesView.Held n := by
  cases live with
  | false =>
    have dropped : s.completeListRead slot false = s.endAccess := rfl
    rw [dropped, endAccess_placesView access rfl]
    exact h
  | true =>
    obtain ⟨reads, view⟩ := placesView_of_liveAccess h access
    obtain ⟨r, read, -⟩ := Option.map_eq_some_iff.1 reads
    simp only [completeListRead, read]
    exact streamRecord_held h reads view _

/-! ## Resets (R1, R177, R192, R193) -/

theorem powerOnReset_placesView (s : State) : s.powerOnReset.placesView = .empty := rfl

theorem editorDown_placesView (s : State) : s.editorDown.placesView = .empty := by
  have idle : (s.abortLoad none).store.load = none := by
    cases load : s.store.load with
    | none => rw [abortLoad_none none load, load]
    | some l => exact loadAborted_idle (abortLoad_spec s l none load).1
  rw [placesView, editorDown_editor, editorDown_store, editorDown_port, idle, liveReads_readsDropped]
  rfl

theorem takeMixReset_held (h : s.placesView.Held n) : s.takeMixReset.placesView.Held (n + 1) := by
  have cleared : s.removeAllTouches.abandonPass.resetRecords.placesView = s.placesView := rfl
  have aborted : (s.removeAllTouches.abandonPass.resetRecords.discardAll.abortLoad (some .reset)).placesView.Held n :=
    abortLoad_held (by rwa [discardAll_placesView, cleared]) .reset
  exact postEditor_held (by rwa [clearFlagSet_placesView, relocateAll_placesView]) _

theorem takeLinkReset_held (h : s.placesView.Held n) (port : Byte) : (s.takeLinkReset port).placesView.Held (n + 1) := by
  unfold takeLinkReset
  split
  · exact postEditor_held (s := s.surfaceDown _) h _
  · split
    · rw [editorDown_placesView]
      exact PlacesView.held_empty _
    · exact postEditor_held h _

end State

end Sys2Proof.Machine
end

section
/-! SUPPORT. Marks, expiries, the takes of commands, and every command's step: the reply places stay held (R175, R178, R187). -/

namespace Sys2Proof.Machine

open Sys2Proof.Safety

namespace State

variable {s : State} {n : Nat}

/-! ## Marks and expiries (R23 to R31) -/

theorem takeStoppedMark_placesView (s : State) (f : Frame) : (s.takeStoppedMark f).placesView = s.placesView := by
  unfold takeStoppedMark
  extract_lets x marked closed relocated
  have closes : closed.placesView = s.placesView := placesView_ite marked.closeAll_placesView rfl
  have relocates : relocated.placesView = s.placesView := placesView_ite closes (closed.relocateAll_placesView.trans closes)
  exact (relocated.postTransportWhen_placesView _).trans relocates

/-- A MOVING mark out of STOPPED ends the load, the clear and the list read in flight (R31, R184, R187, R188). -/
theorem takeMovingMarkParked_held (h : s.placesView.Held n) (f : Frame) : (s.takeMovingMarkParked f).placesView.Held n := by
  unfold takeMovingMarkParked
  extract_lets x run state marked relocated acquired left
  have relocates : relocated.placesView = s.placesView := placesView_ite rfl marked.relocateAll_placesView
  have acquires : acquired.placesView = s.placesView :=
    placesView_ite (relocated.acquire_placesView.trans relocates) relocates
  have leaves : left.placesView.Held n := by
    have held : acquired.placesView.Held n := acquires.symm ▸ h
    unfold left
    split
    exacts [leaveStopped_held held, held]
  rwa [postTransportWhen_placesView, frameEvent_placesView]

theorem takeMovingMarkRolling_placesView (s : State) (f : Frame) : (s.takeMovingMarkRolling f).placesView = s.placesView := by
  unfold takeMovingMarkRolling
  extract_lets x goesOn jumped
  split
  · rw [postTransportWhen_placesView, frameEvent_placesView]
    rfl
  · rw [postTransport_placesView, frameEvent_placesView, relocateAll_placesView, closeAll_placesView]
    rfl

theorem takeMark_held (h : s.placesView.Held n) (f : Frame) (m : Motion) : (s.takeMark f m).placesView.Held n := by
  unfold takeMark
  split
  · rwa [takeStoppedMark_placesView]
  · split
    · rwa [takeMovingMarkRolling_placesView]
    · exact takeMovingMarkParked_held h f

theorem stopByTimer_placesView (s : State) (lockLost : Bool) : (s.stopByTimer lockLost).placesView = s.placesView := by
  unfold stopByTimer
  extract_lets x stopped told
  have tells : told.placesView = s.placesView := placesView_ite stopped.raiseLockLost_placesView rfl
  rwa [postTransport_placesView, frameEvent_placesView, closeAll_placesView]

theorem freewheelTo_placesView (s : State) (count : Nat) : (s.freewheelTo count).placesView = s.placesView := by
  simp [freewheelTo]

theorem takeExpiry_placesView (s : State) : s.takeExpiry.placesView = s.placesView := by
  unfold takeExpiry
  dsimp only
  split
  · exact frameEvent_placesView ..
  · rw [postTransport_placesView, frameEvent_placesView, setTracker_placesView]
  · split_ifs
    exacts [stopByTimer_placesView .., stopByTimer_placesView .., freewheelTo_placesView ..]
  · split_ifs
    exacts [stopByTimer_placesView .., freewheelTo_placesView ..]

/-! ## The takes of SET commands (R180, R181) -/

theorem takeSetControl_held (h : s.placesView.Held n) (f : SetControlFields) :
    (s.takeSetControl f).placesView.Held (n + 1) := by
  unfold takeSetControl
  split
  · exact postEditor_held h _
  · exact postEditor_held (settlePool_held (by rwa [configure_placesView]) s) _
  · exact h.mono n.le_succ

theorem takeSetStem_held (h : s.placesView.Held n) (stem safe : Byte) : (s.takeSetStem stem safe).placesView.Held (n + 1) := by
  unfold takeSetStem
  split
  · split
    · exact postEditor_held (settlePool_held (by rwa [changeSafe_placesView]) s) _
    · exact postEditor_held h _
  · exact postEditor_held h _

theorem takeSetSeat_held (h : s.placesView.Held n) (seat link rank : Byte) :
    (s.takeSetSeat seat link rank).placesView.Held (n + 1) := by
  unfold takeSetSeat
  split
  · split_ifs
    · exact postEditor_held h _
    · exact postEditor_held h _
    · exact postEditor_held (by rwa [remapSeat_placesView]) _
  · exact postEditor_held h _

theorem takeSetHub_held (h : s.placesView.Held n) (rate acquire limit : Byte) (stale : Nat) :
    (s.takeSetHub rate acquire limit stale).placesView.Held (n + 1) := by
  unfold takeSetHub
  split <;> exact postEditor_held h _

end State

/-! ## Every step -/

/-- The outcome goes on to a state whose reply places are held. -/
def GoesOnHeld (o : Host.Outcome State Fault Refusal) : Prop := ∃ t, o = .next t ∧ t.placesView.Held 16

theorem goesOnHeld_next {t : State} (h : t.placesView.Held 16) : GoesOnHeld (.next t) := ⟨t, rfl, h⟩

/-- Each command keeps the reply places held. A command of the editor port is handed over with a place free (R178). -/
theorem exec_goesOnHeld {s : State} (h : s.placesView.Held 16) (c : Instr) : GoesOnHeld (exec c s) := by
  have keeps {u : State} (same : u.placesView = s.placesView) : GoesOnHeld (.next u) := goesOnHeld_next (same.symm ▸ h)
  have stays : GoesOnHeld (.next s) := keeps rfl
  have answers {u : State} (k : u.placesView.Held 16) : GoesOnHeld (.next u.transmitEditor) :=
    goesOnHeld_next (u.transmitEditor_placesView.symm ▸ k)
  have sends {u : State} (k : u.placesView.Held 16) : GoesOnHeld (.next u.transmitAll) :=
    goesOnHeld_next (u.transmitAll_placesView.symm ▸ k)
  have settles {u : State} (same : u.placesView = s.placesView) : GoesOnHeld (.next (u.settlePool s).transmitAll) :=
    sends (State.settlePool_held (same.symm ▸ h) s)
  have popped {command : EditorCommand} (handed : s.headCommand = some command) : s.popEditor.placesView.Held 15 :=
    (State.popEditor_held h handed).1
  cases c with
  | powerOnReset => exact goesOnHeld_next (s.powerOnReset_placesView.symm ▸ PlacesView.held_empty 16)
  | frameMark lineOk f m =>
    refine goesOnHeld_next ?_
    split
    · rw [State.transmitAll_placesView]
      exact State.settlePool_held (State.takeMark_held h _ m) s
    · exact h
  | frameTimerExpiry => exact settles s.atExpiry.takeExpiry_placesView
  | controlEvaluation =>
    simp only [exec, execControlEvaluation]
    split
    exacts [settles (s.evaluate_placesView ..), stays]
  | evaluationResume =>
    simp only [exec, execEvaluationResume]
    split
    exacts [settles (s.resume_placesView _), stays]
  | deferredClosingWork => exact settles s.serveOldestClosing_placesView
  | memoryGrant =>
    simp only [exec, execMemoryGrant]
    split
    · next idle chosen => exact keeps (State.beginAccess_placesView idle (chooseRequest_mem chosen))
    · exact stays
  | appendWriteComplete | chainReturnWriteComplete | loadWriteComplete =>
    simp only [exec, execAppendWriteComplete, execChainReturnWriteComplete, execLoadWriteComplete]
    split
    · next access => exact keeps (State.completeWrite_placesView _ access rfl)
    · exact stays
  | closingWriteComplete =>
    simp only [exec, execClosingWriteComplete]
    split
    · next access =>
      exact keeps ((State.closingDone_placesView ..).trans (State.completeWrite_placesView _ access rfl))
    · next access => exact keeps (State.completeWrite_placesView _ access rfl)
    · exact stays
  | refillReadComplete =>
    simp only [exec, execRefillReadComplete]
    split
    · next access => exact keeps (State.completeRefill_placesView access)
    · exact stays
  | fetchComplete =>
    simp only [exec, execFetchComplete]
    split
    · next access => exact keeps (State.completeFetch_placesView access)
    · exact stays
  | walkStart =>
    simp only [exec, execWalkStart]
    split
    exacts [keeps (s.startWalk_placesView _), stays]
  | walkReadComplete =>
    simp only [exec, execWalkReadComplete]
    split
    · next access => exact keeps (State.completeWalkRead_placesView access)
    · exact stays
  | spliceStart =>
    simp only [exec, execSpliceStart]
    split
    exacts [keeps (s.startSplice_placesView _), stays]
  | spliceWalkReadComplete =>
    simp only [exec, execSpliceWalkReadComplete]
    split
    · next access => exact keeps (State.completeSpliceRead_placesView access)
    · exact stays
  | spliceWriteComplete =>
    simp only [exec, execSpliceWriteComplete]
    split
    · next access =>
      exact keeps ((State.spliceWritten_placesView _).trans (State.completeWrite_placesView _ access rfl))
    · exact stays
  | formatWriteComplete =>
    simp only [exec, execFormatWriteComplete]
    split
    · next access => exact keeps (State.completeFormat_placesView access)
    · exact stays
  | loadReplacement =>
    simp only [exec, execLoadReplacement]
    split
    · next l due =>
      have load : s.store.load = some l := by
        unfold State.replacementDue at due
        split at due
        · next load =>
          split_ifs at due
          cases due
          exact load
        · cases due
      exact answers (State.loadReplaced_held h load)
    · exact stays
  | loadRecordSlot => exact settles s.serveLoadRecord_placesView
  | clearListEvent =>
    simp only [exec, execClearListEvent]
    split
    · next c due =>
      have clear : s.editor.clear = some c := by
        unfold State.clearDue at due
        split at due
        · next clear =>
          split_ifs at due
          cases due
          exact clear
        · cases due
      exact answers (State.cleared_held h clear)
    · exact stays
  | listReadRequest =>
    simp only [exec, execListReadRequest]
    split
    · next due => exact answers (State.requestListRead_held h due)
    · exact stays
  | listReadComplete =>
    simp only [exec, execListReadComplete]
    split
    · next access => exact answers (State.completeListRead_held h access)
    · exact stays
  | blockStart | blockEnd | engineRead => exact keeps (State.placesView_others (by simp))
  | surfaceFrameReceived p symbols => exact keeps (State.placesView_others (by simp))
  | silenceExpiry =>
    simp only [exec, execSilenceExpiry]
    split
    · exact keeps ((State.transmitEditor_placesView _).trans ((State.raiseLinkDown_placesView ..).trans rfl))
    · exact stays
  | farHoldChange port =>
    cases port with
    | surface p => exact keeps rfl
    | editor => exact answers h
  | surfaceFrameSent =>
    simp only [exec, execSurfaceFrameSent]
    split
    exacts [keeps rfl, stays]
  | touch =>
    simp only [exec, execTouch]
    split
    · exact keeps ((State.transmitAll_placesView _).trans <| State.takeFader_placesView (fun _ _ _ => by simp) ..)
    · exact stays
  | move | release | mode | query =>
    simp only [exec, execMove, execRelease, execMode, execQuery]
    split
    · exact keeps ((State.transmitAt_placesView ..).trans <| State.takeFader_placesView (fun _ _ _ => by simp) ..)
    · exact stays
  | bank | hello =>
    simp only [exec, execBank, execHello]
    split
    exacts [keeps (State.placesView_others (by simp)), stays]
  | editorFrameReceived symbols => exact answers (State.editorSymbols_held h symbols)
  | editorSilenceExpiry =>
    simp only [exec, execEditorSilenceExpiry]
    split
    · exact goesOnHeld_next ((State.editorDown_placesView _).symm ▸ PlacesView.held_empty 16)
    · exact stays
  | editorFrameSent =>
    simp only [exec, execEditorFrameSent]
    split
    exacts [answers (State.editorSent_held h _), stays]
  | setControl =>
    simp only [exec, execSetControl]
    split
    · next handed => exact sends (State.takeSetControl_held (popped handed) _)
    · exact stays
  | setStem =>
    simp only [exec, execSetStem]
    split
    · next handed => exact sends (State.takeSetStem_held (popped handed) ..)
    · exact stays
  | setSeat =>
    simp only [exec, execSetSeat]
    split
    · next handed => exact sends (State.takeSetSeat_held (popped handed) ..)
    · exact stays
  | setHub =>
    simp only [exec, execSetHub]
    split
    · next handed => exact answers (State.takeSetHub_held (popped handed) ..)
    · exact stays
  | listBegin =>
    simp only [exec, execListBegin]
    split
    · next handed => exact answers (State.takeListBegin_held (popped handed) ..)
    · exact stays
  | listRecord =>
    simp only [exec, execListRecord]
    split
    · next handed => exact sends (State.takeListRecord_held (popped handed) _)
    · exact stays
  | listEnd =>
    simp only [exec, execListEnd]
    split
    · next handed => exact answers (State.takeListEnd_held (popped handed))
    · exact stays
  | readList =>
    simp only [exec, execReadList]
    split
    · next handed => exact answers (State.takeReadList_held (popped handed) ..)
    · exact stays
  | clearList =>
    simp only [exec, execClearList]
    split
    · next handed => exact answers (State.takeClearList_held (popped handed) (State.popEditor_held h handed).2 _)
    · exact stays
  | status =>
    simp only [exec, execStatus]
    split
    · next handed => exact answers (State.postEditor_held (popped handed) _)
    · exact stays
  | clearFlags =>
    simp only [exec, execClearFlags]
    split
    · next handed => exact answers (State.postEditor_held (s := s.popEditor.clearFlagSet _) (popped handed) _)
    · exact stays
  | mixReset =>
    simp only [exec, execMixReset]
    split
    · next handed => exact answers (State.takeMixReset_held (popped handed))
    · exact stays
  | linkReset =>
    simp only [exec, execLinkReset]
    split
    · next handed => exact answers (State.takeLinkReset_held (popped handed) _)
    · exact stays

/-- Settles O57: the invariant is the view's, and every command keeps the view's; a tick changes no view. -/
theorem stepKeepsReplyPlaces : Obligations.StepKeepsReplyPlaces := by
  intro s t places stepped
  have held := s.placesView_held_iff.2 places
  have goesOn : GoesOnHeld (step s) := by
    unfold step
    split
    · exact goesOnHeld_next held
    · next rest _ => exact exec_goesOnHeld (s := { s with pending := rest }) held _
  obtain ⟨u, next, after⟩ := goesOn
  rw [stepped] at next
  cases next
  exact t.placesView_held_iff.1 after

end Sys2Proof.Machine
end

section
/-! SUPPORT. STATUS and CLEAR FLAGS (R189, R190, R194, R197): the bits of the link states, and the flags that stay. -/

namespace Sys2Proof.Machine

open Sys2Proof.Safety

namespace State

/-- A bit of the link states is set by the one port that stands there (R197). -/
theorem linkSet_getLsbD (s : State) {j : Nat} (inByte : j < 8) : s.linkSet.getLsbD j =
    ((s.surfaceOf 0).link == .up && decide (0 = j) || (s.surfaceOf 1).link == .up && decide (1 = j) ||
      (s.surfaceOf 2).link == .up && decide (2 = j) || (s.surfaceOf 3).link == .up && decide (3 = j) ||
      s.editor.link == .up && decide (4 = j)) := by
  simp only [linkSet, BitVec.getLsbD_or, bitByte_getLsbD _ _ inByte]

theorem linkSet_surface (s : State) (p : SurfaceId) : s.linkSet.getLsbD p.val = ((s.surfaceOf p).link == .up) := by
  rw [linkSet_getLsbD s (by omega)]
  fin_cases p <;> simp

theorem linkSet_editor (s : State) : s.linkSet.getLsbD 4 = (s.editor.link == .up) := by
  rw [linkSet_getLsbD s (by decide)]
  simp

theorem flagSet_hub (s : State) : s.flagSet.getLsbD 0 = s.tracker.lockLost ∧
    s.flagSet.getLsbD 1 = s.tracker.passOverrun ∧ s.flagSet.getLsbD 2 = s.store.poolLow := by
  refine ⟨?_, ?_, ?_⟩ <;> rw [flagSet_getLsbD s (by decide)] <;> simp

/-- A flag that a set names is cleared, and any other stays (R190). -/
theorem clearFlagSet_eq (s : State) (set : Byte) : s.clearFlagSet set = { s with
    tracker := { s.tracker with
      lockLost := if set.getLsbD 0 then false else s.tracker.lockLost
      passOverrun := if set.getLsbD 1 then false else s.tracker.passOverrun }
    store := { s.store with poolLow := if set.getLsbD 2 then false else s.store.poolLow }
    surface := tbuild (fun p => { s.surfaceOf p with
      linkDown := if set.getLsbD (3 + p.val) then false else (s.surfaceOf p).linkDown }) } := by
  have flag (b named : Bool) : (b && !named) = if named then false else b := by cases named <;> simp
  simp only [clearFlagSet, flag]

theorem status_goesOn {s : State} (handed : HandedToPart s .status) :
    GoesOnTo (exec .status s) (s.popEditor.postEditor (.status s.popEditor.statusReport)) := by
  simp only [exec, execStatus, headCommand_of_handed handed]
  exact goesOn_transmitEditor _

theorem clearFlags_goesOn {s : State} {set : Byte} (handed : HandedToPart s (.clearFlags set)) :
    GoesOnTo (exec .clearFlags s) ((s.popEditor.clearFlagSet set).postDone kindClearFlags) := by
  simp only [exec, execClearFlags, headCommand_of_handed handed]
  exact goesOn_transmitEditor _

end State

/-- Settles O47: the report is the model's own, each of its bits the flag or the link that it stands for; and the clearing is
flag by flag. -/
theorem statusAndClearFlagsTaken : Obligations.StatusAndClearFlagsTaken := by
  refine ⟨fun s handed => ?status, fun s set handed => ?clears⟩
  case status =>
    obtain ⟨lockLost, passOverrun, poolLow⟩ := s.flagSet_hub
    exact ⟨s.statusReport, rfl, rfl, beq_iff_eq, rfl, rfl, rfl, s.linkSet_surface, s.linkSet_editor,
      ⟨lockLost, passOverrun, poolLow, s.flagSet_linkDown⟩, State.status_goesOn handed⟩
  case clears =>
    have goesOn := State.clearFlags_goesOn handed
    rw [State.clearFlagSet_eq] at goesOn
    exact goesOn

end Sys2Proof.Machine
end

section
/-! SUPPORT. LINK RESET (R159, R177, R193): the ways into DOWN, taken from the editor port. -/

namespace Sys2Proof.Machine

open Sys2Proof.Safety

namespace State

theorem linkReset_goesOn {s : State} {port : Byte} (handed : HandedToPart s (.linkReset port)) :
    GoesOnTo (exec .linkReset s) (s.popEditor.takeLinkReset port) := by
  simp only [exec, execLinkReset, headCommand_of_handed handed]
  exact goesOn_transmitEditor _

/-- A surface port is reset (R159, R193). -/
theorem takeLinkReset_surface (s : State) {port : Byte} {p : SurfaceId} (named : port.toNat = p.val) :
    s.takeLinkReset port = (s.surfaceDown p).postDone kindLinkReset := by
  have isPort : port.toNat < 4 := named ▸ p.isLt
  have same : (⟨port.toNat, isPort⟩ : SurfaceId) = p := Fin.ext named
  rw [takeLinkReset, dif_pos isPort, same]

/-- The editor port resets itself, with no reply (R177, R193). -/
theorem takeLinkReset_editor (s : State) {port : Byte} (named : port.toNat = 4) : s.takeLinkReset port = s.editorDown := by
  have isEditor : port = 4#8 := BitVec.eq_of_toNat_eq named
  rw [takeLinkReset, dif_neg (by omega), if_pos isEditor]

theorem takeLinkReset_refused (s : State) {port : Byte} (unnamed : 4 < port.toNat) :
    s.takeLinkReset port = s.refuseEditor .badValue kindLinkReset none := by
  have other : port ≠ 4#8 := fun isEditor => absurd (congrArg BitVec.toNat isEditor) (Nat.ne_of_gt unnamed)
  rw [takeLinkReset, dif_neg (by omega), if_neg other]

/-- The way into DOWN of a surface port reaches the Touch Arbiter and the surface ports only. -/
theorem surfaceDown_eq (s : State) (p : SurfaceId) : s.surfaceDown p =
    { s with arbiter := (s.isolatePort p).arbiter, surface := (s.surfaceDown p).surface } := rfl

end State

/-- Settles O49: the surface ports, the editor port, and the numbers that name no port. -/
theorem linkResetTaken : Obligations.LinkResetTaken := by
  intro s port handed
  have goesOn := State.linkReset_goesOn handed
  refine ⟨fun p named => ?surface, fun named => ?editor, fun unnamed => ?refused⟩
  case surface =>
    rw [State.takeLinkReset_surface _ named] at goesOn
    have ports (q : SurfaceId) : ((s.popEditor.surfaceDown p).postDone kindLinkReset).surfaceOf q =
        if p = q then (s.surfaceOf q).wentDown else s.surfaceOf q := s.popEditor.surfaceDown_surfaceOf p q
    have here := (ports p).trans (if_pos rfl)
    refine ⟨_, goesOn, ?_⟩
    rw [here]
    exact ⟨(s.surfaceOf p).wentDown_empty, rfl, rfl, rfl, rfl, rfl, fun q other => (ports q).trans (if_neg other.symm),
      s.isolatePort_touchOf p, s.isolatePort_seatOf p, fun _ => rfl, rfl, rfl⟩
  case editor =>
    rw [State.takeLinkReset_editor _ named] at goesOn
    refine ⟨_, goesOn, s.popEditor.editorDown_editor, fun l load => ?_, fun idle => ?_, ?_⟩
    · exact State.loadAborted_congr (State.editorDown_aborts (s := s.popEditor) load) rfl
    · rw [State.editorDown_store, State.editorDown_port, State.abortLoad_none (s := s.popEditor) none idle]
      exact ⟨rfl, rfl⟩
    · exact s.popEditor.editorDown_eq
  case refused =>
    rw [State.takeLinkReset_refused _ unnamed] at goesOn
    exact goesOn

end Sys2Proof.Machine
end

section
/-! SUPPORT. Reception at the editor port (R176, R177, R195): what a run of symbols leaves, and what becomes of a valid frame,
each as the editor port it leaves. -/

namespace Sys2Proof.Machine

open Sys2Proof.Safety

/-! ## The commands of the editor port (R176, R197) -/

/-- The kinds that carry a command (R197). -/
def editorKinds : List Byte :=
  [kindSetControl, kindSetStem, kindSetSeat, kindSetHub, kindListBegin, kindListRecord, kindListEnd, kindReadList,
    kindClearList, kindStatus, kindClearFlags, kindMixReset, kindLinkReset]

theorem kindIdle_notMem_editorKinds : kindIdle ∉ editorKinds := by decide

/-- A payload of the length of its kind carries a command (R197). -/
theorem editorCommand_of_length {kind : Byte} {payload : List Byte} (takes : kind ∈ editorKinds)
    (known : editorLength kind = none ∨ editorLength kind = some payload.length) :
    ∃ c, editorCommand kind payload = some c := by
  simp only [editorKinds, List.mem_cons, List.not_mem_nil, or_false] at takes
  rcases takes with rfl | rfl | rfl | rfl | rfl | rfl | rfl | rfl | rfl | rfl | rfl | rfl | rfl
  all_goals
    obtain unknown | length := known
    · cases unknown
    have length := Option.some.inj length.symm
  · match payload, length with | [_, _, _, _, _, _, _], _ => exact ⟨_, rfl⟩
  · match payload, length with | [_, _], _ => exact ⟨_, rfl⟩
  · match payload, length with | [_, _, _], _ => exact ⟨_, rfl⟩
  · match payload, length with | [_, _, _, _, _], _ => exact ⟨_, rfl⟩
  · match payload, length with | [_, _, _], _ => exact ⟨_, rfl⟩
  · match payload, length with | [_, _, _, _, _, _], _ => exact ⟨_, rfl⟩
  · match payload, length with | [], _ => exact ⟨_, rfl⟩
  · match payload, length with | [_, _, _, _, _, _, _], _ => exact ⟨_, rfl⟩
  · match payload, length with | [_], _ => exact ⟨_, rfl⟩
  · match payload, length with | [], _ => exact ⟨_, rfl⟩
  · match payload, length with | [_], _ => exact ⟨_, rfl⟩
  · match payload, length with | [], _ => exact ⟨_, rfl⟩
  · match payload, length with | [_], _ => exact ⟨_, rfl⟩

/-- Whatever carries a command is of one of the thirteen kinds. -/
theorem editorCommand_eq_none {kind : Byte} (payload : List Byte) (other : kind ∉ editorKinds) :
    editorCommand kind payload = none := by
  simp only [editorKinds, List.mem_cons, List.not_mem_nil, or_false, not_or] at other
  unfold editorCommand
  split <;> simp [other]

namespace State

/-- The flag set is empty just when no flag is set (R177, R194). -/
theorem flagSet_ne_zero_iff (s : State) : s.flagSet ≠ 0#8 ↔ s.anyFlag = true := by
  rw [Ne, not_iff_comm, Bool.not_eq_true]
  constructor
  · intro unset
    simp only [anyFlag, Bool.or_eq_false_iff, List.any_eq_false] at unset
    obtain ⟨⟨⟨lockLost, passOverrun⟩, poolLow⟩, links⟩ := unset
    have linkDown (p : SurfaceId) : (s.surfaceOf p).linkDown = false := Bool.eq_false_iff.2 (links p (List.mem_finRange p))
    simp [flagSet, lockLost, passOverrun, poolLow, linkDown, bitByte]
  · intro empty
    obtain ⟨lockLost, passOverrun, poolLow⟩ := s.flagSet_hub
    have linkDown (p : SurfaceId) : (s.surfaceOf p).linkDown = false := by simp [← flagSet_linkDown, empty]
    simp [anyFlag, ← lockLost, ← passOverrun, ← poolLow, empty, linkDown]

/-! ## A far end that speaks (R176, R177) -/

/-- The editor port once a valid frame has spoken for its far end. -/
def presentEditor (s : State) : EditorPort :=
  if s.editor.link = .up then { s.editor with silenceTimer := some (s.now + Config.silenceUnits) }
  else { s.editor with
    link := .up
    silenceTimer := some (s.now + Config.silenceUnits)
    flagNotice := if s.anyFlag then some false else s.editor.flagNotice
    transportNotice := some s.transportNotice }

theorem editorPresent_eq (s : State) : s.editorPresent = s.setEditor s.presentEditor := by
  unfold editorPresent presentEditor
  split <;> rfl

theorem presentEditor_frame (s : State) : s.presentEditor.inbound = s.editor.inbound ∧
    s.presentEditor.holdOut = s.editor.holdOut ∧ s.presentEditor.replies = s.editor.replies := by
  unfold presentEditor
  split <;> exact ⟨rfl, rfl, rfl⟩

/-! ## The examination of a valid frame (R176) -/

/-- A port that refuses a frame at reception, if its reply queue has a place (R176). -/
def refusingEditor (x : EditorPort) (kind : Byte) (reason : RefusalReason) : EditorPort :=
  { x with replies := x.replies ++ (if x.replies.length < 16 then [.held (.refused reason kind none)] else []) }

variable {s : State} {f : LinkFrame}

theorem refuseEditorReception_eq (s : State) (kind : Byte) (reason : RefusalReason) :
    s.refuseEditorReception kind reason = s.setEditor (refusingEditor s.editor kind reason) := by
  have room : 1 ≤ s.editor.room ↔ s.editor.replies.length < 16 := Nat.sub_pos_iff_lt
  unfold refuseEditorReception refusingEditor
  by_cases free : s.editor.replies.length < 16
  · rw [if_pos (room.2 free), if_pos free]
    rfl
  · rw [if_neg (mt room.1 free), if_neg free, List.append_nil]
    rfl

/-- A refusing port, by the reply queue it has had. -/
theorem refusingEditor_eq {x y : EditorPort} (kind : Byte) (reason : RefusalReason) (kept : y.replies = x.replies) :
    refusingEditor y kind reason = { y with replies := x.replies ++
      (if x.replies.length < 16 then [.held (.refused reason kind none)] else []) } :=
  kept ▸ rfl

/-- An admitting port, by the inbound queue and the hold it has had (R162, R176). -/
theorem acceptEditor_eq {x y : EditorPort} (c : EditorCommand) (inbound : y.inbound = x.inbound)
    (hold : y.holdOut = x.holdOut) : y.accept c = { y with
      inbound := x.inbound ++ [c], holdOut := if 24 ≤ x.inbound.length + 1 then true else x.holdOut } := by
  by_cases raised : 24 ≤ x.inbound.length + 1 <;> simp [EditorPort.accept, inbound, hold, raised]

/-- What becomes of a valid frame, by the order of R176. -/
theorem examineEditor_outcomes (s : State)
    (known : editorLength f.kind = none ∨ editorLength f.kind = some f.payload.length) :
    (f.kind = kindIdle → s.examineEditor f = s) ∧
    (f.kind ≠ kindIdle → f.seat ≠ 0 → s.examineEditor f = s.setEditor (refusingEditor s.editor f.kind .notMapped)) ∧
    (f.kind ≠ kindIdle → f.seat = 0 → f.kind ∉ editorKinds →
      s.examineEditor f = s.setEditor (refusingEditor s.editor f.kind .badValue)) ∧
    (f.seat = 0 → f.kind ∈ editorKinds → 32 ≤ s.editor.inbound.length →
      s.examineEditor f = s.setEditor (refusingEditor s.editor f.kind .full)) ∧
    (f.seat = 0 → f.kind ∈ editorKinds → s.editor.inbound.length < 32 →
      ∃ c, editorCommand f.kind f.payload = some c ∧ s.examineEditor f = s.setEditor (s.editor.accept c)) := by
  have notIdle (takes : f.kind ∈ editorKinds) : f.kind ≠ kindIdle := fun idle =>
    kindIdle_notMem_editorKinds (idle ▸ takes)
  have own (other : f.kind ≠ kindIdle) (seat : f.seat = 0) : s.examineEditor f =
      match editorCommand f.kind f.payload with
      | none => s.refuseEditorReception f.kind .badValue
      | some c =>
        if s.editor.inbound.length < 32 then s.setEditor (s.editor.accept c)
        else s.refuseEditorReception f.kind .full :=
    (if_neg other).trans (if_neg (not_not.2 seat))
  simp only [← refuseEditorReception_eq]
  refine ⟨fun idle => if_pos idle, fun other seat => ?notMapped, fun other seat kind => ?badValue,
    fun seat takes full => ?full, fun seat takes room => ?admitted⟩
  case notMapped => rw [examineEditor, if_neg other, if_pos seat]
  case badValue => rw [own other seat, editorCommand_eq_none f.payload kind]
  case full =>
    obtain ⟨c, carries⟩ := editorCommand_of_length takes known
    rw [own (notIdle takes) seat, carries]
    exact if_neg (not_lt.2 full)
  case admitted =>
    obtain ⟨c, carries⟩ := editorCommand_of_length takes known
    refine ⟨c, carries, ?_⟩
    rw [own (notIdle takes) seat, carries]
    exact if_pos room

/-! ## Symbols (R195) -/

theorem setEditorReceiving_setEditorReceiving (s : State) (x y : Option (List Byte)) :
    (s.setEditorReceiving x).setEditorReceiving y = s.setEditorReceiving y := rfl

theorem setEditorReceiving_self {x : Option (List Byte)} (receives : s.editor.receiving = x) :
    s.setEditorReceiving x = s := by
  subst receives
  rfl

theorem editorSymbol_startOfFrame (s : State) : s.editorSymbol .startOfFrame = s.setEditorReceiving (some []) := by
  simp [editorSymbol]

/-- Bytes go on from those received before. -/
theorem editorSymbols_data {held : List Byte} (bytes : List Byte) (receives : s.editor.receiving = some held) :
    (bytes.map LineSymbol.data).foldl editorSymbol s = s.setEditorReceiving (some (held ++ bytes)) := by
  induction bytes generalizing s held with
  | nil => simp [setEditorReceiving_self receives]
  | cons b bytes ih =>
    have first : s.editorSymbol (.data b) = s.setEditorReceiving (some (held ++ [b])) := by
      simp [editorSymbol, receives]
    rw [List.map_cons, List.foldl_cons, first, ih rfl, setEditorReceiving_setEditorReceiving, List.append_assoc]
    rfl

/-- With no frame in progress, all symbols before a start of frame are discarded. -/
theorem editorSymbols_idle {symbols : List LineSymbol} (idle : s.editor.receiving = none)
    (noStart : ∀ y ∈ symbols, y ≠ .startOfFrame) : symbols.foldl editorSymbol s = s := by
  induction symbols with
  | nil => rfl
  | cons y symbols ih =>
    have first : s.editorSymbol y = s := by
      cases y with
      | startOfFrame => exact absurd rfl (noStart _ List.mem_cons_self)
      | data b => simp [editorSymbol, idle]
      | endOfFrame => simp [editorSymbol, idle]
    rw [List.foldl_cons, first]
    exact ih fun z later => noStart z (List.mem_cons_of_mem y later)

/-- Symbols with no end of frame among them change nothing but the frame being received. -/
theorem editorSymbols_partial {symbols : List LineSymbol} (noEnd : ∀ y ∈ symbols, y ≠ .endOfFrame) :
    ∃ x, symbols.foldl editorSymbol s = s.setEditorReceiving x := by
  induction symbols generalizing s with
  | nil => exact ⟨_, (setEditorReceiving_self rfl).symm⟩
  | cons y symbols ih =>
    have first : ∃ x, s.editorSymbol y = s.setEditorReceiving x := by
      cases y with
      | startOfFrame => exact ⟨_, s.editorSymbol_startOfFrame⟩
      | data b =>
        cases receives : s.editor.receiving with
        | none => exact ⟨none, by simp [editorSymbol, receives, setEditorReceiving_self receives]⟩
        | some held => exact ⟨some (held ++ [b]), by simp [editorSymbol, receives]⟩
      | endOfFrame => exact absurd rfl (noEnd _ List.mem_cons_self)
    obtain ⟨x, first⟩ := first
    obtain ⟨y, rest⟩ := ih (s := s.setEditorReceiving x) fun z later => noEnd z (List.mem_cons_of_mem _ later)
    exact ⟨y, by rw [List.foldl_cons, first, rest, setEditorReceiving_setEditorReceiving]⟩

/-- The end of a frame whose bytes go on from those received before. -/
theorem editorSymbols_ends {held : List Byte} (bytes : List Byte) (receives : s.editor.receiving = some held) :
    (bytes.map LineSymbol.data ++ [LineSymbol.endOfFrame]).foldl editorSymbol s =
      (s.setEditorReceiving none).editorFrame (held ++ bytes) := by
  rw [List.foldl_append, editorSymbols_data bytes receives]
  rfl

/-- A whole frame, from its start to its end. -/
theorem editorSymbols_frame_whole (s : State) (bytes : List Byte) :
    (LineSymbol.startOfFrame :: (bytes.map LineSymbol.data ++ [LineSymbol.endOfFrame])).foldl editorSymbol s =
      (s.setEditorReceiving none).editorFrame bytes := by
  rw [List.foldl_cons, editorSymbol_startOfFrame, editorSymbols_ends (held := []) bytes rfl,
    setEditorReceiving_setEditorReceiving, List.nil_append]

/-- A valid frame is examined at the port that it has spoken for (R176, R177). -/
theorem editorFrame_valid {bytes : List Byte} (valid : parseFrame editorLength bytes = some f) :
    s.editorFrame bytes = (s.setEditor s.presentEditor).examineEditor f := by
  simp only [editorFrame, valid, editorPresent_eq]

theorem editorFrame_invalid {bytes : List Byte} (invalid : parseFrame editorLength bytes = none) :
    s.editorFrame bytes = s := by
  simp only [editorFrame, invalid]

end State

theorem exec_editorFrameReceived (s : State) (symbols : List LineSymbol) :
    exec (.editorFrameReceived symbols) s = .next (symbols.foldl State.editorSymbol s).transmitEditor := rfl

/-- What the symbols leave, the arbiter may send from. -/
theorem goesOn_editorSymbols {s u : State} {symbols : List LineSymbol} (left : symbols.foldl State.editorSymbol s = u) :
    GoesOnTo (exec (.editorFrameReceived symbols) s) u := by
  rw [exec_editorFrameReceived, left]
  exact goesOn_transmitEditor u

/-- The port that a valid frame has spoken for, with the frame received. -/
theorem presentEditor_received (s : State) : (s.setEditorReceiving none).presentEditor =
    if s.editor.link = .up then { s.editor with receiving := none, silenceTimer := some (s.now + 120) }
    else { s.editor with
      receiving := none, link := .up, silenceTimer := some (s.now + 120)
      flagNotice := if s.flagSet ≠ 0#8 then some false else s.editor.flagNotice
      transportNotice := some { state := s.tracker.transport, frame := s.tracker.currentFrame, onLink := false } } := by
  rw [if_congr s.flagSet_ne_zero_iff rfl rfl]
  rfl

/-- Settles O38: a whole frame by its parse and the order of R176, then the symbols out of a frame. -/
theorem editorFrameReceived : Obligations.EditorFrameReceived := by
  refine ⟨fun s bytes => ⟨fun invalid => ?discarded, fun f valid => ?examined⟩,
    fun s before rest => ⟨fun noEnd => ?restarts, fun idle noStart => ?idle⟩,
    fun s held bytes => ⟨fun receives => ?goesOn, ?partly⟩⟩
  case discarded =>
    refine goesOn_editorSymbols ?_
    rw [State.editorSymbols_frame_whole, State.editorFrame_invalid invalid]
    rfl
  case examined =>
    obtain ⟨-, -, -, -, known, -⟩ := parseFrame_eq_some valid
    have whole := State.editorSymbols_frame_whole s bytes
    rw [State.editorFrame_valid valid] at whole
    obtain ⟨inbound, hold, replies⟩ := (s.setEditorReceiving none).presentEditor_frame
    rw [presentEditor_received] at whole inbound hold replies
    intro y refused takes
    obtain ⟨idle, notMapped, badValue, full, admitted⟩ :=
      State.examineEditor_outcomes ((s.setEditorReceiving none).setEditor y) known
    have refuses (reason : RefusalReason) := State.refusingEditor_eq f.kind reason replies
    refine ⟨fun kind => goesOn_editorSymbols (whole.trans (idle kind)),
      fun kind seat => goesOn_editorSymbols (whole.trans ((notMapped kind seat).trans ?_)),
      fun kind seat other => goesOn_editorSymbols (whole.trans ((badValue kind seat other).trans ?_)),
      fun seat kind many => goesOn_editorSymbols (whole.trans ((full seat kind (inbound ▸ many)).trans ?_)),
      fun seat kind room => ?_⟩
    · exact congrArg _ (refuses _)
    · exact congrArg _ (refuses _)
    · exact congrArg _ (refuses _)
    · obtain ⟨c, carries, accepted⟩ := admitted seat kind (inbound ▸ room)
      exact ⟨c, carries, goesOn_editorSymbols (whole.trans (accepted.trans
        (congrArg _ (State.acceptEditor_eq c inbound hold))))⟩
  case restarts =>
    obtain ⟨x, left⟩ := State.editorSymbols_partial (s := s) noEnd
    rw [exec_editorFrameReceived, exec_editorFrameReceived, List.foldl_append, left, List.foldl_cons, List.foldl_cons,
      State.editorSymbol_startOfFrame, State.editorSymbol_startOfFrame, State.setEditorReceiving_setEditorReceiving]
  case idle =>
    rw [exec_editorFrameReceived, exec_editorFrameReceived, List.foldl_append, State.editorSymbols_idle idle noStart]
  case goesOn =>
    rw [exec_editorFrameReceived, exec_editorFrameReceived, State.editorSymbols_ends bytes receives,
      State.editorSymbols_frame_whole]
  case partly =>
    refine goesOn_editorSymbols ?_
    rw [List.foldl_cons, State.editorSymbol_startOfFrame, State.editorSymbols_data (held := []) bytes rfl,
      State.setEditorReceiving_setEditorReceiving, List.nil_append]
    rfl

end Sys2Proof.Machine
end

section
/-! SUPPORT. The discard of every open segment (R100, R109): what it reads, what it leaves, and what it posts. -/

namespace Sys2Proof.Machine

open Sys2Proof.Safety

/-- Two states in which the discard of a segment reads the same, and so does the same (R100, R109). -/
structure SameChains (s u : State) : Prop where
  store : u.store = s.store
  port : u.port = s.port
  freeDraws : u.freeDraws = s.freeDraws
  segments : u.writer.segments = s.writer.segments

/-- What neither a discard nor the abort of a load reaches of the store: all but the free list in memory, the refill, the load
and POOL_LOW (R100, R123). -/
structure SameBeyondPool (x y : ListStore) : Prop where
  descriptors : y.descriptors = x.descriptors
  freeQueue : y.freeQueue = x.freeQueue
  storeState : y.storeState = x.storeState
  spliceQueue : y.spliceQueue = x.spliceQueue
  splice : y.splice = x.splice

theorem SameBeyondPool.refl (x : ListStore) : SameBeyondPool x x := ⟨rfl, rfl, rfl, rfl, rfl⟩

theorem SameBeyondPool.trans {x y z : ListStore} (first : SameBeyondPool x y) (second : SameBeyondPool y z) :
    SameBeyondPool x z where
  descriptors := second.descriptors.trans first.descriptors
  freeQueue := second.freeQueue.trans first.freeQueue
  storeState := second.storeState.trans first.storeState
  spliceQueue := second.spliceQueue.trans first.spliceQueue
  splice := second.splice.trans first.splice

/-- How many records the open segment of a control holds. -/
def State.openCount (s : State) (c : ControlId) : Nat :=
  match s.segmentOf c with
  | some g => g.count
  | none => 0

namespace State

variable {s u : State}

/-! ## One segment -/

theorem discardSegment_closed {c : ControlId} (closed : s.segmentOf c = none) : s.discardSegment c = s := by
  simp only [discardSegment, closed]

theorem segmentOf_discardSegment (s : State) (c d : ControlId) : (s.discardSegment c).segmentOf d =
    if d = c then none else s.segmentOf d := by
  cases opened : s.segmentOf c with
  | none =>
    rw [discardSegment_closed opened]
    split
    · next same => rw [same, opened]
    · rfl
  | some g =>
    rw [discardSegment_opened opened, returnChain_eq, ← setSegment_segmentOf]
    rfl

theorem totalFree_discardSegment (s : State) (c : ControlId) :
    (s.discardSegment c).totalFree = s.totalFree + s.openCount c := by
  cases opened : s.segmentOf c with
  | none => rw [discardSegment_closed opened, openCount, opened, Nat.add_zero]
  | some g =>
    rw [discardSegment_opened opened, returnChain_totalFree, openCount, opened]
    rfl

theorem discardSegment_kept (s : State) (c : ControlId) : SameBeyondPool s.store (s.discardSegment c).store ∧
    (s.discardSegment c).store.load = s.store.load ∧
    (s.discardSegment c).writer.closeAllBar = s.writer.closeAllBar := by
  cases opened : s.segmentOf c with
  | none =>
    rw [discardSegment_closed opened]
    exact ⟨.refl _, rfl, rfl⟩
  | some g =>
    rw [discardSegment_opened opened, returnChain_eq]
    exact ⟨⟨rfl, rfl, rfl, rfl, rfl⟩, rfl, rfl⟩

/-- A request that belongs to no segment stays at the memory port. -/
theorem mem_requests_discardSegment {q : MemRequest} (unowned : ∀ d, q.disown d = q) (stands : q ∈ s.port.requests)
    (c : ControlId) : q ∈ (s.discardSegment c).port.requests := by
  cases opened : s.segmentOf c with
  | none => rwa [discardSegment_closed opened]
  | some g =>
    rw [discardSegment_opened opened, returnChain_eq]
    have mapped : q ∈ s.port.requests.map (MemRequest.disown c) := List.mem_map.2 ⟨q, stands, unowned c⟩
    simp [mapped]

/-- The closing write of a discarded segment and the return write of its chain are posted (R100, R109). -/
theorem discardSegment_posts {c : ControlId} {g : Segment} (opened : s.segmentOf c = some g) :
    .closing none (tailWrite g g.reserve) ∈ (s.discardSegment c).port.requests ∧
    ∃ r : Record, r.last = false ∧
      .chainReturn .discard { slot := g.reserve, record := r } ∈ (s.discardSegment c).port.requests := by
  rw [discardSegment_opened opened, returnChain_eq]
  exact ⟨by simp, _, rfl, List.mem_append_right _ (List.mem_singleton_self _)⟩

theorem sameChains_discardSegment (same : SameChains s u) (c : ControlId) :
    SameChains (s.discardSegment c) (u.discardSegment c) := by
  have segment : u.segmentOf c = s.segmentOf c := congrArg (tget · c) same.segments
  cases opened : s.segmentOf c with
  | none => rwa [discardSegment_closed opened, discardSegment_closed (segment.trans opened)]
  | some g =>
    rw [discardSegment_opened opened, discardSegment_opened (segment.trans opened), returnChain_eq, returnChain_eq]
    obtain ⟨store, port, freeDraws, segments⟩ := same
    have write : State.returnWrite u g.reserve = s.returnWrite g.reserve := by
      simp only [returnWrite, returnContents, freeDraws, store]
    exact ⟨by simp [store], congrArg₂ MemoryPort.mk (congrArg₂ (· ++ [·]) (by rw [port]) (congrArg _ write)) (by rw [port]),
      congrArg (· + 1) freeDraws, congrArg (tset · c none) segments⟩

/-! ## Every segment -/

theorem segmentOf_discardFold (l : List ControlId) (s : State) (d : ControlId) :
    (l.foldl discardSegment s).segmentOf d = if d ∈ l then none else s.segmentOf d := by
  induction l generalizing s with
  | nil => rfl
  | cons c l ih =>
    rw [List.foldl_cons, ih, segmentOf_discardSegment]
    by_cases later : d ∈ l <;> simp [later, List.mem_cons]

theorem totalFree_discardFold {l : List ControlId} (once : l.Nodup) (s : State) :
    (l.foldl discardSegment s).totalFree = s.totalFree + (l.map s.openCount).sum := by
  induction l generalizing s with
  | nil => rfl
  | cons c l ih =>
    obtain ⟨notLater, once⟩ := List.nodup_cons.1 once
    have apart : l.map (s.discardSegment c).openCount = l.map s.openCount :=
      List.map_congr_left fun d later => by
        rw [openCount, segmentOf_discardSegment, if_neg (ne_of_mem_of_not_mem later notLater)]
        rfl
    rw [List.foldl_cons, ih once, totalFree_discardSegment, apart, List.map_cons, List.sum_cons, Nat.add_assoc]

theorem discardFold_kept (l : List ControlId) (s : State) :
    SameBeyondPool s.store (l.foldl discardSegment s).store ∧
    (l.foldl discardSegment s).store.load = s.store.load ∧
    (l.foldl discardSegment s).writer.closeAllBar = s.writer.closeAllBar := by
  induction l generalizing s with
  | nil => exact ⟨.refl _, rfl, rfl⟩
  | cons c l ih =>
    obtain ⟨first, firstLoad, firstBar⟩ := s.discardSegment_kept c
    obtain ⟨rest, load, bar⟩ := ih (s.discardSegment c)
    exact ⟨first.trans rest, load.trans firstLoad, bar.trans firstBar⟩

theorem mem_requests_discardFold {q : MemRequest} (unowned : ∀ d, q.disown d = q) (l : List ControlId)
    (stands : q ∈ s.port.requests) : q ∈ (l.foldl discardSegment s).port.requests := by
  induction l generalizing s with
  | nil => exact stands
  | cons c l ih => exact ih (mem_requests_discardSegment unowned stands c)

theorem discardFold_posts {l : List ControlId} {c : ControlId} {g : Segment} (listed : c ∈ l)
    (opened : s.segmentOf c = some g) :
    .closing none (tailWrite g g.reserve) ∈ (l.foldl discardSegment s).port.requests ∧
    ∃ r : Record, r.last = false ∧
      .chainReturn .discard { slot := g.reserve, record := r } ∈ (l.foldl discardSegment s).port.requests := by
  induction l generalizing s with
  | nil => cases listed
  | cons d l ih =>
    by_cases here : c = d
    · subst here
      obtain ⟨closing, r, last, returned⟩ := discardSegment_posts opened
      exact ⟨mem_requests_discardFold (fun d => by simp [MemRequest.disown]) l closing, r, last,
        mem_requests_discardFold (fun _ => rfl) l returned⟩
    · refine ih ((List.mem_cons.1 listed).resolve_left here) ?_
      rw [segmentOf_discardSegment, if_neg here, opened]

theorem sameChains_discardFold (l : List ControlId) (same : SameChains s u) :
    SameChains (l.foldl discardSegment s) (l.foldl discardSegment u) := by
  induction l generalizing s u with
  | nil => exact same
  | cons c l ih => exact ih (sameChains_discardSegment same c)

/-! ## Every open segment, in ascending order -/

theorem discardAll_segmentOf (s : State) (c : ControlId) : s.discardAll.segmentOf c = none := by
  unfold discardAll
  rw [segmentOf_discardFold, if_pos (List.mem_finRange c)]

theorem discardAll_totalFree (s : State) :
    s.discardAll.totalFree = s.totalFree + ((List.finRange 208).map s.openCount).sum :=
  totalFree_discardFold (List.nodup_finRange 208) s

theorem discardAll_kept (s : State) : SameBeyondPool s.store s.discardAll.store ∧
    s.discardAll.store.load = s.store.load ∧ s.discardAll.writer.closeAllBar = s.writer.closeAllBar := by
  unfold discardAll
  exact discardFold_kept _ s

theorem discardAll_posts {c : ControlId} {g : Segment} (opened : s.segmentOf c = some g) :
    .closing none (tailWrite g g.reserve) ∈ s.discardAll.port.requests ∧
    ∃ r : Record, r.last = false ∧
      .chainReturn .discard { slot := g.reserve, record := r } ∈ s.discardAll.port.requests := by
  unfold discardAll
  exact discardFold_posts (List.mem_finRange c) opened

theorem sameChains_discardAll (same : SameChains s u) : SameChains s.discardAll u.discardAll := by
  unfold discardAll
  exact sameChains_discardFold _ same

end State

end Sys2Proof.Machine
end

section
/-! SUPPORT. MIX RESET (R58, R82, R83, R100, R152, R192): the part it resets at once, the pool after the discards and the abort,
and the relocation and the flags. -/

namespace Sys2Proof.Machine

open Sys2Proof.Safety

/-- How many records a load's chain gives back (R123). -/
def State.loadCount (s : State) : Nat :=
  match s.store.load with
  | some l => if l.first.isSome ∧ l.tail.isSome then l.received else 0
  | none => 0

namespace State

variable {s t u : State} {l : Load}

/-! ## The abort of the load (R123, R185) -/

/-- What an aborted load leaves of the store, what the pool gains, and that no request leaves the memory port. -/
theorem loadAborted_kept {before : MemoryPort} (aborted : LoadAborted s before l t) :
    SameBeyondPool s.store t.store ∧
    t.totalFree = s.totalFree + (if l.first.isSome ∧ l.tail.isSome then l.received else 0) ∧
    ∀ q ∈ before.requests, q ∈ t.port.requests := by
  obtain ⟨unfilled, filled⟩ := aborted
  by_cases chain : l.first.isSome ∧ l.tail.isSome
  · obtain ⟨⟨f, first⟩, h, tail⟩ := chain.imp Option.isSome_iff_exists.1 Option.isSome_iff_exists.1
    obtain ⟨store, port⟩ := filled f h first tail
    rw [if_pos chain, totalFree, store, port]
    exact ⟨⟨rfl, rfl, rfl, rfl, rfl⟩, (Nat.add_assoc ..).symm, fun _ stands => List.mem_append_left _ stands⟩
  · have lacks : l.first = none ∨ l.tail = none := by
      simpa only [not_and_or, Option.not_isSome_iff_eq_none] using chain
    obtain ⟨store, port⟩ := unfilled lacks
    rw [if_neg chain, totalFree, store, port]
    exact ⟨⟨rfl, rfl, rfl, rfl, rfl⟩, rfl, fun _ stands => stands⟩

/-- The refill of a store does not depend on POOL_LOW, and a chain return is no walk read: an aborted load stays one when both
are reset (R123, R136, R190). -/
theorem loadAborted_reset {left : State} (aborted : LoadAborted s s.port l t)
    (leftStore : left.store = { s.store with poolLow := false }) (store : u.store = { t.store with poolLow := false })
    (port : u.port = walksDropped t.port) : LoadAborted left (walksDropped s.port) l u := by
  obtain ⟨unfilled, filled⟩ := aborted
  refine ⟨fun lacks => ?_, fun f h first tail => ?_⟩
  · obtain ⟨aborts, posts⟩ := unfilled lacks
    rw [store, port, leftStore, aborts, posts]
    exact ⟨rfl, rfl⟩
  · obtain ⟨aborts, posts⟩ := filled f h first tail
    rw [store, port, leftStore, aborts, posts]
    exact ⟨rfl, by simp [walksDropped]⟩

theorem abortLoad_kept (s : State) (reason : Option AbortReason) : SameBeyondPool s.store (s.abortLoad reason).store ∧
    (s.abortLoad reason).totalFree = s.totalFree + s.loadCount ∧
    (∀ q ∈ s.port.requests, q ∈ (s.abortLoad reason).port.requests) ∧ (s.abortLoad reason).store.load = none := by
  cases load : s.store.load with
  | none =>
    have nothing : s.loadCount = 0 := by rw [loadCount, load]
    rw [abortLoad_none reason load, nothing]
    exact ⟨.refl _, rfl, fun _ stands => stands, load⟩
  | some l =>
    obtain ⟨aborted, -⟩ := abortLoad_spec s l reason load
    obtain ⟨beyond, free, stay⟩ := loadAborted_kept aborted
    rw [loadCount, load]
    exact ⟨beyond, free, stay, loadAborted_idle aborted⟩

/-! ## The pool after the discards and the abort (R100, R123) -/

/-- What MIX RESET resets at once: touches, pass, bar and evaluation records. -/
def mixCleared (s : State) : State := s.removeAllTouches.abandonPass.resetRecords

/-- After that, the discards of the open segments and the abort of the load. -/
def mixFreed (s : State) : State := s.mixCleared.discardAll.abortLoad (some .reset)

theorem takeMixReset_eq (s : State) :
    s.takeMixReset = (s.mixFreed.relocateAll.clearFlagSet 0x7F#8).postDone kindMixReset := rfl

theorem mixFreed_kept (s : State) : SameBeyondPool s.store s.mixFreed.store ∧ s.mixFreed.store.load = none := by
  obtain ⟨discards, -, -⟩ := s.mixCleared.discardAll_kept
  obtain ⟨aborts, -, -, idle⟩ := s.mixCleared.discardAll.abortLoad_kept (some .reset)
  unfold mixFreed
  exact ⟨discards.trans aborts, idle⟩

/-- The chains of the segments and of the load return to the pool (R100, R123). -/
theorem mixFreed_totalFree (s : State) : s.mixFreed.totalFree =
    s.totalFree + ((List.finRange 208).map s.openCount).sum + s.loadCount := by
  obtain ⟨-, kept, -⟩ := s.mixCleared.discardAll_kept
  obtain ⟨-, free, -, -⟩ := s.mixCleared.discardAll.abortLoad_kept (some .reset)
  have load : s.mixCleared.discardAll.loadCount = s.loadCount := by
    unfold loadCount
    rw [kept]
    rfl
  refine free.trans ?_
  rw [load, discardAll_totalFree]
  rfl

theorem mixFreed_posts {c : ControlId} {g : Segment} (opened : s.segmentOf c = some g) :
    .closing none (tailWrite g g.reserve) ∈ s.mixFreed.port.requests ∧
    ∃ r : Record, r.last = false ∧ .chainReturn .discard { slot := g.reserve, record := r } ∈ s.mixFreed.port.requests := by
  obtain ⟨-, -, stay, -⟩ := s.mixCleared.discardAll.abortLoad_kept (some .reset)
  obtain ⟨closing, r, last, returned⟩ := discardAll_posts (s := s.mixCleared) opened
  unfold mixFreed
  exact ⟨stay _ closing, r, last, stay _ returned⟩

/-- The segments are closed, and the bar stays cleared (R87, R100). -/
theorem mixFreed_writer (s : State) : (∀ c, s.mixFreed.segmentOf c = none) ∧ s.mixFreed.writer.closeAllBar = false := by
  have writer : s.mixFreed.writer = s.mixCleared.discardAll.writer := by simp [mixFreed]
  obtain ⟨-, -, bar⟩ := s.mixCleared.discardAll_kept
  exact ⟨fun c => (segmentOf_congr writer c).trans (discardAll_segmentOf _ c), (congrArg _ writer).trans bar⟩

/-- MIX RESET clears every flag (R192). -/
theorem clearFlagSet_all (s : State) : s.clearFlagSet 0x7F#8 = { s with
    tracker := { s.tracker with lockLost := false, passOverrun := false }
    store := { s.store with poolLow := false }
    surface := tbuild (fun p => { s.surfaceOf p with linkDown := false }) } := by
  have named : ∀ p : SurfaceId, (0x7F#8).getLsbD (3 + p.val) = true := by decide
  simp only [clearFlagSet_eq, named]
  rfl

theorem mixReset_goesOn (handed : HandedToPart s .mixReset) : GoesOnTo (exec .mixReset s) s.popEditor.takeMixReset := by
  simp only [exec, execMixReset, headCommand_of_handed handed]
  exact goesOn_transmitEditor _

/-! ## The state that MIX RESET leaves -/

theorem mixFreed_frame (s : State) :
    s.mixFreed.arbiter = s.removeAllTouches.arbiter ∧ s.mixFreed.pass = s.mixCleared.pass ∧
    s.mixFreed.engine = { s.engine with building := none } ∧
    s.mixFreed.tracker = { s.tracker with pendingFrame := none } ∧
    s.mixFreed.cursors = s.cursors ∧ s.mixFreed.surface = s.surface := by
  have kept : s.mixFreed.engine = s.mixCleared.engine ∧ s.mixFreed.tracker = s.mixCleared.tracker := by simp [mixFreed]
  obtain ⟨engine, tracker⟩ := kept
  exact ⟨by simp [mixFreed, mixCleared], by simp [mixFreed], engine, tracker, by simp [mixFreed, mixCleared],
    by simp [mixFreed, mixCleared]⟩

/-- With no load in flight, the discards alone reach the pool and the memory port. -/
theorem mixFreed_idle (discards : SameChains t s.mixCleared.discardAll) (idle : s.store.load = none) :
    s.mixFreed.store = t.store ∧ s.mixFreed.port = t.port ∧ s.mixFreed.freeDraws = t.freeDraws ∧
    s.mixFreed.editor = s.editor := by
  obtain ⟨-, kept, -⟩ := s.mixCleared.discardAll_kept
  unfold mixFreed
  rw [abortLoad_none _ (kept.trans idle)]
  exact ⟨discards.store, discards.port, discards.freeDraws, by simp [mixCleared]⟩

/-- A load in flight is aborted after the discards, and ABORTED goes into its place (R123, R185, R192). -/
theorem mixFreed_aborts (discards : SameChains t s.mixCleared.discardAll) (load : s.store.load = some l) :
    LoadAborted t t.port l s.mixFreed ∧ s.mixFreed.freeDraws = t.freeDraws ∧
    s.mixFreed.editor = { s.editor with
      waitingRecord := none
      replies := s.editor.replies.erase (.reserved .load) ++ [.held (.aborted kindListBegin .reset)] } := by
  obtain ⟨-, kept, -⟩ := s.mixCleared.discardAll_kept
  obtain ⟨aborted, frame⟩ := abortLoad_spec _ l (some .reset) (kept.trans load)
  have editor : s.mixCleared.discardAll.editor = s.editor := by simp [mixCleared]
  unfold mixFreed
  refine ⟨?_, ?_, ?_⟩
  · rw [← discards.port]
    exact loadAborted_congr aborted discards.store.symm
  · exact (by simp : _ = s.mixCleared.discardAll.freeDraws).trans discards.freeDraws
  · rw [frame, editor]

/-- After the discards and the abort, every cursor but a PARKED one relocates, every flag is cleared and DONE is posted. -/
theorem takeMixReset_fields (s : State) :
    s.takeMixReset.store = { s.mixFreed.store with poolLow := false } ∧
    s.takeMixReset.port = walksDropped s.mixFreed.port ∧ s.takeMixReset.freeDraws = s.mixFreed.freeDraws ∧
    s.takeMixReset.writer = s.mixFreed.writer ∧
    s.takeMixReset.tracker = { s.mixFreed.tracker with lockLost := false, passOverrun := false } ∧
    s.takeMixReset.cursors = s.mixFreed.relocateAll.cursors ∧
    (∀ p, s.takeMixReset.surfaceOf p = { s.mixFreed.surfaceOf p with linkDown := false }) ∧
    s.takeMixReset.editor = { s.mixFreed.editor with
      replies := s.mixFreed.editor.replies ++ [.held (.done kindMixReset)] } := by
  rw [takeMixReset_eq, clearFlagSet_all, ← relocateAll_port]
  have surface (p : SurfaceId) : s.mixFreed.relocateAll.surfaceOf p = s.mixFreed.surfaceOf p :=
    surfaceOf_congr (by simp) p
  exact ⟨by simp [postDone], by simp [postDone], by simp [postDone], by simp [postDone], by simp [postDone],
    by simp [postDone], fun p => by rw [← surface]; exact tget_tbuild _ p, by simp [postDone, postEditor]⟩

end State

end Sys2Proof.Machine
end

section
/-! SUPPORT. MIX RESET (R192): the statement, from the fields that it leaves. -/

namespace Sys2Proof.Machine

open Sys2Proof.Safety

namespace State

variable {s : State}

/-- Every touch is removed, and every seat holds none (R58). -/
theorem takeMixReset_touches (s : State) : (∀ c, s.takeMixReset.touchOf c = none ∧ s.takeMixReset.liveOf c = s.liveOf c) ∧
    (∀ i, s.takeMixReset.seatOf i = { s.seatOf i with heldTouches := 0 }) ∧
    s.takeMixReset.arbiter.staleTimeout = s.arbiter.staleTimeout := by
  obtain ⟨freed, -⟩ := s.mixFreed_frame
  have arbiter : s.takeMixReset.arbiter = s.removeAllTouches.arbiter := by
    rw [takeMixReset_eq, ← freed]
    simp [postDone]
  refine ⟨fun c => ⟨?_, liveOf_congr arbiter c⟩, fun i => ?_, by rw [arbiter]; rfl⟩
  · rw [touchOf_congr arbiter, removeAllTouches, touchOf_isolate]
    cases s.touchOf c <;> simp
  · rw [seatOf_congr arbiter, removeAllTouches, seatOf_isolate, if_pos rfl]

/-- The pass is idle, its evaluation records are reset, and its building bank is free (R82, R83, R152). -/
theorem takeMixReset_pass (s : State) :
    s.takeMixReset.pass = { s.pass with
      run := PassRun.idle, records := tbuild (fun c => mixResetRecord (s.recordOf c)) } ∧
    s.takeMixReset.engine = { s.engine with building := none } := by
  obtain ⟨-, pass, engine, -⟩ := s.mixFreed_frame
  rw [takeMixReset_eq]
  exact ⟨Eq.trans (by simp [postDone]) pass, Eq.trans (by simp [postDone]) engine⟩

theorem takeMixReset_recordOf (s : State) (c : ControlId) : s.takeMixReset.recordOf c = mixResetRecord (s.recordOf c) := by
  obtain ⟨pass, -⟩ := s.takeMixReset_pass
  unfold recordOf
  rw [pass]
  exact tget_tbuild _ c

/-- A cursor that is not PARKED relocates: at once on an empty list, and by a walk otherwise (R133, R192). -/
theorem takeMixReset_cursorOf (s : State) (c : ControlId) : s.takeMixReset.cursorOf c =
    if (s.cursorOf c).state = .parked then s.cursorOf c else (s.cursorOf c).relocated ((s.listOf c).count == 0) := by
  obtain ⟨-, -, -, -, -, cursors, -⟩ := s.takeMixReset_fields
  obtain ⟨-, -, -, -, kept, -⟩ := s.mixFreed_frame
  obtain ⟨beyond, -⟩ := s.mixFreed_kept
  have list : s.mixFreed.listOf c = s.listOf c := congrArg (tget · c) beyond.descriptors
  rw [cursorOf_congr cursors, relocateAll_cursorOf, cursorOf_congr kept, list]

end State

/-- Settles O48: the discards read the same before and after what MIX RESET clears first; the abort, the relocation and the
flags then take their parts one after another. Each part is a fact of its own about the state left, which is kept opaque. -/
theorem mixResetTaken : Obligations.MixResetTaken := by
  intro s handed
  have discards : SameChains s.discardAll s.popEditor.mixCleared.discardAll :=
    State.sameChains_discardAll ⟨rfl, rfl, rfl, rfl⟩
  have goesOn := State.mixReset_goesOn handed
  obtain ⟨touches, seats, stale⟩ := s.popEditor.takeMixReset_touches
  obtain ⟨pass, engine⟩ := s.popEditor.takeMixReset_pass
  obtain ⟨store, port, freeDraws, writer, tracker, cursors, surface, editor⟩ := s.popEditor.takeMixReset_fields
  obtain ⟨-, -, -, trackerFreed, -, surfaceFreed⟩ := s.popEditor.mixFreed_frame
  obtain ⟨closed, bar⟩ := s.popEditor.mixFreed_writer
  obtain ⟨beyond, idle⟩ := s.popEditor.mixFreed_kept
  have unloads := State.mixFreed_idle discards (s := s.popEditor)
  have aborts (l : Load) := State.mixFreed_aborts discards (s := s.popEditor) (l := l)
  have posts (c : ControlId) (g : Segment) := State.mixFreed_posts (s := s.popEditor) (c := c) (g := g)
  have records := s.popEditor.takeMixReset_recordOf
  have located (c : ControlId) : s.popEditor.takeMixReset.cursorOf c = if (s.cursorOf c).state = .parked then s.cursorOf c
      else (s.cursorOf c).relocated ((s.listOf c).count == 0) := s.popEditor.takeMixReset_cursorOf c
  have free := s.popEditor.mixFreed_totalFree
  have still : s.popEditor.takeMixReset.memory = s.memory ∧ s.popEditor.takeMixReset.now = s.now ∧
      s.popEditor.takeMixReset.pending = s.pending := by simp
  have walk := congrArg CursorUnit.walk cursors
  have all : (List.finRange 208).foldl State.discardSegment s = s.discardAll := rfl
  refine ⟨s.popEditor.takeMixReset, goesOn, ?_⟩
  rw [all]
  generalize s.popEditor.takeMixReset = t at *
  generalize s.popEditor.mixFreed = m at *
  generalize s.discardAll = discarded at *
  refine ⟨fun c => ?controls, seats, stale, ?run, ?config, ?safe, ?bar, engine, ?tracker, ?poolLow, ?load, ?spliceQueue,
    ?splice, ?freeQueue, ?storeState, ?free, fun c moves => ?moves, fun c parked => ?parked, walk, ?pool,
    fun c g opened => ?posts, fun p => ?surface, fun unloaded => ?editor, fun loaded => ?aborted, still⟩
  case controls =>
    obtain ⟨touch, live⟩ := touches c
    refine ⟨touch, live, (State.segmentOf_congr writer c).trans (closed c), ?_, records c⟩
    unfold State.listOf
    rw [store]
    exact congrArg (tget · c) beyond.descriptors
  case run => rw [pass]; rfl
  case config => rw [pass]; rfl
  case safe => rw [pass]; rfl
  case bar => rw [writer, bar]
  case tracker =>
    rw [tracker, trackerFreed]
    rfl
  case poolLow => rw [store]
  case load => rw [store, idle]
  case spliceQueue => exact (congrArg ListStore.spliceQueue store).trans beyond.spliceQueue
  case splice => exact (congrArg ListStore.splice store).trans beyond.splice
  case freeQueue => exact (congrArg ListStore.freeQueue store).trans beyond.freeQueue
  case storeState => exact (congrArg ListStore.storeState store).trans beyond.storeState
  case free =>
    have same : t.totalFree = m.totalFree := by simp only [State.totalFree, store]
    exact same.trans free
  case moves =>
    refine (located c).trans ((if_neg moves).trans ?_)
    by_cases empty : (s.listOf c).count = 0
    · rw [if_pos empty, empty]
      rfl
    · rw [if_neg empty, beq_false_of_ne empty]
      rfl
  case parked => exact (located c).trans (if_pos parked)
  case pool =>
    intro left
    refine ⟨fun unloaded => ?_, fun l load => ?_⟩
    · obtain ⟨storeFreed, portFreed, drawsFreed, -⟩ := unloads unloaded
      exact ⟨by rw [store, storeFreed], by rw [port, portFreed], freeDraws.trans drawsFreed⟩
    · obtain ⟨aborted, drawsFreed, -⟩ := aborts l load
      exact ⟨State.loadAborted_reset aborted rfl store port, freeDraws.trans drawsFreed⟩
  case posts =>
    obtain ⟨closing, r, last, returned⟩ := posts c g opened
    rw [port]
    exact ⟨List.mem_map.2 ⟨_, closing, rfl⟩, r, last, List.mem_map.2 ⟨_, returned, rfl⟩⟩
  case surface => rw [surface, State.surfaceOf_congr surfaceFreed]; rfl
  case editor =>
    obtain ⟨-, -, -, kept⟩ := unloads unloaded
    rw [editor, kept, State.popEditor_eq]
    simp [tookCommand]
  case aborted =>
    obtain ⟨l, load⟩ := Option.ne_none_iff_exists'.1 loaded
    obtain ⟨-, -, replied⟩ := aborts l load
    rw [editor, replied, State.popEditor_eq]
    simp [tookCommand]

end Sys2Proof.Machine
end

section
/-! SUPPORT. The payloads of messages (R194, R196, R197): the level two bytes spell and the bytes of a level, the kinds by
payload length, and the length and kind of whatever carries a message. -/

namespace Sys2Proof.Machine

/-! ## Levels (R194) -/

/-- Two bytes spell a level in two's complement. -/
theorem signed2_eq (hi lo : Byte) : signed2 hi lo =
    if number2 hi lo < 32768 then (number2 hi lo : Int) else (number2 hi lo : Int) - 65536 := by
  have fits : number2 hi lo < 2 ^ 16 := by
    have high := hi.isLt
    have low := lo.isLt
    unfold number2
    omega
  rw [signed2, BitVec.toInt_eq_toNat_cond, BitVec.toNat_ofNat, Nat.mod_eq_of_lt fits]
  split <;> split <;> omega

/-- The bytes of a level are the high and the low half of its 16 bits. -/
theorem levelBytes_eq (l : Level) :
    levelBytes l = [(BitVec.ofInt 16 l).extractLsb' 8 8, (BitVec.ofInt 16 l).extractLsb' 0 8] := by
  generalize word : BitVec.ofInt 16 l = w
  have high : byteOf (w.toNat / 256) = w.extractLsb' 8 8 := by
    apply BitVec.eq_of_toNat_eq
    simp [byteOf_toNat, Nat.shiftRight_eq_div_pow]
  have low : byteOf w.toNat = w.extractLsb' 0 8 := by
    apply BitVec.eq_of_toNat_eq
    simp [byteOf_toNat]
  rw [levelBytes, bytes2, word, high, low]

/-! ## Lengths (R154, R176) -/

theorem surfaceLength_eq (kind : Byte) : surfaceLength kind =
    if kind ∈ [kindHello, kindIdle] then some 0 else if kind ∈ [kindTouch, kindRelease, kindQuery] then some 1
    else if kind ∈ [kindBank, kindMode] then some 2 else if kind = kindMove then some 3 else none := by
  simp only [surfaceLength, List.mem_cons, List.not_mem_nil, or_false]

theorem editorLength_eq (kind : Byte) : editorLength kind =
    if kind ∈ [kindIdle, kindListEnd, kindStatus, kindMixReset] then some 0
    else if kind ∈ [kindClearList, kindClearFlags, kindLinkReset] then some 1 else if kind = kindSetStem then some 2
    else if kind ∈ [kindSetSeat, kindListBegin] then some 3 else if kind = kindSetHub then some 5
    else if kind = kindListRecord then some 6 else if kind ∈ [kindSetControl, kindReadList] then some 7 else none := by
  simp only [editorLength, List.mem_cons, List.not_mem_nil, or_false]

/-! ## What carries a message -/

/-- A payload that carries a seat message has the length of its kind, and the message is of that kind (R172, R196). -/
theorem seatBody_carries {kind : Byte} {payload : List Byte} {b : SeatBody} (carries : seatBody kind payload = some b) :
    surfaceLength kind = some payload.length ∧ kind ≠ kindIdle ∧ b.kind = kind := by
  unfold seatBody at carries
  split at carries
  case h_5 => cases carries
  all_goals
    split_ifs at carries
    all_goals
      cases carries
      subst kind
      exact ⟨rfl, by decide, rfl⟩

/-- A payload that carries an editor command has the length of its kind (R193, R197). -/
theorem editorCommand_carries {kind : Byte} {payload : List Byte} {c : EditorCommand}
    (carries : editorCommand kind payload = some c) : editorLength kind = some payload.length ∧ kind ≠ kindIdle := by
  unfold editorCommand at carries
  split at carries
  case h_8 => cases carries
  all_goals
    split_ifs at carries
    all_goals
      subst kind
      exact ⟨rfl, by decide⟩

/-! ## What is sent -/

theorem state_payload (r : ControlState) : (OutMessage.state r).payload =
    controlByte r.control :: modeCode r.mode :: levelBytes r.presented ++
      [match r.holder with
        | some h => seatByte h
        | none => 0#8, flagByte r.segmentOpen, cursorCode r.cursor] := by
  cases holder : r.holder <;> simp [OutMessage.payload, holder]

/-- Settles O51: the codes and the payloads clause by clause, the two's complement of a level both ways, and the length and
kind of whatever carries a message. -/
theorem messagesFormatted : Obligations.MessagesFormatted := by
  refine ⟨?codes, fun a b c d e f g => ?inbound,
    ⟨surfaceLength_eq, editorLength_eq, fun _ _ _ => seatBody_carries, fun _ _ _ => editorCommand_carries⟩,
    fun seat n c i l frame kind => ?outbound⟩
  case codes => exact ⟨rfl, rfl, rfl, rfl, rfl, rfl, rfl, rfl, rfl⟩
  case inbound =>
    intro pair triple level
    have spelled (hi lo : Byte) : level hi lo = signed2 hi lo := (signed2_eq hi lo).symm
    simp only [spelled]
    refine ⟨⟨rfl, rfl, rfl, rfl, rfl, rfl, rfl⟩, ⟨rfl, rfl, rfl, rfl, rfl, rfl, rfl, rfl, rfl, rfl, rfl, rfl, rfl⟩,
      fun x presence => ?_⟩
    rw [← presence]
    exact ⟨rfl, rfl, rfl, rfl, rfl⟩
  case outbound =>
    intro sends control seatNumber level three
    have spelled : level = levelBytes l := (levelBytes_eq l).symm
    rw [spelled]
    refine ⟨⟨rfl, rfl, rfl, ?state, fun _ => ⟨rfl, fun _ => rfl⟩, rfl, rfl, fun _ => rfl, fun _ => rfl, rfl⟩,
      ⟨rfl, fun _ => rfl, fun _ => rfl, rfl, fun _ => rfl, rfl⟩, rfl, rfl, rfl, rfl, rfl⟩
    rintro r rfl rfl
    exact congrArg (frameBytes seat 0x24#8) (state_payload r)

end Sys2Proof.Machine
end

section
/-! SUPPORT. The queue of commands (logs 2 and 3): a step takes the command at its front, and no command reaches it. -/

namespace Sys2Proof.Machine

theorem step_of_front {s : State} {c : Instr} {rest : List Instr} (front : s.pending = c :: rest) :
    step s = exec c { s with pending := rest } := by
  unfold step
  rw [front]

theorem step_of_empty {s : State} (empty : s.pending = []) : step s = .next s.tick := by
  unfold step
  rw [empty]

/-- Every command goes on, to a state with the same commands still to come. -/
theorem exec_pending (c : Instr) (s : State) : ∃ t, exec c s = .next t ∧ t.pending = s.pending := by
  cases c with
  | powerOnReset | blockStart | blockEnd | engineRead => exact ⟨_, rfl, rfl⟩
  | frameMark ok f m => exact ⟨_, rfl, by split <;> simp⟩
  | frameTimerExpiry | deferredClosingWork | loadRecordSlot | surfaceFrameReceived | editorFrameReceived =>
    exact ⟨_, rfl, by simp⟩
  | farHoldChange port raised => cases port <;> exact ⟨_, rfl, by simp⟩
  | touch | move | release | mode | query =>
    simp only [exec, execTouch, execMove, execRelease, execMode, execQuery]
    split
    · exact ⟨_, rfl, by simp [State.takeFader_frame]⟩
    · exact ⟨_, rfl, rfl⟩
  | controlEvaluation | evaluationResume | memoryGrant | appendWriteComplete | closingWriteComplete
  | chainReturnWriteComplete | refillReadComplete | fetchComplete | walkStart | walkReadComplete | spliceStart
  | spliceWalkReadComplete | spliceWriteComplete | formatWriteComplete | loadWriteComplete | loadReplacement
  | clearListEvent | listReadRequest | listReadComplete | silenceExpiry | surfaceFrameSent | bank | hello
  | editorSilenceExpiry | editorFrameSent | setControl | setStem | setSeat | setHub | listBegin | listRecord | listEnd
  | readList | clearList | status | clearFlags | mixReset | linkReset =>
    simp only [exec, execControlEvaluation, execEvaluationResume, execMemoryGrant, execAppendWriteComplete,
      execClosingWriteComplete, execChainReturnWriteComplete, execRefillReadComplete, execFetchComplete, execWalkStart,
      execWalkReadComplete, execSpliceStart, execSpliceWalkReadComplete, execSpliceWriteComplete,
      execFormatWriteComplete, execLoadWriteComplete, execLoadReplacement, execClearListEvent, execListReadRequest,
      execListReadComplete, execSilenceExpiry, execSurfaceFrameSent, execBank, execHello, execEditorSilenceExpiry,
      execEditorFrameSent, execSetControl, execSetStem, execSetSeat, execSetHub, execListBegin, execListRecord,
      execListEnd, execReadList, execClearList, execStatus, execClearFlags, execMixReset, execLinkReset]
    split <;> exact ⟨_, rfl, by simp⟩

/-- Settles O1: a step by the front of the queue, and the frame of every command for the queue. -/
theorem stepRunsFrontCommand : Obligations.StepRunsFrontCommand :=
  ⟨⟨fun _ _ _ front => step_of_front front, fun _ empty => step_of_empty empty⟩, exec_pending⟩

end Sys2Proof.Machine
end
